-- ==== Sys2Proof/Word.lean ====
section
/-!
DEFINITION. The byte of the management and span-link lines, and the plain number constants the
spec names (00_scope, Conventions).  Every other arithmetic helper stands in
Machine/Operands.lean.
-/

namespace Sys2Proof

/-- One byte of a management line, a label line or a span-link frame. -/
abbrev Byte := BitVec 8

/-- 2^64: hall time, oscillator time and rack time are unsigned 64-bit quantities
(00_scope, "Times and time bases"; R1, R18). -/
abbrev two64 : Nat := 18446744073709551616

/-- A whole second of hall time, in ns (00_scope, "Times and time bases"). -/
abbrev second : Nat := 1000000000

/-- The largest uncertainty, which reads as "unbounded" (00_scope, "Arithmetic"). -/
abbrev unbounded : Nat := 4294967295

end Sys2Proof
end

