-- ==== Sys2Proof/Config.lean ====
section
/-!
DEFINITION. The free values: what the spec leaves open.  Each is a constant with no body, so that
no proof can rest on a value of it.
-/

namespace Sys2Proof.Config

/-- Which of several internal events that are due at the same oscillator instant is taken first.
The spec leaves the order open ("either may be taken first", R19, R22, R35, R43, R56, R84, R108,
R154); the argument is the model's counter of such choices.  DESIGN CHOICE, log entry 2. -/
opaque tieBreak : Nat → Nat

/-- What a signed field of the given number of bytes carries on the wire when the value lies
outside the range of the field (R186 states no result there).  DESIGN CHOICE, log entry 3. -/
opaque wireOverflow : Nat → Int → Nat

/-- The 64-bit rack time held when an exact rack time of R104, R105 or R107 lies below 0 or above
2^64 − 1 (the spec states no result there).  DESIGN CHOICE, log entry 4. -/
opaque rackTimeOverflow : Int → BitVec 64

/-- Whether a HELLO whose endpoint kind byte is neither 0 nor 1 is held as a CASCADE (Table 12-1
names the codes 0 and 1 only).  DESIGN CHOICE, log entry 5. -/
opaque endpointIsCascade : Byte → Bool

end Sys2Proof.Config
end

