-- ==== Sys2Proof/Machine/Operands.lean ====
section
/-!
DEFINITION. The operand forms: the two roundings and the clampings of 00_scope ("Arithmetic"), the
byte order of R186, the request-body fields, and the two cyclic checks of R186.
-/

namespace Sys2Proof.Machine

/-! ## Arithmetic (00_scope) -/

/-- "rounded down": toward minus infinity (for a positive divisor). -/
def divDown (a b : Int) : Int := a / b

/-- "truncated": toward zero. -/
def divTrunc (a b : Int) : Int := a.tdiv b

/-- "rounded up": toward plus infinity (for a positive divisor). -/
def divUp (a b : Int) : Int := -((-a) / b)

/-- "Clamped to ±X". -/
def clampSym (x : Nat) (v : Int) : Int :=
  if v < -(x : Int) then -(x : Int) else if (x : Int) < v then x else v

/-- A setting brought to the nearer end of its range (R177). -/
def clampRange (lo hi v : Nat) : Nat := if v < lo then lo else if hi < v then hi else v

/-- "Saturating at X". -/
def satAdd (limit a b : Nat) : Nat := if limit < a + b then limit else a + b

/-! ## Byte order (R186): most significant byte first -/

/-- The number spelled by bytes, the first the most significant. -/
def natOfBytes (bs : List Byte) : Nat := bs.foldl (fun acc b => acc * 256 + b.toNat) 0

/-- `n` bytes of a number, the most significant first. -/
def beBytes : Nat → Nat → List Byte
  | 0, _ => []
  | n + 1, v => BitVec.ofNat 8 (v / 256 ^ n) :: beBytes n (v % 256 ^ n)

/-- Whether a signed value lies in the range of a two's-complement field of `n` bytes. -/
def fitsSigned (n : Nat) (v : Int) : Bool := decide (-(256 ^ n / 2 : Int) ≤ v ∧ v < (256 ^ n / 2 : Int))

/-- A signed field of `n` bytes in two's complement (R186); outside its range the bytes are a free
value (log entry 3). -/
def beInt (n : Nat) (v : Int) : List Byte :=
  if fitsSigned n v then beBytes n (v % (256 ^ n : Int)).toNat else beBytes n (Config.wireOverflow n v)

/-- The signed number of a two's-complement field of `n` bytes. -/
def signedOf (n v : Nat) : Int := if 2 * v < 256 ^ n then v else (v : Int) - 256 ^ n

/-- Field of `n` bytes at an offset of a body. -/
def field (body : List Byte) (off n : Nat) : Nat := natOfBytes ((body.drop off).take n)

/-- Signed field of `n` bytes at an offset of a body. -/
def fieldInt (body : List Byte) (off n : Nat) : Int := signedOf n (field body off n)

/-- A flag byte: 1 for yes, 0 for no; any other value lies outside its named values (R186). -/
def flagOf (v : Nat) : Option Bool := if v = 0 then some false else if v = 1 then some true else none

/-- A flag sent (R186). -/
def flagByte (b : Bool) : Byte := if b then 1#8 else 0#8

/-- An exact rack time held as a 64-bit quantity; outside the range a free value (log entry 4). -/
def rackTime (v : Int) : Nat :=
  if 0 ≤ v ∧ v < (two64 : Int) then v.toNat else (Config.rackTimeOverflow v).toNat

/-! ## Cyclic checks (R186) -/

/-- One bit of the 16-bit check register, polynomial x^16 + x^12 + x^5 + 1. -/
def crc16Bit (r : BitVec 16) (bit : Bool) : BitVec 16 :=
  let shifted := r <<< 1
  if r.msb ^^ bit then shifted ^^^ 0x1021#16 else shifted

/-- One byte, most significant bit first. -/
def crc16Byte (r : BitVec 16) (b : Byte) : BitVec 16 :=
  [7, 6, 5, 4, 3, 2, 1, 0].foldl (fun acc i => crc16Bit acc (b.getLsbD i)) r

/-- The management check: preset to all ones, not inverted at the end. -/
def managementCheck (bs : List Byte) : BitVec 16 := bs.foldl crc16Byte 0xFFFF#16

/-- One bit of the 32-bit check register of R186. -/
def crc32Bit (r : BitVec 32) (bit : Bool) : BitVec 32 :=
  let shifted := r <<< 1
  if r.msb ^^ bit then shifted ^^^ 0x04C11DB7#32 else shifted

/-- One byte, most significant bit first. -/
def crc32Byte (r : BitVec 32) (b : Byte) : BitVec 32 :=
  [7, 6, 5, 4, 3, 2, 1, 0].foldl (fun acc i => crc32Bit acc (b.getLsbD i)) r

/-- The span-link check: preset to all ones, result inverted. -/
def spanCheck (bs : List Byte) : BitVec 32 := ~~~(bs.foldl crc32Byte 0xFFFFFFFF#32)

/-- The label check byte: exclusive-or of the marker 0xA7 and the nine bytes that follow (R20). -/
def labelCheck (bs : List Byte) : Byte := bs.foldl (· ^^^ ·) 0xA7#8

end Sys2Proof.Machine
end

