-- ==== Sys2Proof/Syntax.lean ====
section
/-!
DEFINITION. The commands of the part: one constructor of `Instr` per row of spec/opcode_table.json,
with what the event carries.  A management request carries its port, its tag byte and its body
bytes as they stand in the completed frame (12, "Management frame"); an event of a reference, a
link or a span-link frame carries what the line delivers.
-/

namespace Sys2Proof

/-- The two management ports (11). -/
inductive Port where
  | a
  | b
  deriving DecidableEq, Repr

/-- The two reference inputs (2). -/
inductive RefId where
  | a
  | b
  deriving DecidableEq, Repr

/-- The span links, numbered 0 to 39 (4). -/
abbrev Link := Fin 40

/-- Why a frame or a label record in assembly is abandoned (R20, R174). -/
inductive AbandonCause where
  /-- a byte whose stop bit is found low -/
  | stopBitLow
  /-- 10,000,000 ns of O with no further byte -/
  | silence
  /-- a length byte below 2 or above 242 (management frames only) -/
  | badLength
  deriving DecidableEq, Repr

/-- The fields of a HELLO frame (12, "Span-link frames"). -/
structure Hello where
  identity : BitVec 16
  domainId : BitVec 16
  domainInstance : BitVec 32
  generation : BitVec 8
  endpointKind : Byte
  deriving DecidableEq, Repr

/-- The fields of an ECHO frame (12, "Span-link frames"). -/
structure Echo where
  generation : BitVec 8
  exchange : BitVec 16
  t2 : BitVec 64
  t3 : BitVec 64
  deriving DecidableEq, Repr

/-- The fields of a MARK frame (12, "Span-link frames"). -/
structure Mark where
  eventKind : Byte
  markNumber : BitVec 16
  rackIdentity : BitVec 16
  sourceIdentity : BitVec 16
  generation : BitVec 8
  captureTime : BitVec 64
  deriving DecidableEq, Repr

/-- The commands, in the order of spec/opcode_table.json. -/
inductive Instr where
  -- resets
  /-- COLD_RESET: RSTN or power-up, with the strap levels sampled (R174, R185); true is high -/
  | coldReset (baud1 baud0 : Bool)
  /-- WARM_RESTART: the last byte of the RESTART reply has been sent (R182) -/
  | warmRestart
  -- management frames that are no request
  | requestFrameCheckFail (p : Port)
  | managementFrameAbandoned (p : Port) (cause : AbandonCause)
  | unknownRequest (p : Port) (kind tag : Byte) (body : List Byte)
  | replyTransmissionEnd (p : Port)
  -- requests
  | readSummary (p : Port) (tag : Byte) (body : List Byte)
  | serve (p : Port) (tag : Byte) (body : List Byte)
  | halt (p : Port) (tag : Byte) (body : List Byte)
  | restart (p : Port) (tag : Byte) (body : List Byte)
  | readTime (p : Port) (tag : Byte) (body : List Byte)
  | setRate (p : Port) (tag : Byte) (body : List Byte)
  | stepTime (p : Port) (tag : Byte) (body : List Byte)
  | setTimescale (p : Port) (tag : Byte) (body : List Byte)
  | setReference (p : Port) (tag : Byte) (body : List Byte)
  | setEpoch (p : Port) (tag : Byte) (body : List Byte)
  | startEpoch (p : Port) (tag : Byte) (body : List Byte)
  | stopEpoch (p : Port) (tag : Byte) (body : List Byte)
  | setDomain (p : Port) (tag : Byte) (body : List Byte)
  | setLink (p : Port) (tag : Byte) (body : List Byte)
  | setLinkRange (p : Port) (tag : Byte) (body : List Byte)
  | resetLink (p : Port) (tag : Byte) (body : List Byte)
  | readRack (p : Port) (tag : Byte) (body : List Byte)
  | readWindow (p : Port) (tag : Byte) (body : List Byte)
  | clearQuarantine (p : Port) (tag : Byte) (body : List Byte)
  | setDriftLimits (p : Port) (tag : Byte) (body : List Byte)
  | setSourceWindow (p : Port) (tag : Byte) (body : List Byte)
  | setClass (p : Port) (tag : Byte) (body : List Byte)
  | readStamps (p : Port) (tag : Byte) (body : List Byte)
  | waitUntil (p : Port) (tag : Byte) (body : List Byte)
  | takeCondition (p : Port) (tag : Byte) (body : List Byte)
  | setReporting (p : Port) (tag : Byte) (body : List Byte)
  | setRecording (p : Port) (tag : Byte) (body : List Byte)
  | setAction (p : Port) (tag : Byte) (body : List Byte)
  | setRepost (p : Port) (tag : Byte) (body : List Byte)
  -- hall time
  | rateBoundary
  | rtmStepNotice
  | sduStepNotice
  | epgStepNotice
  | epgWrap
  | waitOutWrap
  -- references
  /-- MARK_ARRIVAL: a rising edge captured at the oscillator instant given (R19) -/
  | markArrival (r : RefId) (captured : Nat)
  | labelArrival (r : RefId) (labelSecond : BitVec 64) (quality : Byte)
  | labelRecordAbandoned (r : RefId) (cause : AbandonCause)
  | missingMark (r : RefId)
  | holdoverLimitExpiry
  -- epoch outputs
  | epochBoundary
  | epaPulseEnd
  | epbPulseStart
  | epbPulseEnd
  -- span links
  | laneActivityGained (l : Link)
  | laneActivityLost (l : Link)
  | settleDeadline (l : Link)
  | trainingBlock (l : Link) (ready : Bool)
  | trainingDeadline (l : Link)
  | receivedFrameCheckFailure (l : Link)
  | unknownKind (l : Link)
  | linkErrorRateClear (l : Link)
  | frameDeparted (l : Link)
  -- rack frames and rack timers
  | hello (l : Link) (h : Hello)
  /-- ECHO: delivered with the arrival instant of its start block (R62) -/
  | echo (l : Link) (arrival : Nat) (e : Echo)
  | trimDone (l : Link) (generation : BitVec 8) (appliedAt : BitVec 64)
  | probeDue (l : Link)
  | exchangeTimeout (l : Link)
  | trimTimeout (l : Link)
  | lossDeadline (l : Link)
  | markFrame (l : Link) (m : Mark)
  -- wait-outs and conditions
  | waitOutRelease
  /-- REPOST: the record at a place of the condition list; place 64 is the reserved slot (R164, R166) -/
  | repost (place : Nat)
  -- single bytes and blocks
  | managementPortByte (p : Port) (byte : Byte)
  | labelLineByte (r : RefId) (byte : Byte)
  /-- FRAME_TRANSMISSION_BEGINS: with the departure instant captured at the start block (R61) -/
  | frameTransmissionBegins (l : Link) (departure : Nat)
  | trainingCountRestart (l : Link)
  deriving DecidableEq, Repr

end Sys2Proof
end

