-- ==== Sys2Proof/Decode.lean ====
section
/-!
DEFINITION. The command of a table word, and the command of a span-link frame as received (R63,
R186), with the frames of the four rack-to-part kinds as a rack endpoint sends them.
-/

namespace Sys2Proof

/-- The command a word spells by the bits of spec/opcode_table.json.  No row of the table gives any
bits, so no word spells a command. -/
def decodeTableWord (_nbits _w : Nat) : Option Instr := none

open Machine

/-- A received span-link frame, taken at its end block on a link, with the arrival instant of its
start block: the command it is (R63).  The payload bytes hold the kind, the fields and the padding;
the padding is covered by the check and its value is not judged (R186). -/
def decodeSpanFrame (l : Link) (arrival : Nat) (payload : List Byte) (check : BitVec 32) : Instr :=
  if spanCheck payload ≠ check then .receivedFrameCheckFailure l
  else
    match field payload 0 1, payload.length with
    | 0x81, 12 =>
      .hello l
        { identity := BitVec.ofNat 16 (field payload 1 2)
          domainId := BitVec.ofNat 16 (field payload 3 2)
          domainInstance := BitVec.ofNat 32 (field payload 5 4)
          generation := BitVec.ofNat 8 (field payload 9 1)
          endpointKind := BitVec.ofNat 8 (field payload 10 1) }
    | 0x82, 20 =>
      .echo l arrival
        { generation := BitVec.ofNat 8 (field payload 1 1)
          exchange := BitVec.ofNat 16 (field payload 2 2)
          t2 := BitVec.ofNat 64 (field payload 4 8)
          t3 := BitVec.ofNat 64 (field payload 12 8) }
    | 0x83, 12 =>
      .trimDone l (BitVec.ofNat 8 (field payload 1 1)) (BitVec.ofNat 64 (field payload 2 8))
    | 0x84, 20 =>
      .markFrame l
        { eventKind := BitVec.ofNat 8 (field payload 1 1)
          markNumber := BitVec.ofNat 16 (field payload 2 2)
          rackIdentity := BitVec.ofNat 16 (field payload 4 2)
          sourceIdentity := BitVec.ofNat 16 (field payload 6 2)
          generation := BitVec.ofNat 8 (field payload 8 1)
          captureTime := BitVec.ofNat 64 (field payload 9 8) }
    | _, _ => .unknownKind l

/-- The payload of a HELLO (12). -/
def Hello.payload (h : Hello) : List Byte :=
  0x81#8 :: (beBytes 2 h.identity.toNat ++ beBytes 2 h.domainId.toNat ++
    beBytes 4 h.domainInstance.toNat ++ beBytes 1 h.generation.toNat ++ [h.endpointKind, 0#8])

/-- The payload of an ECHO (12). -/
def Echo.payload (e : Echo) : List Byte :=
  0x82#8 :: (beBytes 1 e.generation.toNat ++ beBytes 2 e.exchange.toNat ++
    beBytes 8 e.t2.toNat ++ beBytes 8 e.t3.toNat)

/-- The payload of a TRIM-DONE (12). -/
def trimDonePayload (generation : BitVec 8) (appliedAt : BitVec 64) : List Byte :=
  0x83#8 :: (beBytes 1 generation.toNat ++ beBytes 8 appliedAt.toNat ++ [0#8, 0#8])

/-- The payload of a MARK (12). -/
def Mark.payload (m : Mark) : List Byte :=
  0x84#8 :: ([m.eventKind] ++ beBytes 2 m.markNumber.toNat ++ beBytes 2 m.rackIdentity.toNat ++
    beBytes 2 m.sourceIdentity.toNat ++ beBytes 1 m.generation.toNat ++
    beBytes 8 m.captureTime.toNat ++ [0#8, 0#8, 0#8])

/-- The payload a rack endpoint sends for a command that is a received frame. -/
def framePayload : Instr → Option (List Byte)
  | .hello _ h => some h.payload
  | .echo _ _ e => some e.payload
  | .trimDone _ g a => some (trimDonePayload g a)
  | .markFrame _ m => some m.payload
  | _ => none

end Sys2Proof
end

