-- ==== Sys2Proof/Machine/State.lean ====
section
/-!
DEFINITION. Every piece of state the spec gives the part, block by block, as plain data, with the
values after cold reset.  Unsigned quantities are `Nat`, signed quantities are `Int` (00_scope,
"Arithmetic": whole numbers with stated ranges, intermediate products exact).
-/

namespace Sys2Proof.Machine

/-! ## Timescale unit (chapter 1) -/

/-- A clock segment with the era in which it was opened (1.2, R4). -/
structure Segment where
  anchorO : Nat
  anchorH : Nat
  /-- ppt -/
  rate : Int
  era : Nat
  deriving DecidableEq, Repr

/-- The pending rate with its target second (R6).  `goal` is the target second counted on the
segment in force without the modulo of R18; the target second itself is `goal % 2^64` (so 0 for the
target at the wrap).  Log entry 6. -/
structure PendingRate where
  rate : Int
  goal : Nat
  deriving DecidableEq, Repr

/-- The step notice of R12: the step, the new era, the instant, the new anchor hall time. -/
structure StepNotice where
  step : Int
  era : Nat
  takenAt : Nat
  anchorH : Nat
  deriving DecidableEq, Repr

/-- A reading of hall time (R5). -/
structure Reading where
  hall : Nat
  era : Nat
  osc : Nat
  deriving DecidableEq, Repr

/-- The TSU: segment in force, up to three older segments (newest first), era, pending rate, the two
inputs of the hall uncertainty (1.6), and the step notices given and not yet taken by each of the
three blocks (R12). -/
structure Tsu where
  inForce : Segment
  older : List Segment
  era : Nat
  pendingRate : Option PendingRate
  uLock : Nat
  holdoverBound : Nat
  rtmNotices : List StepNotice
  sduNotices : List StepNotice
  epgNotices : List StepNotice
  deriving DecidableEq, Repr

/-! ## Reference discipline unit (chapter 2) -/

inductive RefState where
  | off
  | waiting
  | qualifying
  | qualified
  deriving DecidableEq, Repr

inductive TsState where
  | free
  | acquiring
  | locked
  | holdover
  | failed
  deriving DecidableEq, Repr

/-- The held label: label second and quality byte (2). -/
structure Label where
  labelSecond : Nat
  quality : Nat
  deriving DecidableEq, Repr

/-- The label receiver (R20): the bytes after the marker, and the O of the last byte. -/
inductive LabelReceiver where
  | hunting
  | assembling (bytes : List Byte) (lastByteAt : Nat)
  deriving DecidableEq, Repr

/-- A reference record (table of chapter 2). -/
structure Reference where
  enable : Bool
  priority : Nat
  state : RefState
  previousMark : Option Nat
  heldLabel : Option Label
  missingDeadline : Option Nat
  goodRun : Nat
  badRun : Nat
  outlierRun : Nat
  receiver : LabelReceiver
  deriving DecidableEq, Repr

/-- The discipline settings of R39 that the RDU holds. -/
structure Discipline where
  p : Nat
  q : Nat
  stepThreshold : Nat
  lockWindow : Nat
  outlierGate : Nat
  holdoverLimit : Nat
  deriving DecidableEq, Repr

structure Rdu where
  refA : Reference
  refB : Reference
  selected : Option RefId
  candidate : Option RefId
  /-- integral term I, ppt -/
  integral : Int
  tsState : TsState
  lockCount : Nat
  unlockCount : Nat
  clampCount : Nat
  holdoverStart : Option Nat
  settings : Discipline
  deriving DecidableEq, Repr

/-! ## Epoch pulse generator (chapter 3) -/

inductive EpbMode where
  | off
  | same
  | complement
  | seconds
  deriving DecidableEq, Repr

inductive PinLevel where
  | low
  | high
  deriving DecidableEq, Repr

/-- A schedule (R42): period in ms, width, phase and dead gap in µs. -/
structure Schedule where
  period : Nat
  width : Nat
  phase : Nat
  epbMode : EpbMode
  deadGap : Nat
  epaIdle : PinLevel
  epbIdle : PinLevel
  squelch : Bool
  deriving DecidableEq, Repr

/-- An EPB pulse in progress: its end and the EPB idle level at its start (3). -/
structure EpbPulse where
  endHall : Nat
  idle : PinLevel
  deriving DecidableEq, Repr

/-- The complement pulse that follows an EPA pulse which has run (R44). -/
structure ComplementDue where
  startHall : Nat
  endHall : Nat
  deriving DecidableEq, Repr

structure Epg where
  running : Bool
  schedule : Schedule
  pendingSchedule : Option Schedule
  alignEra : Nat
  nextBoundary : Nat
  nextSecond : Nat
  /-- end hall time of the EPA pulse in progress -/
  epaPulse : Option Nat
  epbPulse : Option EpbPulse
  /-- the EPB pulse of the schedule before, not cut when a pending schedule was applied (R48) -/
  epbCarried : Option EpbPulse
  /-- the model's own field for R44's "after an EPA pulse that actually ran" -/
  complementDue : Option ComplementDue
  squelched : Bool
  epa : PinLevel
  epb : PinLevel
  /-- the reading before the present one, against which a wrap is seen (R50) -/
  lastReading : Reading
  deriving DecidableEq, Repr

/-! ## Span link controller (chapter 4) -/

inductive LinkState where
  | disabled
  | down
  | training
  | up
  deriving DecidableEq, Repr

/-- Why an entry is QUARANTINED; also the reason a DISMISS carries (R77, R81). -/
inductive QReason where
  | duplicate
  | wrongRack
  | twinDomain
  | isolated
  deriving DecidableEq, Repr

/-- The result a VERDICT carries (R132, R134). -/
inductive VerdictResult where
  | accepted
  | notServed
  | misrouted
  | unknownSource
  | journalFull
  deriving DecidableEq, Repr

/-- The frames the part sends (12, "Span-link frames"). The t1 of a PROBE is written as it leaves
(R61), so it stands in `TxInFlight`. -/
inductive TxFrame where
  | welcome (domainId domainInstance era generation : Nat)
  | probe (exchange : Nat)
  | trim (generation : Nat) (phase rate : Int) (applyAt : Nat) (stepFlag : Bool)
  | verdict (result : VerdictResult) (markNumber : Nat) (sequence : Option Nat)
  | dismiss (reason : QReason)
  deriving DecidableEq, Repr

/-- The frame in transmission with its departure instant and stamp (R61). -/
structure TxInFlight where
  frame : TxFrame
  departureO : Nat
  stampHall : Nat
  stampEra : Nat
  deriving DecidableEq, Repr

/-- A link record (table of chapter 4), with lane activity (R54) and the count of consecutive good
training blocks of the attempt (R57). -/
structure LinkRecord where
  enable : Bool
  state : LinkState
  rangeFirst : Nat
  rangeLast : Nat
  errorTimes : List Nat
  errorFlag : Bool
  clearInstant : Option Nat
  n : Nat
  w : Nat
  checkRun : Nat
  settleDeadline : Option Nat
  trainingDeadline : Option Nat
  readySent : Bool
  readyReceived : Bool
  txQueue : List TxFrame
  inTx : Option TxInFlight
  activity : Bool
  trainRun : Nat
  deriving DecidableEq, Repr

/-! ## Rack time manager (chapters 5 and 6) -/

inductive RackState where
  | idle
  | attaching
  | acquiring
  | tracking
  | coasting
  | lost
  | quarantined
  deriving DecidableEq, Repr

inductive EndpointKind where
  | rack
  | cascade
  deriving DecidableEq, Repr

inductive CoastCause where
  | missed
  | link
  deriving DecidableEq, Repr

inductive Source where
  | fresh
  | carried
  deriving DecidableEq, Repr

/-- An exchange record (R97). -/
structure ExchangeRecord where
  number : Nat
  t1 : Nat
  t2 : Nat
  t3 : Nat
  t4 : Nat
  theta : Int
  delta : Int
  deriving DecidableEq, Repr

/-- An estimate (6.3): offset θ̂, drift ρ̂, reference rack time τ̂, u_rack, generation, source. -/
structure Estimate where
  theta : Int
  rho : Int
  tau : Nat
  uRack : Nat
  generation : Nat
  source : Source
  deriving DecidableEq, Repr

/-- What a departed PROBE holds (R83). -/
structure ProbeDeparture where
  t1 : Nat
  era : Nat
  sentAt : Nat
  deriving DecidableEq, Repr

structure ProbeInFlight where
  number : Nat
  departure : Option ProbeDeparture
  deriving DecidableEq, Repr

structure TrimInFlight where
  generation : Nat
  phase : Int
  rate : Int
  applyAt : Nat
  stepFlag : Bool
  sentAt : Option Nat
  deriving DecidableEq, Repr

/-- The eight per-link settings (R95). -/
structure LinkSettings where
  pollInterval : Nat
  delayGate : Nat
  maxDelay : Nat
  asymmetry : Nat
  rateUncertainty : Nat
  trimInterval : Nat
  phaseLimit : Nat
  rateTrimLimit : Nat
  deriving DecidableEq, Repr

/-- A rack entry (R74).  `probeReckoned` is the instant from which R82 or R83 last reckoned the next
probe due, which R95 names. -/
structure RackEntry where
  state : RackState
  identity : Option Nat
  claimed : Option Nat
  lastIdentity : Option Nat
  endpointKind : Option EndpointKind
  quarantineReason : Option QReason
  heldHello : Option Hello
  window : List ExchangeRecord
  current : Option Estimate
  predecessor : Option Estimate
  trimGeneration : Nat
  unsettled : Bool
  nextExchange : Nat
  probe : Option ProbeInFlight
  nextProbeDue : Option Nat
  probeReckoned : Option Nat
  welcomeOwed : Bool
  trim : Option TrimInFlight
  stepOwed : Option Int
  sinceTrim : Nat
  missed : Nat
  lastAccepted : Option Nat
  coastCause : Option CoastCause
  trimTotal : Int
  degrade : Bool
  isolate : Bool
  settings : LinkSettings
  deriving DecidableEq, Repr

/-! ## Drift watch unit (chapter 7) -/

inductive DriftLevel where
  | normal
  | watch
  | alarm
  deriving DecidableEq, Repr

/-- The limits of R116: six raise thresholds, the raise count K and the fall count M. -/
structure Limits where
  offsetWatch : Nat
  offsetAlarm : Nat
  driftWatch : Nat
  driftAlarm : Nat
  totalWatch : Nat
  totalAlarm : Nat
  k : Nat
  m : Nat
  deriving DecidableEq, Repr

structure Evaluation where
  theta : Int
  rho : Int
  trimTotal : Int
  generation : Nat
  evalLevel : DriftLevel
  clearLevel : DriftLevel
  deriving DecidableEq, Repr

structure DriftRecord where
  level : DriftLevel
  raiseCount : Nat
  raiseMin : Option DriftLevel
  fallCount : Nat
  notified : RackState
  limits : Limits
  pendingLimits : Option Limits
  lastEval : Option Evaluation
  deriving DecidableEq, Repr

/-! ## Stamp dating unit (chapters 8 and 9) -/

structure SourceWindow where
  enable : Bool
  base : Nat
  limit : Nat
  cls : Fin 4
  deriving DecidableEq, Repr

structure StampClass where
  qualityLimit : Nat
  reportDegraded : Bool
  deriving DecidableEq, Repr

inductive UndatedReason where
  | stale
  | noEstimate
  | noTime
  deriving DecidableEq, Repr

/-- The dating of a journal entry: GOOD and DEGRADED carry a stamp and an uncertainty, UNDATED
carries its reason (R147). -/
inductive Dating where
  | good (stamp uncertainty : Nat)
  | degraded (stamp uncertainty : Nat)
  | undated (reason : UndatedReason)
  deriving DecidableEq, Repr

structure JournalEntry where
  sequence : Nat
  era : Nat
  link : Link
  rackIdentity : Nat
  sourceIdentity : Nat
  eventKind : Nat
  markNumber : Nat
  generation : Nat
  cls : Fin 4
  dating : Dating
  captureTime : Nat
  deriving DecidableEq, Repr

structure WaitOut where
  port : Port
  tag : Byte
  target : Nat
  era : Nat
  arrival : Nat
  deriving DecidableEq, Repr

structure Sdu where
  windows : Vector SourceWindow 8
  classes : Vector StampClass 4
  journal : List JournalEntry
  nextSequence : Nat
  journalFull : Bool
  fullRefusals : Nat
  waitOuts : List WaitOut
  /-- the reading before the present one, against which a wrap is seen (R155) -/
  lastReading : Reading
  deriving DecidableEq, Repr

/-! ## Condition reporting unit (chapter 10) -/

inductive CondKind where
  | timescaleState
  | hallStep
  | oscillatorRange
  | refQualified
  | refLost
  | refOutlier
  | linkUp
  | linkDown
  | linkErrorRate
  | misroutedMark
  | rackAttached
  | rackCoasting
  | rackLost
  | trimLost
  | duplicateRack
  | wrongRack
  | twinDomain
  | driftWatch
  | driftAlarm
  | driftNormal
  | journalFull
  | stampDegraded
  | conditionListFull
  | restarted
  deriving DecidableEq, Repr

/-- What a condition refers to (10.1). -/
inductive Scope where
  | part
  | reference (r : RefId)
  | link (l : Link)
  | cls (c : Fin 4)
  deriving DecidableEq, Repr

/-- The detail fields of a record, each present or absent (R159).  A state field holds the code of
Table 12-1. -/
structure Details where
  offset : Option Int := none
  drift : Option Int := none
  trimTotal : Option Int := none
  uncertainty : Option Nat := none
  oldState : Option Nat := none
  newState : Option Nat := none
  step : Option Int := none
  era : Option Nat := none
  count : Option Nat := none
  deriving DecidableEq, Repr

/-- The pending flags: one per port for broadcast delivery, a single one for floating (R159). -/
inductive PendFlags where
  | broadcast (forA forB : Bool)
  | floating (owed : Bool)
  deriving DecidableEq, Repr

/-- A condition record (R159).  `takenSince` says that a port has taken the record since it entered
the list or was last reposted, which decides coalescing (R161, R166). -/
structure CondRecord where
  kind : CondKind
  scope : Scope
  posted : Reading
  active : Bool
  repeats : Nat
  ancillary : Bool
  pend : PendFlags
  taken : Bool
  takenSince : Bool
  lastTake : Option Nat
  repostDue : Option Nat
  details : Details
  deriving DecidableEq, Repr

inductive Action where
  | note
  | degrade
  | isolate
  deriving DecidableEq, Repr

/-- The two actions of a link group (R168). -/
structure GroupActions where
  driftAlarm : Action
  linkErrorRate : Action
  deriving DecidableEq, Repr

structure Cru where
  list : List CondRecord
  reserved : Option CondRecord
  active : List (CondKind × Scope)
  /-- the kinds whose recording switch is off (R160) -/
  recordingOff : List CondKind
  /-- class masks: bit i is the class of code i (Table 12-1) -/
  maskA : BitVec 7
  maskB : BitVec 7
  actions : Vector GroupActions 5
  repostInterval : Nat
  lastLinkDown : Vector (Option Nat) 40
  listFullRefusals : Nat
  attnA : PinLevel
  attnB : PinLevel
  deriving DecidableEq, Repr

/-! ## Management ports (chapter 11) -/

inductive Mode where
  | setup
  | serving
  deriving DecidableEq, Repr

/-- The receiver of a port (R174): the bytes since the marker, and the O of the last byte. -/
inductive Receiver where
  | hunting
  | assembling (bytes : List Byte) (lastByteAt : Nat)
  deriving DecidableEq, Repr

/-- A reply (R178): kind byte, tag byte, body beginning with the result byte.  `endsHold` marks the
reply of the port's held request. -/
structure Reply where
  kind : Byte
  tag : Byte
  body : List Byte
  endsHold : Bool
  deriving DecidableEq, Repr

structure PortState where
  receiver : Receiver
  /-- kind and tag of the held request -/
  held : Option (Byte × Byte)
  queue : List Reply
  inTx : Option Reply
  dropped : Nat
  deriving DecidableEq, Repr

structure Mgp where
  portA : PortState
  portB : PortState
  mode : Mode
  restartPending : Bool
  domainId : Nat
  domainInstance : Nat
  /-- bit/s, sampled from the straps at cold reset -/
  lineRate : Nat
  deriving DecidableEq, Repr

/-! ## The whole part -/

/-- The state of the part, with the queue of waiting commands, first in, first out. -/
structure State where
  osc : Nat
  tsu : Tsu
  rdu : Rdu
  epg : Epg
  links : Vector LinkRecord 40
  rtmEra : Nat
  entries : Vector RackEntry 40
  drift : Vector DriftRecord 40
  sdu : Sdu
  cru : Cru
  mgp : Mgp
  /-- the model's own counter of free choices made (Config.tieBreak) -/
  choices : Nat
  pending : List Instr
  deriving DecidableEq, Repr

/-- No rule of the spec stops the part: every command has an effect, so there is no fault. -/
inductive Fault where
  deriving DecidableEq, Repr

/-- The one refusal, which the host's form of exec asks for; no arm of exec answers it. -/
inductive Refusal where
  /-- raised by exec for a command without a meaning; safe, since a run stops there -/
  | notModelled (mnemonic : String)
  deriving DecidableEq, Repr

/-! ## Values after cold reset -/

/-- R2, R11, R13: first segment, era 0, no pending rate, default hall-uncertainty inputs. -/
def Tsu.cold : Tsu where
  inForce := ⟨0, 0, 0, 0⟩
  older := []
  era := 0
  pendingRate := none
  uLock := 100
  holdoverBound := 50
  rtmNotices := []
  sduNotices := []
  epgNotices := []

/-- R40: a reference after cold reset. -/
def Reference.cold : Reference where
  enable := false
  priority := 0
  state := .off
  previousMark := none
  heldLabel := none
  missingDeadline := none
  goodRun := 0
  badRun := 0
  outlierRun := 0
  receiver := .hunting

/-- R39: the default discipline settings. -/
def Discipline.cold : Discipline where
  p := 400
  q := 20
  stepThreshold := 100000
  lockWindow := 1000
  outlierGate := 10000
  holdoverLimit := 14400

/-- R40. -/
def Rdu.cold : Rdu where
  refA := .cold
  refB := .cold
  selected := none
  candidate := none
  integral := 0
  tsState := .free
  lockCount := 0
  unlockCount := 0
  clampCount := 0
  holdoverStart := none
  settings := .cold

/-- R51: the schedule in force after cold reset. -/
def Schedule.cold : Schedule where
  period := 1000
  width := 100000
  phase := 0
  epbMode := .off
  deadGap := 0
  epaIdle := .low
  epbIdle := .low
  squelch := true

/-- R51. -/
def Epg.cold : Epg where
  running := false
  schedule := .cold
  pendingSchedule := none
  alignEra := 0
  nextBoundary := second
  nextSecond := second
  epaPulse := none
  epbPulse := none
  epbCarried := none
  complementDue := none
  squelched := true
  epa := .low
  epb := .low
  lastReading := ⟨0, 0, 0⟩

/-- R73: the record of a link after cold reset; the rack range is the link number. -/
def LinkRecord.cold (l : Nat) : LinkRecord where
  enable := false
  state := .disabled
  rangeFirst := l
  rangeLast := l
  errorTimes := []
  errorFlag := false
  clearInstant := none
  n := 10
  w := 10
  checkRun := 0
  settleDeadline := none
  trainingDeadline := none
  readySent := false
  readyReceived := false
  txQueue := []
  inTx := none
  activity := false
  trainRun := 0

/-- R95: the default per-link settings. -/
def LinkSettings.cold : LinkSettings where
  pollInterval := 125
  delayGate := 200
  maxDelay := 50000
  asymmetry := 50
  rateUncertainty := 20
  trimInterval := 16
  phaseLimit := 1000
  rateTrimLimit := 10000

/-- R74, R96: an entry after cold reset. -/
def RackEntry.cold : RackEntry where
  state := .idle
  identity := none
  claimed := none
  lastIdentity := none
  endpointKind := none
  quarantineReason := none
  heldHello := none
  window := []
  current := none
  predecessor := none
  trimGeneration := 0
  unsettled := false
  nextExchange := 0
  probe := none
  nextProbeDue := none
  probeReckoned := none
  welcomeOwed := false
  trim := none
  stepOwed := none
  sinceTrim := 0
  missed := 0
  lastAccepted := none
  coastCause := none
  trimTotal := 0
  degrade := false
  isolate := false
  settings := .cold

/-- R116: the default limits. -/
def Limits.cold : Limits where
  offsetWatch := 2000
  offsetAlarm := 20000
  driftWatch := 200
  driftAlarm := 2000
  totalWatch := 20000
  totalAlarm := 100000
  k := 4
  m := 8

/-- R127. -/
def DriftRecord.cold : DriftRecord where
  level := .normal
  raiseCount := 0
  raiseMin := none
  fallCount := 0
  notified := .idle
  limits := .cold
  pendingLimits := none
  lastEval := none

/-- R128, R130, R157. -/
def Sdu.cold : Sdu where
  windows := Vector.replicate 8 ⟨false, 0, 63, 0⟩
  classes := Vector.replicate 4 ⟨2000, false⟩
  journal := []
  nextSequence := 0
  journalFull := false
  fullRefusals := 0
  waitOuts := []
  lastReading := ⟨0, 0, 0⟩

/-- R173. -/
def Cru.cold : Cru where
  list := []
  reserved := none
  active := []
  recordingOff := []
  maskA := 0x7F#7
  maskB := 0x7F#7
  actions := Vector.replicate 5 ⟨.degrade, .note⟩
  repostInterval := 60
  lastLinkDown := Vector.replicate 40 none
  listFullRefusals := 0
  attnA := .high
  attnB := .high

/-- R185. -/
def PortState.cold : PortState where
  receiver := .hunting
  held := none
  queue := []
  inTx := none
  dropped := 0

/-- R184, R185.  The straps are sampled at cold reset (R174); the line rate here is that of both
straps low, log entry 7. -/
def Mgp.cold : Mgp where
  portA := .cold
  portB := .cold
  mode := .setup
  restartPending := false
  domainId := 0
  domainInstance := 0
  lineRate := 115200

/-- The part right after cold reset, with no command waiting. -/
def State.reset : State where
  osc := 0
  tsu := .cold
  rdu := .cold
  epg := .cold
  links := Vector.ofFn (fun l : Fin 40 => LinkRecord.cold l.val)
  rtmEra := 0
  entries := Vector.replicate 40 .cold
  drift := Vector.replicate 40 .cold
  sdu := .cold
  cru := .cold
  mgp := .cold
  choices := 0
  pending := []

end Sys2Proof.Machine
end

