-- ==== Sys2Proof/Machine/Codes.lean ====
section
/-!
DEFINITION. The codes of Table 12-1 and the properties of the condition kinds (10.1).
-/

namespace Sys2Proof.Machine

/-- Result codes of a reply (11.2, Table 12-1). -/
inductive Result where
  | done
  | doneClamped
  | unknown
  | malformed
  | wrongMode
  | wrongState
  | range
  | overlap
  | busy
  | untimed
  | stepped
  | aborted
  deriving DecidableEq, Repr

def Result.code : Result → Byte
  | .done => 0#8
  | .doneClamped => 1#8
  | .unknown => 2#8
  | .malformed => 3#8
  | .wrongMode => 4#8
  | .wrongState => 5#8
  | .range => 6#8
  | .overlap => 7#8
  | .busy => 8#8
  | .untimed => 9#8
  | .stepped => 10#8
  | .aborted => 11#8

def Mode.code : Mode → Nat
  | .setup => 0
  | .serving => 1

def TsState.code : TsState → Nat
  | .free => 0
  | .acquiring => 1
  | .locked => 2
  | .holdover => 3
  | .failed => 4

def RefState.code : RefState → Nat
  | .off => 0
  | .waiting => 1
  | .qualifying => 2
  | .qualified => 3

def RefId.code : RefId → Nat
  | .a => 0
  | .b => 1

/-- Reference selector in a reply: 0 A, 1 B, 2 none. -/
def refSelCode : Option RefId → Nat
  | some r => RefId.code r
  | none => 2

def LinkState.code : LinkState → Nat
  | .disabled => 0
  | .down => 1
  | .training => 2
  | .up => 3

def RackState.code : RackState → Nat
  | .idle => 0
  | .attaching => 1
  | .acquiring => 2
  | .tracking => 3
  | .coasting => 4
  | .lost => 5
  | .quarantined => 6

def DriftLevel.code : DriftLevel → Nat
  | .normal => 0
  | .watch => 1
  | .alarm => 2

def QReason.code : QReason → Nat
  | .duplicate => 0
  | .wrongRack => 1
  | .twinDomain => 2
  | .isolated => 3

def EndpointKind.code : EndpointKind → Nat
  | .rack => 0
  | .cascade => 1

def Source.code : Source → Nat
  | .fresh => 0
  | .carried => 1

def UndatedReason.code : UndatedReason → Nat
  | .stale => 1
  | .noEstimate => 2
  | .noTime => 3

def VerdictResult.code : VerdictResult → Nat
  | .accepted => 0
  | .notServed => 1
  | .misrouted => 2
  | .unknownSource => 3
  | .journalFull => 4

def EpbMode.code : EpbMode → Nat
  | .off => 0
  | .same => 1
  | .complement => 2
  | .seconds => 3

/-- The EPB mode of a code, if it names one. -/
def epbModeOf : Nat → Option EpbMode
  | 0 => some .off
  | 1 => some .same
  | 2 => some .complement
  | 3 => some .seconds
  | _ => none

def PinLevel.code : PinLevel → Nat
  | .low => 0
  | .high => 1

def pinLevelOf : Nat → Option PinLevel
  | 0 => some .low
  | 1 => some .high
  | _ => none

def Action.code : Action → Nat
  | .note => 0
  | .degrade => 1
  | .isolate => 2

def actionOf : Nat → Option Action
  | 0 => some .note
  | 1 => some .degrade
  | 2 => some .isolate
  | _ => none

def refIdOf : Nat → Option RefId
  | 0 => some .a
  | 1 => some .b
  | _ => none

def portOf : Nat → Option Port
  | 0 => some .a
  | 1 => some .b
  | _ => none

def linkOf (v : Nat) : Option Link := if h : v < 40 then some ⟨v, h⟩ else none

def windowOf (v : Nat) : Option (Fin 8) := if h : v < 8 then some ⟨v, h⟩ else none

def classOf (v : Nat) : Option (Fin 4) := if h : v < 4 then some ⟨v, h⟩ else none

def groupOf (v : Nat) : Option (Fin 5) := if h : v < 5 then some ⟨v, h⟩ else none

/-- The endpoint kind of a HELLO (Table 12-1); other codes are a free value, log entry 5. -/
def endpointKindOf (code : Byte) : EndpointKind :=
  if code = 0#8 then .rack
  else if code = 1#8 then .cascade
  else if Config.endpointIsCascade code then .cascade else .rack

def CondKind.code : CondKind → Nat
  | .timescaleState => 1
  | .hallStep => 2
  | .oscillatorRange => 3
  | .refQualified => 4
  | .refLost => 5
  | .refOutlier => 6
  | .linkUp => 7
  | .linkDown => 8
  | .linkErrorRate => 9
  | .misroutedMark => 10
  | .rackAttached => 11
  | .rackCoasting => 12
  | .rackLost => 13
  | .trimLost => 14
  | .duplicateRack => 15
  | .wrongRack => 16
  | .twinDomain => 17
  | .driftWatch => 18
  | .driftAlarm => 19
  | .driftNormal => 20
  | .journalFull => 21
  | .stampDegraded => 22
  | .conditionListFull => 23
  | .restarted => 24

/-- The kind of a code (Table 12-1). -/
def CondKind.ofCode : Nat → Option CondKind
  | 1 => some .timescaleState
  | 2 => some .hallStep
  | 3 => some .oscillatorRange
  | 4 => some .refQualified
  | 5 => some .refLost
  | 6 => some .refOutlier
  | 7 => some .linkUp
  | 8 => some .linkDown
  | 9 => some .linkErrorRate
  | 10 => some .misroutedMark
  | 11 => some .rackAttached
  | 12 => some .rackCoasting
  | 13 => some .rackLost
  | 14 => some .trimLost
  | 15 => some .duplicateRack
  | 16 => some .wrongRack
  | 17 => some .twinDomain
  | 18 => some .driftWatch
  | 19 => some .driftAlarm
  | 20 => some .driftNormal
  | 21 => some .journalFull
  | 22 => some .stampDegraded
  | 23 => some .conditionListFull
  | 24 => some .restarted
  | _ => none

/-- Class code of a kind: 0 CLOCK, 1 REF, 2 LINK, 3 RACK, 4 DRIFT, 5 STAMP, 6 PART (10.1). -/
def CondKind.cls : CondKind → Nat
  | .timescaleState | .hallStep | .oscillatorRange => 0
  | .refQualified | .refLost | .refOutlier => 1
  | .linkUp | .linkDown | .linkErrorRate | .misroutedMark => 2
  | .rackAttached | .rackCoasting | .rackLost | .trimLost
  | .duplicateRack | .wrongRack | .twinDomain => 3
  | .driftWatch | .driftAlarm | .driftNormal => 4
  | .journalFull | .stampDegraded => 5
  | .conditionListFull | .restarted => 6

/-- Broadcast delivery; every other kind is floating (10.1). -/
def CondKind.isBroadcast : CondKind → Bool
  | .timescaleState | .hallStep | .oscillatorRange | .conditionListFull | .restarted => true
  | .refQualified | .refLost | .refOutlier | .linkUp | .linkDown | .linkErrorRate
  | .misroutedMark | .rackAttached | .rackCoasting | .rackLost | .trimLost | .duplicateRack
  | .wrongRack | .twinDomain | .driftWatch | .driftAlarm | .driftNormal | .journalFull
  | .stampDegraded => false

/-- Exigent; every other kind is repressible (10.1). -/
def CondKind.isExigent : CondKind → Bool
  | .hallStep | .oscillatorRange | .duplicateRack | .wrongRack | .twinDomain
  | .conditionListFull | .restarted => true
  | .timescaleState | .refQualified | .refLost | .refOutlier | .linkUp | .linkDown
  | .linkErrorRate | .misroutedMark | .rackAttached | .rackCoasting | .rackLost | .trimLost
  | .driftWatch | .driftAlarm | .driftNormal | .journalFull | .stampDegraded => false

/-- State kinds; every other kind is an event kind (10.1). -/
def CondKind.isState : CondKind → Bool
  | .oscillatorRange | .refOutlier | .linkDown | .linkErrorRate | .rackCoasting | .rackLost
  | .duplicateRack | .wrongRack | .twinDomain | .driftWatch | .driftAlarm | .journalFull
  | .stampDegraded | .conditionListFull => true
  | .timescaleState | .hallStep | .refQualified | .refLost | .linkUp | .misroutedMark
  | .rackAttached | .trimLost | .driftNormal | .restarted => false

/-- Withdrawable kinds (10.1). -/
def CondKind.isWithdrawable : CondKind → Bool
  | .refOutlier | .linkErrorRate | .driftWatch | .journalFull => true
  | .timescaleState | .hallStep | .oscillatorRange | .refQualified | .refLost | .linkUp
  | .linkDown | .misroutedMark | .rackAttached | .rackCoasting | .rackLost | .trimLost
  | .duplicateRack | .wrongRack | .twinDomain | .driftAlarm | .driftNormal | .stampDegraded
  | .conditionListFull | .restarted => false

/-- Scope byte of a condition record: link, reference, stamp class, or 0 for part scope (12). -/
def Scope.code : Scope → Nat
  | .part => 0
  | .reference r => RefId.code r
  | .link l => l.val
  | .cls c => c.val

end Sys2Proof.Machine
end

