-- ==== Sys2Proof/Machine/Ops.lean ====
section
/-!
DEFINITION. The named accessors and updates of State (each register has one home), and the hall
clock of chapter 1: conversion, readings, pending rate, boundary and the segment part of a step.
-/

namespace Sys2Proof.Machine

/-! ## Accessors and updates -/

def State.link (s : State) (l : Link) : LinkRecord := s.links[l]

def State.setLink (s : State) (l : Link) (r : LinkRecord) : State :=
  { s with links := s.links.set l r }

def State.entry (s : State) (l : Link) : RackEntry := s.entries[l]

def State.setEntry (s : State) (l : Link) (e : RackEntry) : State :=
  { s with entries := s.entries.set l e }

def State.driftOf (s : State) (l : Link) : DriftRecord := s.drift[l]

def State.setDrift (s : State) (l : Link) (d : DriftRecord) : State :=
  { s with drift := s.drift.set l d }

def State.setTsu (s : State) (t : Tsu) : State := { s with tsu := t }

def State.setRdu (s : State) (r : Rdu) : State := { s with rdu := r }

def State.setEpg (s : State) (e : Epg) : State := { s with epg := e }

def State.setSdu (s : State) (d : Sdu) : State := { s with sdu := d }

def State.setCru (s : State) (c : Cru) : State := { s with cru := c }

def State.setMgp (s : State) (m : Mgp) : State := { s with mgp := m }

def State.setRtmEra (s : State) (e : Nat) : State := { s with rtmEra := e }

/-- The record of one reference. -/
def State.ref (s : State) : RefId → Reference
  | .a => s.rdu.refA
  | .b => s.rdu.refB

def State.setRef (s : State) (r : RefId) (x : Reference) : State :=
  match r with
  | .a => s.setRdu { s.rdu with refA := x }
  | .b => s.setRdu { s.rdu with refB := x }

/-- The state of one management port. -/
def State.port (s : State) : Port → PortState
  | .a => s.mgp.portA
  | .b => s.mgp.portB

def State.setPort (s : State) (p : Port) (x : PortState) : State :=
  match p with
  | .a => s.setMgp { s.mgp with portA := x }
  | .b => s.setMgp { s.mgp with portB := x }

/-- The other reference. -/
def otherRef : RefId → RefId
  | .a => .b
  | .b => .a

/-- The forty links in increasing number. -/
def allLinks : List Link := List.finRange 40

/-- An event over all forty links or entries, in increasing link number. -/
def forLinks (f : Link → State → State) (s : State) : State :=
  allLinks.foldl (fun st l => f l st) s

/-! ## The hall clock (chapter 1) -/

/-- The hall time of an oscillator instant on a segment, before the modulo of R18: A_H + e +
(e × r / 10^12, rounded down), with e negative when the segment is extended backward (R2, R4). -/
def Segment.raw (g : Segment) (o : Nat) : Int :=
  let e : Int := (o : Int) - (g.anchorO : Int)
  (g.anchorH : Int) + e + divDown (e * g.rate) 1000000000000

/-- Hall time of an instant on a segment (R2, R18). -/
def Segment.hall (g : Segment) (o : Nat) : Nat := (g.raw o % (two64 : Int)).toNat

/-- The least oscillator nanosecond at or after the anchor at which the hall time of the segment,
not taken modulo 2^64, reaches a goal (R7).  Since A_H + e + ⌊e·r/10^12⌋ = A_H + ⌊e·(10^12 + r)/10^12⌋,
it is the anchor plus the quotient (goal − A_H)·10^12 / (10^12 + r) rounded up. -/
def Segment.firstReach (g : Segment) (goal : Nat) : Nat :=
  g.anchorO +
    (divUp (((goal : Int) - (g.anchorH : Int)) * 1000000000000) (1000000000000 + g.rate)).toNat

/-- The least whole second strictly after a hall time, both counted without the modulo of R18; when
no multiple of 10^9 is left below 2^64 it is the hall time 0 that follows the wrap (R6). -/
def nextSecondGoal (raw : Nat) : Nat :=
  let wraps := raw / two64
  let next := (raw % two64 / second + 1) * second
  if next < two64 then wraps * two64 + next else (wraps + 1) * two64

/-- The boundary instant of the pending rate (R7). -/
def Tsu.boundaryInstant (t : Tsu) : Option Nat :=
  t.pendingRate.map (fun p => t.inForce.firstReach p.goal)

/-- A new segment comes into force; the old one is retired and at most four are held (R4). -/
def Tsu.openSegment (t : Tsu) (g : Segment) : Tsu :=
  { t with inForce := g, older := (t.inForce :: t.older).take 3 }

/-- What the TSU does at the boundary instant of a pending rate (R7). -/
def Tsu.applyBoundary (t : Tsu) : Tsu :=
  match t.pendingRate with
  | none => t
  | some p =>
    { t.openSegment ⟨t.inForce.firstReach p.goal, p.goal % two64, p.rate, t.era⟩ with
      pendingRate := none }

/-- The TSU with its rate boundary opened if the boundary instant is at or before `o` (R5: an instant
at or after the boundary is evaluated on the new segment whether it has been opened yet or not). -/
def Tsu.settledTo (t : Tsu) (o : Nat) : Tsu :=
  match t.boundaryInstant with
  | some b => if b ≤ o then t.applyBoundary else t
  | none => t

/-- The same for a boundary instant strictly before `o`; a step or a READ TIME taken at the boundary
instant itself is taken in command order (R8, R15). -/
def Tsu.settledBefore (t : Tsu) (o : Nat) : Tsu :=
  match t.boundaryInstant with
  | some b => if b < o then t.applyBoundary else t
  | none => t

/-- The held segment with the latest anchor at or before `o`, else the oldest (R4); `held` is newest
first and `fallback` is the newest. -/
def chooseSegment (fallback : Segment) : List Segment → Nat → Segment
  | [], _ => fallback
  | g :: rest, o => if g.anchorO ≤ o then g else chooseSegment g rest o

/-- Conversion of an oscillator instant: hall time and era of the segment used (R4, R5). -/
def Tsu.convert (t : Tsu) (o : Nat) : Reading :=
  let t' := t.settledTo o
  let g := chooseSegment t'.inForce (t'.inForce :: t'.older) o
  ⟨g.hall o, g.era, o⟩

/-- A reading of now (R5). -/
def State.readNow (s : State) : Reading := s.tsu.convert s.osc

/-- A write to the pending rate at an instant (R6).  The value is clamped by R3. -/
def Tsu.writeRate (t : Tsu) (now : Nat) (v : Int) : Tsu :=
  let t' := t.settledTo now
  { t' with pendingRate := some ⟨clampSym 100000000 v, nextSecondGoal (t'.inForce.raw now).toNat⟩ }

/-- H_now + S of a step at an instant (R9). -/
def Tsu.stepTarget (t : Tsu) (now : Nat) (step : Int) : Int :=
  (((t.settledBefore now).inForce.hall now : Nat) : Int) + step

/-- Whether the result of a step lies within 0 to 2^64 − 1 (R9, R10). -/
def Tsu.stepInRange (t : Tsu) (now : Nat) (step : Int) : Bool :=
  decide (0 ≤ t.stepTarget now step ∧ t.stepTarget now step < (two64 : Int))

/-- The era after one more step (R11). -/
def nextEra (e : Nat) : Nat := (e + 1) % 65536

/-- The segment part of an applied step (R8, R9, R11) and its notices (R12). -/
def Tsu.applyStep (t : Tsu) (now : Nat) (step : Int) : Tsu :=
  let t' := t.settledBefore now
  let anchor := (t.stepTarget now step).toNat
  let era := nextEra t'.era
  let notice : StepNotice := ⟨step, era, now, anchor⟩
  { t'.openSegment ⟨now, anchor, t'.inForce.rate, era⟩ with
    era := era
    pendingRate := t'.pendingRate.map (fun p => ⟨p.rate, nextSecondGoal anchor⟩)
    rtmNotices := t'.rtmNotices ++ [notice]
    sduNotices := t'.sduNotices ++ [notice]
    epgNotices := t'.epgNotices ++ [notice] }

/-- Hall uncertainty (R13, R14): absent in FAILED, where the part declares no time. -/
def State.uHall (s : State) : Option Nat :=
  match s.rdu.tsState with
  | .locked => some s.tsu.uLock
  | .holdover =>
    let elapsed := s.osc - s.rdu.holdoverStart.getD s.osc
    some (satAdd unbounded s.tsu.uLock
      (divUp ((elapsed * s.tsu.holdoverBound : Nat) : Int) 1000000000).toNat)
  | .free => some unbounded
  | .acquiring => some unbounded
  | .failed => none

/-- Whether the timescale declares time: LOCKED or HOLDOVER (R153, R154). -/
def State.declaresTime (s : State) : Bool :=
  match s.rdu.tsState with
  | .locked => true
  | .holdover => true
  | .free => false
  | .acquiring => false
  | .failed => false

end Sys2Proof.Machine
end

