-- ==== Sys2Proof/Machine/Conditions.lean ====
section
/-!
DEFINITION. The condition reporting unit (chapter 10): raises and clears, posting and coalescing,
room in the list, withdrawal, delivery, repost and the attention lines.
-/

namespace Sys2Proof.Machine

/-! ## Deliverability (R159) -/

/-- The class mask of a port. -/
def Cru.mask (c : Cru) : Port → BitVec 7
  | .a => c.maskA
  | .b => c.maskB

/-- Whether a class is on in a port's class mask (R170). -/
def Cru.classOn (c : Cru) (p : Port) (cls : Nat) : Bool := (c.mask p).getLsbD cls

/-- Whether a floating kind is wanted by a port: exigent, or its class on (R159). -/
def Cru.wants (c : Cru) (p : Port) (k : CondKind) : Bool := k.isExigent || c.classOn p k.cls

/-- A record is deliverable to a port (R159). -/
def Cru.deliverable (c : Cru) (p : Port) (r : CondRecord) : Bool :=
  match r.pend with
  | .broadcast forA forB =>
    match p with
    | .a => forA
    | .b => forB
  | .floating owed => owed && c.wants p r.kind

/-- A record is needed (R159). -/
def Cru.needed (c : Cru) (r : CondRecord) : Bool :=
  r.active || c.deliverable .a r || c.deliverable .b r

/-- The pending flags of a new record (R161). -/
def Cru.freshPend (c : Cru) (k : CondKind) : PendFlags :=
  if k.isBroadcast then .broadcast (c.wants .a k) (c.wants .b k)
  else .floating (c.wants .a k || c.wants .b k)

/-- The records in delivery order: the list, then the reserved record (R164). -/
def Cru.records (c : Cru) : List CondRecord := c.list ++ c.reserved.toList

/-- The number of records deliverable to a port. -/
def Cru.deliverableCount (c : Cru) (p : Port) : Nat :=
  (c.records.filter (fun r => c.deliverable p r)).length

/-- The level of a port's attention line: low while a record is deliverable to it (R165). -/
def Cru.attention (c : Cru) (p : Port) : PinLevel :=
  if c.records.any (fun r => c.deliverable p r) then .low else .high

/-- Both attention lines driven by the records as they stand (R165). -/
def Cru.driveAttention (c : Cru) : Cru :=
  { c with attnA := c.attention .a, attnB := c.attention .b }

/-! ## The active set (R158, R160) -/

/-- Whether a (kind, scope) is in the active set. -/
def Cru.isActive (c : Cru) (k : CondKind) (sc : Scope) : Bool := c.active.contains (k, sc)

/-- Whether a raise of a kind is taken: exigent, or its recording switch on (R160). -/
def Cru.records? (c : Cru) (k : CondKind) : Bool := k.isExigent || !c.recordingOff.contains k

def Cru.activate (c : Cru) (k : CondKind) (sc : Scope) : Cru :=
  if k.isState && !c.isActive k sc then { c with active := c.active ++ [(k, sc)] } else c

/-! ## Posting (R161, R162) -/

/-- Change the first element that meets a test, if any does. -/
def updateFirst {α : Type} (test : α → Bool) (f : α → α) : List α → Option (List α)
  | [] => none
  | x :: xs => if test x then some (f x :: xs) else (updateFirst test f xs).map (x :: ·)

/-- Remove the first element that meets a test, if any does. -/
def removeFirst {α : Type} (test : α → Bool) : List α → Option (List α)
  | [] => none
  | x :: xs => if test x then some xs else (removeFirst test xs).map (x :: ·)

/-- A record of this kind and scope that no port has taken since it entered the list or was last
reposted (R161). -/
def CondRecord.isUndelivered (k : CondKind) (sc : Scope) (r : CondRecord) : Bool :=
  decide (r.kind = k) && decide (r.scope = sc) && !r.takenSince

/-- A raise coalesced into an undelivered record (R161). -/
def CondRecord.coalesce (d : Details) (now : Reading) (anc : Bool) (pend : PendFlags)
    (r : CondRecord) : CondRecord :=
  { r with
    repeats := satAdd 255 r.repeats 1
    details := d
    posted := now
    ancillary := r.ancillary && anc
    active := r.kind.isState
    pend := pend }

/-- A new record (R161). -/
def Cru.newRecord (c : Cru) (k : CondKind) (sc : Scope) (d : Details) (now : Reading) (anc : Bool) :
    CondRecord where
  kind := k
  scope := sc
  posted := now
  active := k.isState
  repeats := 0
  ancillary := anc
  pend := c.freshPend k
  taken := false
  takenSince := false
  lastTake := none
  repostDue := none
  details := d

/-- CONDITION_LIST_FULL raised into the reserved slot (R162); its three cases. -/
def Cru.raiseListFull (c : Cru) (now : Reading) : Cru :=
  let d : Details := { count := some c.listFullRefusals }
  let c' := c.activate .conditionListFull .part
  let record :=
    match c'.reserved with
    | none => c'.newRecord .conditionListFull .part d now false
    | some r =>
      if !r.takenSince then r.coalesce d now false (c'.freshPend .conditionListFull)
      else if r.active then { r with details := d, posted := now }
      else { r with active := true, pend := c'.freshPend .conditionListFull,
                    repeats := satAdd 255 r.repeats 1, details := d, posted := now }
  { c' with reserved := some record }

/-- Append a new record, with room made by R162; a new event record pending for no port is removed
in the same event (R161). -/
def Cru.appendRecord (c : Cru) (r : CondRecord) : Cru :=
  let add (l : List CondRecord) : Cru :=
    if c.needed r then { c with list := l ++ [r] } else { c with list := l }
  if c.list.length < 64 then add c.list
  else
    match removeFirst (fun x => !x.active) c.list with
    | some l => add l
    | none =>
      ({ c with listFullRefusals := satAdd 65535 c.listFullRefusals 1 }).raiseListFull r.posted

/-- A raise that R160 lets through is posted (R161). -/
def Cru.post (c : Cru) (k : CondKind) (sc : Scope) (d : Details) (now : Reading) (anc : Bool) : Cru :=
  match updateFirst (CondRecord.isUndelivered k sc) (CondRecord.coalesce d now anc (c.freshPend k))
      c.list with
  | some l => { c with list := l }
  | none => c.appendRecord (c.newRecord k sc d now anc)

/-! ## Raising (R158, R160, R167) -/

/-- The link group of a link (R55). -/
def groupIndex (l : Link) : Fin 5 := ⟨l.val / 8, by omega⟩

/-- A LINK_DOWN posting of a link is ancillary (R167): another link of the group has a last
LINK_DOWN within the preceding 1,000,000,000 ns. -/
def Cru.linkDownAncillary (c : Cru) (l : Link) (now : Nat) : Bool :=
  allLinks.any (fun m =>
    decide (m ≠ l) && decide (groupIndex m = groupIndex l) &&
      (match c.lastLinkDown[m] with
       | some o => decide (now ≤ o + 1000000000)
       | none => false))

/-- The ancillary mark of a posting (R167). -/
def Cru.ancillaryMark (c : Cru) (k : CondKind) (sc : Scope) (fromLink : Bool) (now : Nat) : Bool :=
  match k, sc with
  | .linkDown, .link l => c.linkDownAncillary l now
  | .rackCoasting, _ => fromLink
  | .rackLost, _ => fromLink
  | .trimLost, _ => fromLink
  | _, _ => false

/-- A LINK_DOWN posting sets its own link's last LINK_DOWN (R167). -/
def Cru.noteLinkDown (c : Cru) (k : CondKind) (sc : Scope) (now : Nat) : Cru :=
  match k, sc with
  | .linkDown, .link l => { c with lastLinkDown := c.lastLinkDown.set l (some now) }
  | _, _ => c

/-- A raise with its cause (`fromLink` for cause LINK), taken by the CRU (R158, R160, R161).  A LINK_DOWN
sets its link's last LINK_DOWN (R167) even where its record finds no room (DESIGN CHOICE, log entry
47). -/
def State.raiseWith (s : State) (k : CondKind) (sc : Scope) (d : Details) (fromLink : Bool) : State :=
  if s.cru.records? k then
    let anc := s.cru.ancillaryMark k sc fromLink s.osc
    s.setCru (((s.cru.activate k sc).noteLinkDown k sc s.osc).post k sc d s.readNow anc)
  else s

/-- A raise without a cause. -/
def State.raise (s : State) (k : CondKind) (sc : Scope) (d : Details) : State :=
  s.raiseWith k sc d false

/-! ## Clearing and withdrawal (R158, R163) -/

/-- A record of a cleared condition: inactive, without a repost due; withdrawn or removed as R163
says. -/
def Cru.clearRecord (c : Cru) (r : CondRecord) : Option CondRecord :=
  if r.active then
    let r' := { r with active := false, repostDue := none }
    if r.kind.isWithdrawable && !r.taken then none
    else if c.needed r' then some r' else none
  else some r

def Cru.clearIn (c : Cru) (k : CondKind) (sc : Scope) (r : CondRecord) : Option CondRecord :=
  if r.kind = k ∧ r.scope = sc then c.clearRecord r else some r

/-- A clear taken by the CRU: a pair that is not in the active set does nothing (R158). -/
def Cru.clear (c : Cru) (k : CondKind) (sc : Scope) : Cru :=
  if c.isActive k sc then
    { c with
      active := c.active.filter (fun x => x ≠ (k, sc))
      list := c.list.filterMap (c.clearIn k sc)
      reserved := c.reserved.bind (c.clearIn k sc) }
  else c

def State.clearCond (s : State) (k : CondKind) (sc : Scope) : State :=
  s.setCru (s.cru.clear k sc)

/-! ## Delivery (R164) -/

/-- The take of a record by a port at an instant (R164). -/
def CondRecord.takeBy (p : Port) (now interval : Nat) (r : CondRecord) : CondRecord :=
  { r with
    pend :=
      match r.pend with
      | .broadcast forA forB =>
        match p with
        | .a => .broadcast false forB
        | .b => .broadcast forA false
      | .floating _ => .floating false
    taken := true
    takenSince := true
    lastTake := some now
    repostDue := if r.active && decide (interval ≠ 0) then some (now + interval * second) else none }

/-- Whether a record is still owed to some port by its pending flags (R164). -/
def CondRecord.owed (r : CondRecord) : Bool :=
  match r.pend with
  | .broadcast forA forB => forA || forB
  | .floating owed => owed

/-- Take the first record of a list that is deliverable to a port: the record after the take, and
the list without it if it is inactive and pending for no port. -/
def Cru.takeFrom (c : Cru) (p : Port) (now : Nat) : List CondRecord → Option (CondRecord × List CondRecord)
  | [] => none
  | r :: rest =>
    if c.deliverable p r then
      let r' := r.takeBy p now c.repostInterval
      some (r', if r'.active || r'.owed then r' :: rest else rest)
    else (c.takeFrom p now rest).map (fun x => (x.1, r :: x.2))

/-- TAKE CONDITION in the CRU: the list first, then the reserved record (R164). -/
def Cru.take (c : Cru) (p : Port) (now : Nat) : Option CondRecord × Cru :=
  match c.takeFrom p now c.list with
  | some (r, l) => (some r, { c with list := l })
  | none =>
    match c.reserved with
    | some r =>
      if c.deliverable p r then
        let r' := r.takeBy p now c.repostInterval
        (some r', { c with reserved := if r'.active || r'.owed then some r' else none })
      else (none, c)
    | none => (none, c)

/-! ## Repost (R166) -/

/-- A record whose repost due has been reached and which is still active. -/
def CondRecord.repostReached (now : Nat) (r : CondRecord) : Bool :=
  r.active && (match r.repostDue with
    | some due => decide (due ≤ now)
    | none => false)

/-- A reposted record (R166). -/
def Cru.reposted (c : Cru) (r : CondRecord) : CondRecord :=
  { r with pend := c.freshPend r.kind, repostDue := none, takenSince := false }

/-- Repost of the record at a place of the list, which moves to its end; place 64 is the reserved
slot. -/
def Cru.repostAt (c : Cru) (place now : Nat) : Cru :=
  if place = 64 then
    match c.reserved with
    | some r => if r.repostReached now then { c with reserved := some (c.reposted r) } else c
    | none => c
  else
    match c.list[place]? with
    | some r =>
      if r.repostReached now then { c with list := c.list.eraseIdx place ++ [c.reposted r] } else c
    | none => c

/-! ## End of an event -/

/-- CONDITION_LIST_FULL is cleared when the list holds 48 records or fewer (R162). -/
def Cru.settleListFull (c : Cru) : Cru :=
  if c.isActive .conditionListFull .part && decide (c.list.length ≤ 48) then
    { c.clear .conditionListFull .part with listFullRefusals := 0 }
  else c

/-- The CRU's end of an event: the judgement of R162 and the attention lines of R165. -/
def State.settleCru (s : State) : State :=
  s.setCru s.cru.settleListFull.driveAttention

end Sys2Proof.Machine
end

