-- ==== Sys2Proof/Machine/Drift.lean ====
section
/-!
DEFINITION. The drift watch unit (chapter 7): metrics, levels, rise and fall, state notices and
resets, limits.
-/

namespace Sys2Proof.Machine

/-- Whether any of the three metrics meets its threshold (R118). -/
def meetsAny (o d t : Nat) (offsetTh driftTh totalTh : Nat) : Bool :=
  decide (offsetTh ≤ o) || decide (driftTh ≤ d) || decide (totalTh ≤ t)

/-- The evaluation level of three metrics: offset, drift, effort (R118). -/
def Limits.evalLevel (x : Limits) (o d t : Nat) : DriftLevel :=
  if meetsAny o d t x.offsetAlarm x.driftAlarm x.totalAlarm then .alarm
  else if meetsAny o d t x.offsetWatch x.driftWatch x.totalWatch then .watch
  else .normal

/-- The clear level: each clear threshold is half the raise threshold, rounded down (R116, R118). -/
def Limits.clearLevel (x : Limits) (o d t : Nat) : DriftLevel :=
  if meetsAny o d t (x.offsetAlarm / 2) (x.driftAlarm / 2) (x.totalAlarm / 2) then .alarm
  else if meetsAny o d t (x.offsetWatch / 2) (x.driftWatch / 2) (x.totalWatch / 2) then .watch
  else .normal

/-- The lower of two levels. -/
def DriftLevel.lower (a b : DriftLevel) : DriftLevel := if a.code ≤ b.code then a else b

/-- Pending limits become the limits in force (R126). -/
def DriftRecord.applyLimits (d : DriftRecord) : DriftRecord :=
  match d.pendingLimits with
  | some x => { d with limits := x, pendingLimits := none }
  | none => d

/-- The record after a reset (R124). -/
def DriftRecord.reset (d : DriftRecord) : DriftRecord :=
  { d.applyLimits with level := .normal, raiseCount := 0, raiseMin := none, fallCount := 0,
                       lastEval := none }

/-- How an evaluation moved a level: the new record and, for a change, the counter that moved it. -/
structure DriftMove where
  record : DriftRecord
  moved : Option Nat
  deriving DecidableEq, Repr

/-- The raise counter and a rise (R119), or else the fall counter and a fall (R120). -/
def DriftRecord.judge (d : DriftRecord) (ev cl : DriftLevel) : DriftMove :=
  if d.level.code < ev.code then
    let count := d.raiseCount + 1
    let lowest := match d.raiseMin with
      | some m => m.lower ev
      | none => ev
    if d.limits.k ≤ count then
      ⟨{ d with level := lowest, raiseCount := 0, raiseMin := none, fallCount := 0 }, some count⟩
    else ⟨{ d with raiseCount := count, raiseMin := some lowest, fallCount := 0 }, none⟩
  else if cl.code < d.level.code then
    let count := d.fallCount + 1
    if d.limits.m ≤ count then
      ⟨{ d with level := cl, raiseCount := 0, raiseMin := none, fallCount := 0 }, some count⟩
    else ⟨{ d with raiseCount := 0, raiseMin := none, fallCount := count }, none⟩
  else ⟨{ d with raiseCount := 0, raiseMin := none, fallCount := 0 }, none⟩

/-- The evaluation of a FRESH estimate with the trim total handed with it (R117): pending limits
first, then the metrics, the two levels, the counting, and the last evaluation. -/
def DriftRecord.evaluate (d : DriftRecord) (e : Estimate) (total : Int) : DriftMove :=
  let d0 := d.applyLimits
  let ev := d0.limits.evalLevel e.theta.natAbs e.rho.natAbs total.natAbs
  let cl := d0.limits.clearLevel e.theta.natAbs e.rho.natAbs total.natAbs
  let m := d0.judge ev cl
  ⟨{ m.record with lastEval := some ⟨e.theta, e.rho, total, e.generation, ev, cl⟩ }, m.moved⟩

/-- The drift kind that stands for a level. -/
def DriftLevel.kind : DriftLevel → CondKind
  | .normal => .driftNormal
  | .watch => .driftWatch
  | .alarm => .driftAlarm

/-- The conditions of a change of level (R121): the old level's condition cleared, then the new
level's posted. -/
def State.reportLevel (s : State) (l : Link) (old new : DriftLevel) (e : Estimate) (total : Int)
    (count : Nat) : State :=
  let s1 := if old = .normal then s else s.clearCond old.kind (.link l)
  s1.raise new.kind (.link l)
    { offset := some e.theta, drift := some e.rho, trimTotal := some total,
      oldState := some old.code, newState := some new.code, count := some count }

/-- The DWU takes a FRESH estimate (R102, R117). -/
def State.evaluate (s : State) (l : Link) (e : Estimate) (total : Int) : State :=
  let d := s.driftOf l
  let m := d.evaluate e total
  let s1 := s.setDrift l m.record
  match m.moved with
  | some count => s1.reportLevel l d.level m.record.level e total count
  | none => s1

/-- The drift record of a link reset, with its active drift conditions cleared (R124), at HALT too, which
R124 names and R181 and R173 except (DEDUCED, log entry 37). -/
def State.resetDrift (s : State) (l : Link) : State :=
  ((s.setDrift l (s.driftOf l).reset).clearCond .driftWatch (.link l)).clearCond
    .driftAlarm (.link l)

/-- The DWU takes a state notice (R123). -/
def State.stateNotice (s : State) (l : Link) (new : RackState) : State :=
  let s1 := s.setDrift l { s.driftOf l with notified := new }
  match new with
  | .tracking => s1
  | .coasting => s1.setDrift l (s1.driftOf l).applyLimits
  | .acquiring => s1.setDrift l (s1.driftOf l).applyLimits
  | .attaching => s1.resetDrift l
  | .lost => s1.resetDrift l
  | .idle => s1.resetDrift l
  | .quarantined => s1.resetDrift l

/-- Limits written to a link (R126): pending while the notified state is TRACKING, in force at once
otherwise. -/
def DriftRecord.writeLimits (d : DriftRecord) (x : Limits) : DriftRecord :=
  if d.notified = .tracking then { d with pendingLimits := some x }
  else { d with limits := x, pendingLimits := none }

/-- Limits put into shape (R125): clamped, then each ALARM threshold raised to its WATCH threshold. -/
def Limits.shape (x : Limits) : Limits :=
  let th := clampRange 1 1000000000
  let ow := th x.offsetWatch
  let dw := th x.driftWatch
  let tw := th x.totalWatch
  { offsetWatch := ow, offsetAlarm := max ow (th x.offsetAlarm)
    driftWatch := dw, driftAlarm := max dw (th x.driftAlarm)
    totalWatch := tw, totalAlarm := max tw (th x.totalAlarm)
    k := clampRange 1 64 x.k, m := clampRange 1 64 x.m }

end Sys2Proof.Machine
end

