-- ==== Sys2Proof/Machine/Links.lean ====
section
/-!
DEFINITION. The span link controller (chapter 4) up to what it reports to the rack time manager:
entries to DOWN and TRAINING, handing of frames, WITHDRAWN reports, link errors and the error rate.
-/

namespace Sys2Proof.Machine

/-- Whether a link is UP. -/
def State.isUp (s : State) (l : Link) : Bool := decide ((s.link l).state = .up)

/-! ## Reports to the handing block (R81, R83, R106, R134) -/

/-- A PROBE reported WITHDRAWN: the probe in flight of its exchange number is removed (R83), matched by
that number alone (log entry 44). -/
def RackEntry.probeWithdrawn (e : RackEntry) (n : Nat) : RackEntry :=
  match e.probe with
  | some p => if p.number = n then { e with probe := none } else e
  | none => e

/-- A TRIM reported WITHDRAWN while the link is UP: the trim in flight of its generation is removed
(R106). -/
def RackEntry.trimWithdrawn (e : RackEntry) (g : Nat) : RackEntry :=
  match e.trim with
  | some t => if t.generation = g then { e with trim := none } else e
  | none => e

/-- A frame reported WITHDRAWN to the block that handed it.  A WELCOME stays owed (R81), a DISMISS
or a VERDICT is not handed again (R81, R134), and a TRIM withdrawn because its link left UP is
settled by the link notice (R106). -/
def State.withdrawn (s : State) (l : Link) (f : TxFrame) : State :=
  match f with
  | .probe n => s.setEntry l ((s.entry l).probeWithdrawn n)
  | .trim g _ _ _ _ => if s.isUp l then s.setEntry l ((s.entry l).trimWithdrawn g) else s
  | .welcome _ _ _ _ => s
  | .verdict _ _ _ => s
  | .dismiss _ => s

/-! ## Link errors and the error rate (4.5) -/

/-- An oscillator time appended to an error-time list of at most 16 (R65). -/
def appendErrorTime (ts : List Nat) (o : Nat) : List Nat :=
  if 16 ≤ ts.length then ts.drop 1 ++ [o] else ts ++ [o]

/-- The error-rate test on a list whose newest time is `o` (R66). -/
def errorRateTest (ts : List Nat) (n w o : Nat) : Bool :=
  match ts.reverse[n - 1]? with
  | some nth => decide (o ≤ nth + w * second)
  | none => false

/-- The detail count of LINK_ERROR_RATE: times no older than the newest less W (R66). -/
def errorRateCount (ts : List Nat) (w o : Nat) : Nat :=
  (ts.filter (fun t => decide (o ≤ t + w * second))).length

/-- A link error judged now (R65, R66). -/
def State.linkError (s : State) (l : Link) : State :=
  let r := s.link l
  let ts := appendErrorTime r.errorTimes s.osc
  let passes := errorRateTest ts r.n r.w s.osc
  let flag := r.errorFlag || passes
  let s1 := s.setLink l
    { r with errorTimes := ts, errorFlag := flag,
             clearInstant := if flag then some (s.osc + r.w * second) else r.clearInstant }
  if passes && !r.errorFlag then
    s1.raise .linkErrorRate (.link l) { count := some (errorRateCount ts r.w s.osc) }
  else s1

/-- Whether the clear instant of a set error-rate flag has been reached (R66). -/
def LinkRecord.clearReached (r : LinkRecord) (now : Nat) : Bool :=
  r.errorFlag && (match r.clearInstant with
    | some c => decide (c ≤ now)
    | none => false)

/-- The error-rate flag is cleared with its clear instant, and LINK_ERROR_RATE with it (R66, R70,
R72). -/
def State.clearErrorRate (s : State) (l : Link) : State :=
  (s.setLink l { s.link l with errorFlag := false, clearInstant := none }).clearCond
    .linkErrorRate (.link l)

/-- LINK_ERROR_RATE_CLEAR (R66). -/
def State.errorRateClearDue (s : State) (l : Link) : State :=
  if (s.link l).clearReached s.osc then s.clearErrorRate l else s

/-- N and W take new values (R67). -/
def State.setErrorRate (s : State) (l : Link) (n w : Nat) : State :=
  let r := s.link l
  let clear :=
    if r.errorFlag then
      match r.errorTimes.getLast? with
      | some newest => some (newest + w * second)
      | none => r.clearInstant
    else r.clearInstant
  (s.setLink l { r with n := n, w := w, clearInstant := clear }).errorRateClearDue l

/-! ## Transmission (4.3) -/

/-- Whether the transmit queue of a link holds its 32 frames (R60). -/
def State.queueFull (s : State) (l : Link) : Bool := decide (32 ≤ (s.link l).txQueue.length)

/-- A frame handed for a link (R60): WITHDRAWN at once while the link is not UP; WITHDRAWN with a
TRANSMIT OVERRUN link error when the queue holds 32; otherwise it joins the end of the queue. -/
def State.handFrame (s : State) (l : Link) (f : TxFrame) : State :=
  let r := s.link l
  if r.state ≠ .up then s.withdrawn l f
  else if 32 ≤ r.txQueue.length then (s.withdrawn l f).linkError l
  else s.setLink l { r with txQueue := r.txQueue ++ [f] }

/-- The oldest frame leaves the queue and its transmission begins; the departure stamp is the
conversion of the departure instant (R60, R61). -/
def State.beginTransmission (s : State) (l : Link) (departure : Nat) : State :=
  let r := s.link l
  match r.state, r.inTx, r.txQueue with
  | .up, none, f :: rest =>
    let stamp := s.tsu.convert departure
    s.setLink l { r with txQueue := rest, inTx := some ⟨f, departure, stamp.hall, stamp.era⟩ }
  | _, _, _ => s

/-- The reports of R58 on leaving UP: the frame in transmission is cut off, the queue is emptied in
queue order, and each frame is reported WITHDRAWN. -/
def State.withdrawAll (s : State) (l : Link) : State :=
  let r := s.link l
  let frames := (r.inTx.map (fun x => x.frame)).toList ++ r.txQueue
  frames.foldl (fun st f => st.withdrawn l f) (s.setLink l { r with inTx := none, txQueue := [] })

/-! ## States of a link (4.2) -/

/-- Entry to DOWN (R56). -/
def LinkRecord.enterDown (r : LinkRecord) (now : Nat) : LinkRecord :=
  { r with state := .down, settleDeadline := some (now + 10000000), trainingDeadline := none }

/-- Entry to TRAINING (R57). -/
def LinkRecord.enterTraining (r : LinkRecord) (now : Nat) : LinkRecord :=
  { r with state := .training, settleDeadline := none, trainingDeadline := some (now + 500000000),
           readySent := false, readyReceived := false, trainRun := 0 }

/-- Entry to DISABLED: the receiver ignores the lane (R54) and the deadlines are removed (R70). -/
def LinkRecord.enterDisabled (r : LinkRecord) : LinkRecord :=
  { r with state := .disabled, settleDeadline := none, trainingDeadline := none, activity := false }

/-- A gain of lane activity (R54, R56). -/
def LinkRecord.gainActivity (r : LinkRecord) (now : Nat) : LinkRecord :=
  match r.state with
  | .disabled => r
  | .down =>
    if r.settleDeadline.isSome then { r with activity := true }
    else { r with activity := true }.enterTraining now
  | .training => { r with activity := true }
  | .up => { r with activity := true }

/-- Whether the settle deadline of a DOWN link has been reached. -/
def LinkRecord.settleReached (r : LinkRecord) (now : Nat) : Bool :=
  decide (r.state = .down) && (match r.settleDeadline with
    | some d => decide (d ≤ now)
    | none => false)

/-- The settle deadline is reached (R56). -/
def LinkRecord.settle (r : LinkRecord) (now : Nat) : LinkRecord :=
  if r.settleReached now then
    let r1 := { r with settleDeadline := none }
    if r.activity then r1.enterTraining now else r1
  else r

/-- Whether the training deadline of a link in TRAINING has been reached. -/
def LinkRecord.trainingExpired (r : LinkRecord) (now : Nat) : Bool :=
  decide (r.state = .training) && (match r.trainingDeadline with
    | some d => decide (d ≤ now)
    | none => false)

/-- A training block taken in TRAINING advances the count and the READY flags (R57). -/
def LinkRecord.trainBlock (r : LinkRecord) (ready : Bool) : LinkRecord :=
  let run := satAdd 16 r.trainRun 1
  { r with trainRun := run, readySent := r.readySent || decide (run = 16),
           readyReceived := r.readyReceived || ready }

/-- A LINK_DOWN posted on leaving UP (R59), with the check-failure run as its count. -/
def State.postLinkDown (s : State) (l : Link) (run : Nat) : State :=
  s.raise .linkDown (.link l)
    { oldState := some LinkState.up.code, newState := some (s.link l).state.code, count := some run }

end Sys2Proof.Machine
end

