-- ==== Sys2Proof/Machine/Racks.lean ====
section
/-!
DEFINITION. The rack table (chapter 5) up to the causes that move an entry without an exchange:
attachment, quarantine, loss, IDLE, probes and misses, and the loss of a trim (R109).
-/

namespace Sys2Proof.Machine

/-- In service: ATTACHING, ACQUIRING, TRACKING or COASTING (R75). -/
def RackState.inService : RackState → Bool
  | .attaching => true
  | .acquiring => true
  | .tracking => true
  | .coasting => true
  | .idle => false
  | .lost => false
  | .quarantined => false

def State.inService (s : State) (l : Link) : Bool := (s.entry l).state.inService

/-- The conditions tied to the state an entry leaves are cleared (R75). -/
def State.leaveState (s : State) (l : Link) (old : RackState) : State :=
  match old with
  | .coasting => s.clearCond .rackCoasting (.link l)
  | .lost => s.clearCond .rackLost (.link l)
  | .quarantined =>
    ((s.clearCond .duplicateRack (.link l)).clearCond .wrongRack (.link l)).clearCond
      .twinDomain (.link l)
  | .idle => s
  | .attaching => s
  | .acquiring => s
  | .tracking => s

/-! ## Frames of the RTM -/

/-- A WELCOME with the values in force (R81). -/
def State.handWelcome (s : State) (l : Link) : State :=
  s.handFrame l
    (.welcome s.mgp.domainId s.mgp.domainInstance s.tsu.era (s.entry l).trimGeneration)

/-- A DISMISS carrying a reason (R81). -/
def State.handDismiss (s : State) (l : Link) (q : QReason) : State := s.handFrame l (.dismiss q)

/-! ## Probes (R82, R83) -/

/-- Whether a probe is due and can be handed (R82). -/
def State.probeCanGo (s : State) (l : Link) : Bool :=
  let e := s.entry l
  s.inService l && s.isUp l && decide (e.probe = none) && decide (s.mgp.mode = .serving) &&
    (match e.nextProbeDue with
     | some d => decide (d ≤ s.osc)
     | none => false)

/-- The entry as a probe is handed at an instant (R82): exchange number taken, a record of the window
with that number removed, the probe in flight recorded, the next probe due reckoned. -/
def RackEntry.openProbe (e : RackEntry) (now : Nat) : RackEntry :=
  { e with
    nextExchange := (e.nextExchange + 1) % 65536
    window := e.window.filter (fun r => decide (r.number ≠ e.nextExchange))
    probe := some ⟨e.nextExchange, none⟩
    nextProbeDue := some (now + e.settings.pollInterval * 1000000)
    probeReckoned := some now }

/-- A PROBE handed (R82), without the WELCOME that may precede it. -/
def State.handProbe (s : State) (l : Link) : State :=
  let e := s.entry l
  (s.setEntry l (e.openProbe s.osc)).handFrame l (.probe e.nextExchange)

/-- A probe handed if it is due and can be (R82), preceded by an owed WELCOME (R81). -/
def State.probeIfDue (s : State) (l : Link) : State :=
  if s.probeCanGo l then
    let s1 := if (s.entry l).welcomeOwed then s.handWelcome l else s
    s1.handProbe l
  else s

/-- The entry takes a PROBE reported DEPARTED (R83).  The report is matched by the exchange number alone,
so that of an abandoned PROBE 0 is taken for the PROBE 0 of a new attachment (DESIGN CHOICE, log entry
44). -/
def RackEntry.probeDeparted (e : RackEntry) (n : Nat) (x : TxInFlight) : RackEntry :=
  match e.probe with
  | some p =>
    if p.number = n then
      { e with probe := some ⟨n, some ⟨x.stampHall, x.stampEra, x.departureO⟩⟩
               nextProbeDue := some (x.departureO + e.settings.pollInterval * 1000000)
               probeReckoned := some x.departureO }
    else e
  | none => e

/-- The entry takes a TRIM reported DEPARTED (R106). -/
def RackEntry.trimDeparted (e : RackEntry) (g : Nat) (x : TxInFlight) : RackEntry :=
  match e.trim with
  | some t =>
    if t.generation = g then { e with trim := some { t with sentAt := some x.departureO } } else e
  | none => e

/-- The entry takes a frame reported DEPARTED (R81, R83, R106, R134).  Any WELCOME that departs ends
WELCOME owed, one of an earlier attachment included (DESIGN CHOICE, log entry 35). -/
def RackEntry.departed (e : RackEntry) (x : TxInFlight) : RackEntry :=
  match x.frame with
  | .welcome _ _ _ _ => { e with welcomeOwed := false }
  | .probe n => e.probeDeparted n x
  | .trim g _ _ _ _ => e.trimDeparted g x
  | .verdict _ _ _ => e
  | .dismiss _ => e

/-! ## Causes of IDLE (R96) -/

/-- The fields of an entry put in IDLE; the held HELLO is kept or removed by cause. -/
def RackEntry.toIdle (e : RackEntry) (keepHello : Bool) : RackEntry :=
  { RackEntry.cold with
    heldHello := if keepHello then e.heldHello else none
    settings := e.settings
    degrade := e.degrade
    isolate := e.isolate }

/-- An entry goes IDLE: fields, conditions of the state left, state notice (R75, R96).  At HALT too the
RACK conditions of the state left clear, as R96 says, though R173 and R181 except the list and the active
set (DEDUCED, log entry 37). -/
def State.goIdle (s : State) (l : Link) (keepHello : Bool) : State :=
  let e := s.entry l
  ((s.setEntry l (e.toIdle keepHello)).leaveState l e.state).stateNotice l .idle

/-! ## Quarantine (R79) -/

/-- The fields of an entry put in QUARANTINED (R79, R110). -/
def RackEntry.toQuarantine (e : RackEntry) (claimed : Option Nat) (q : QReason) : RackEntry :=
  { e with
    state := .quarantined, claimed := claimed, identity := none, endpointKind := none
    quarantineReason := some q, window := [], current := none, predecessor := none
    probe := none, trim := none, stepOwed := none, unsettled := false
    nextProbeDue := none, probeReckoned := none, welcomeOwed := false
    lastAccepted := none, coastCause := none }

/-- The condition named by a quarantine reason; ISOLATED posts none (R79). -/
def QReason.kind : QReason → Option CondKind
  | .duplicate => some .duplicateRack
  | .wrongRack => some .wrongRack
  | .twinDomain => some .twinDomain
  | .isolated => none

/-- Entry to QUARANTINED (R79).  R75 and R79 list its parts without an order; the model takes the DISMISS
with its TRANSMIT OVERRUN, the clears of the state left, the condition, then the state notice with its
drift clears (DESIGN CHOICE, log entry 49). -/
def State.quarantine (s : State) (l : Link) (claimed : Option Nat) (q : QReason) : State :=
  let e := s.entry l
  let s1 := (s.setEntry l (e.toQuarantine claimed q)).handDismiss l q
  let s2 := s1.leaveState l e.state
  let s3 :=
    match q.kind with
    | some k =>
      s2.raise k (.link l) { newState := some RackState.quarantined.code, count := claimed }
    | none => s2
  s3.stateNotice l .quarantined

/-- The RTM takes the setting of ISOLATE (R91). -/
def State.isolateSet (s : State) (l : Link) : State :=
  if s.inService l then s.quarantine l (s.entry l).identity .isolated else s

/-! ## Attachment (R76 to R78) -/

/-- The checks of R77, in order: the reason of the first that fails. -/
def State.helloFailure (s : State) (l : Link) (h : Hello) : Option QReason :=
  let id := h.identity.toNat
  if h.domainId.toNat = s.mgp.domainId ∧ h.domainInstance.toNat ≠ s.mgp.domainInstance then
    some .twinDomain
  else if id < (s.link l).rangeFirst ∨ (s.link l).rangeLast < id then some .wrongRack
  else if allLinks.any (fun m =>
      decide (m ≠ l) && s.inService m && decide ((s.entry m).identity = some id)) then
    some .duplicate
  else if (s.entry l).isolate then some .isolated
  else none

/-- The carry rule of R78: the current estimate is kept, as CARRIED, for an entry in service whose
identity and trim generation equal the HELLO's. -/
def RackEntry.carried (e : RackEntry) (h : Hello) : Option Estimate :=
  if e.state.inService ∧ e.identity = some h.identity.toNat ∧
      e.trimGeneration = h.generation.toNat then
    e.current.map (fun x => { x with source := .carried })
  else none

/-- The fields of an entry attached at an instant (R78, R110). -/
def RackEntry.attach (e : RackEntry) (h : Hello) (now : Nat) : RackEntry :=
  { e with
    state := .attaching
    identity := some h.identity.toNat
    claimed := none
    lastIdentity := some h.identity.toNat
    endpointKind := some (endpointKindOf h.endpointKind)
    quarantineReason := none
    window := []
    current := e.carried h
    predecessor := none
    trimGeneration := h.generation.toNat
    unsettled := false
    nextExchange := 0
    probe := none
    nextProbeDue := some now
    probeReckoned := none
    welcomeOwed := true
    trim := none
    sinceTrim := 0
    missed := 0
    lastAccepted := some now
    coastCause := none
    trimTotal := if e.lastIdentity = some h.identity.toNat then e.trimTotal else 0 }

/-- The first PROBE of an attachment (R78, R82), for a WELCOME already handed in the event: where that
one was WITHDRAWN by a full queue, a fresh one is handed immediately before the PROBE (R81). -/
def State.firstProbe (s : State) (l : Link) (withdrawn : Bool) : State :=
  if s.probeCanGo l then (if withdrawn then s.handWelcome l else s).handProbe l else s

/-- ATTACHMENT (R78): the fields, the WELCOME and a PROBE with their TRANSMIT OVERRUNs, the clears of the
state left, RACK_ATTACHED, then the state notice with its drift clears.  Where the clears of R75 and the
notice stand in that sequence no rule says (DESIGN CHOICE, log entry 49). -/
def State.attach (s : State) (l : Link) (h : Hello) : State :=
  let e := s.entry l
  let s1 := (s.setEntry l (e.attach h s.osc)).handWelcome l
  let s2 := s1.firstProbe l (s.queueFull l)
  let s3 := s2.leaveState l e.state
  let s4 := s3.raise .rackAttached (.link l)
    { oldState := some e.state.code, newState := some RackState.attaching.code,
      era := some s3.tsu.era, count := some h.identity.toNat }
  s4.stateNotice l .attaching

/-- A HELLO judged in SERVING (R77). -/
def State.judgeHello (s : State) (l : Link) (h : Hello) : State :=
  match s.helloFailure l h with
  | some q => s.quarantine l (some h.identity.toNat) q
  | none => s.attach l h

/-- A HELLO delivered (R76). -/
def State.takeHello (s : State) (l : Link) (h : Hello) : State :=
  let s1 := s.setEntry l { s.entry l with heldHello := some h }
  match s1.mgp.mode with
  | .setup => s1
  | .serving =>
    match (s1.entry l).state with
    | .quarantined =>
      match (s1.entry l).quarantineReason with
      | some q => s1.handDismiss l q
      | none => s1
    | _ => s1.judgeHello l h

/-! ## Misses, loss of a trim, loss of the rack -/

/-- Whether the exchange timeout of the probe in flight has been reached (R83, R84). -/
def RackEntry.exchangeOverdue (e : RackEntry) (now : Nat) : Bool :=
  match e.probe with
  | some ⟨_, some d⟩ => decide (d.sentAt + 2000000 ≤ now)
  | _ => false

/-- TRACKING with its third consecutive miss enters COASTING (R84). -/
def State.coastIfMissed (s : State) (l : Link) : State :=
  let e := s.entry l
  if e.state = .tracking ∧ 3 ≤ e.missed then
    let s1 := (s.setEntry l { e with state := .coasting, coastCause := some .missed }).raise
      .rackCoasting (.link l)
      { oldState := some RackState.tracking.code, newState := some RackState.coasting.code,
        count := some e.missed }
    s1.stateNotice l .coasting
  else s

/-- EXCHANGE_TIMEOUT (R84).  RACK_COASTING is posted before the probe that is due is handed, whose
TRANSMIT OVERRUN may raise LINK_ERROR_RATE (DESIGN CHOICE, log entry 48). -/
def State.exchangeTimeout (s : State) (l : Link) : State :=
  let e := s.entry l
  if e.exchangeOverdue s.osc then
    let s1 := s.setEntry l { e with probe := none, missed := satAdd 255 e.missed 1 }
    (s1.coastIfMissed l).probeIfDue l
  else s

/-- An entry in TRACKING, COASTING or ATTACHING enters ACQUIRING; ACQUIRING stays (R87, R109).  The
RACK_COASTING of an entry that leaves COASTING clears. -/
def State.enterAcquiring (s : State) (l : Link) : State :=
  let e := s.entry l
  (s.setEntry l { e with state := .acquiring, coastCause := none }).leaveState l e.state

/-- The state notice of a move to ACQUIRING, given when the state changed. -/
def State.noticeAcquiring (s : State) (l : Link) (old : RackState) : State :=
  if old = .acquiring then s else s.stateNotice l .acquiring

/-- A trim in flight is LOST (R109), or abandoned by a link notice with the same effects (R90). -/
def State.loseTrim (s : State) (l : Link) (fromLink : Bool) : State :=
  let e := s.entry l
  match e.trim with
  | some t =>
    let s1 := s.setEntry l
      { e with current := none, predecessor := none, window := [], trim := none, unsettled := true }
    let s2 := s1.enterAcquiring l
    let s3 := s2.raiseWith .trimLost (.link l)
      { oldState := some e.state.code, newState := some RackState.acquiring.code,
        count := some t.generation } fromLink
    s3.noticeAcquiring l e.state
  | none => s

/-- Whether the trim timeout of the trim in flight has been reached (R106, R109). -/
def RackEntry.trimOverdue (e : RackEntry) (now : Nat) : Bool :=
  match e.trim with
  | some t =>
    match t.sentAt with
    | some o => decide (o + 200000000 ≤ now)
    | none => false
  | none => false

/-- The fields of an entry put in LOST (R89, R110). -/
def RackEntry.toLost (e : RackEntry) : RackEntry :=
  { e with
    state := .lost, identity := none, endpointKind := none, window := [], current := none
    predecessor := none, probe := none, trim := none, stepOwed := none, unsettled := false
    nextProbeDue := none, probeReckoned := none, welcomeOwed := false, coastCause := none }

/-- An entry enters LOST (R89): the clears of the state left, RACK_LOST, then the state notice with its
drift clears (DESIGN CHOICE, log entry 49). -/
def State.loseRack (s : State) (l : Link) (fromLink : Bool) : State :=
  let e := s.entry l
  let s1 := (s.setEntry l e.toLost).leaveState l e.state
  let s2 := s1.raiseWith .rackLost (.link l)
    { oldState := some e.state.code, newState := some RackState.lost.code, count := some e.missed }
    fromLink
  s2.stateNotice l .lost

/-- Whether an entry's loss deadline has been reached (R89). -/
def RackEntry.lossReached (e : RackEntry) (now : Nat) : Bool :=
  (match e.state with
   | .attaching => true
   | .acquiring => true
   | .coasting => true
   | .idle => false
   | .tracking => false
   | .lost => false
   | .quarantined => false) &&
  (match e.lastAccepted with
   | some o => decide (o + 120000000000 ≤ now)
   | none => false)

/-- LOSS_DEADLINE (R89): the cause is LINK for an entry COASTING with that cause. -/
def State.lossDeadline (s : State) (l : Link) : State :=
  let e := s.entry l
  if e.lossReached s.osc then s.loseRack l (decide (e.coastCause = some .link)) else s

/-! ## Link notices but UP (R90) -/

/-- The held HELLO and the probe in flight are removed as a link leaves UP (R90). -/
def RackEntry.unplug (e : RackEntry) : RackEntry := { e with heldHello := none, probe := none }

/-- A trim in flight is abandoned and the entry, now in ACQUIRING, enters LOST (R90). -/
def State.abandonRack (s : State) (l : Link) : State := (s.loseTrim l true).loseRack l true

/-- A TRACKING entry enters COASTING with cause LINK (R90). -/
def State.coastByLink (s : State) (l : Link) : State :=
  let e := s.entry l
  let s1 := (s.setEntry l { e with state := .coasting, coastCause := some .link }).raiseWith
    .rackCoasting (.link l)
    { oldState := some RackState.tracking.code, newState := some RackState.coasting.code,
      count := some e.missed } true
  s1.stateNotice l .coasting

/-- What the notice DOWN does by the state of the entry (R90). -/
def State.dropEntry (s : State) (l : Link) : State :=
  let e := s.entry l
  match e.state with
  | .tracking => if e.trim.isSome then s.abandonRack l else s.coastByLink l
  | .acquiring => if e.trim.isSome then s.abandonRack l else s.loseRack l true
  | .coasting =>
    if e.trim.isSome then s.abandonRack l
    else s.setEntry l { e with coastCause := some .link }
  | .attaching => s.loseRack l true
  | .idle => s
  | .lost => s
  | .quarantined => s

/-- The notice DOWN (R90). -/
def State.noticeDown (s : State) (l : Link) : State :=
  (s.setEntry l (s.entry l).unplug).dropEntry l

/-- How a link leaves UP, or is disabled or reset. -/
inductive LinkCause where
  | down
  | disabled
  | reset
  deriving DecidableEq, Repr

/-- The RTM takes a link notice of DOWN, DISABLED or RESET (R90). -/
def State.linkNotice (s : State) (l : Link) (c : LinkCause) : State :=
  match c with
  | .down => s.noticeDown l
  | .disabled => s.goIdle l false
  | .reset => s.goIdle l false

/-- A link leaves UP with its new state given (R58, R59): the withdrawals, the link notice, LINK_DOWN.
The list of R58 is read as an order, so what the notice raises and clears comes before LINK_DOWN (DEDUCED,
log entry 50). -/
def State.leaveUp (s : State) (l : Link) (r : LinkRecord) (c : LinkCause) : State :=
  let run := (s.link l).checkRun
  (((s.setLink l r).withdrawAll l).linkNotice l c).postLinkDown l run

/-- An UP link goes DOWN by its own events (R58, R64). -/
def State.linkFalls (s : State) (l : Link) : State :=
  s.leaveUp l ((s.link l).enterDown s.osc) .down

end Sys2Proof.Machine
end

