-- ==== Sys2Proof/Machine/Flags.lean ====
section
/-!
DEFINITION. The action flags the CRU derives from the active set and writes into rack entries
(10.8), and the end of an event.
-/

namespace Sys2Proof.Machine

/-- The action of DRIFT_WATCH: one step milder than that of DRIFT_ALARM (R168). -/
def Action.milder : Action → Action
  | .isolate => .degrade
  | .degrade => .note
  | .note => .note

/-- What drives the flags of a link: which of the three kinds are active on it, and the actions of
its group (R168). -/
structure Driving where
  driftAlarm : Bool
  driftWatch : Bool
  errorRate : Bool
  actions : GroupActions
  deriving DecidableEq, Repr

def Cru.driving (c : Cru) (l : Link) : Driving :=
  ⟨c.isActive .driftAlarm (.link l), c.isActive .driftWatch (.link l),
   c.isActive .linkErrorRate (.link l), c.actions[groupIndex l]⟩

/-- DEGRADE: a driving kind is active with action DEGRADE or ISOLATE (R168). -/
def Driving.degrade (d : Driving) : Bool :=
  (d.driftAlarm && decide (d.actions.driftAlarm ≠ .note)) ||
  (d.driftWatch && decide (d.actions.driftAlarm.milder ≠ .note)) ||
  (d.errorRate && decide (d.actions.linkErrorRate ≠ .note))

/-- ISOLATE: a driving kind is active with action ISOLATE (R168). -/
def Driving.isolate (d : Driving) : Bool :=
  (d.driftAlarm && decide (d.actions.driftAlarm = .isolate)) ||
  (d.driftWatch && decide (d.actions.driftAlarm.milder = .isolate)) ||
  (d.errorRate && decide (d.actions.linkErrorRate = .isolate))

/-- The flags of a link derived afresh and written into its entry; an ISOLATE that changes from clear
to set is taken by the RTM as the event of R91 (R168). -/
def State.writeFlags (s : State) (l : Link) : State :=
  let d := s.cru.driving l
  let e := s.entry l
  let s1 := s.setEntry l { e with degrade := d.degrade, isolate := d.isolate }
  if d.isolate && !e.isolate then s1.isolateSet l else s1

/-- The flags of a link derived afresh if the link's part of the active set, or the actions of its
group, differ from those of an earlier state (R168). -/
def State.deriveFlags (before s : State) (l : Link) : State :=
  if before.cru.driving l = s.cru.driving l then s else s.writeFlags l

/-- The same, and once more for what the quarantine of R91 changes: its state notice may clear the
drift conditions that drove ISOLATE (R91, R124). -/
def State.settleFlags (before s : State) (l : Link) : State :=
  State.deriveFlags s (State.deriveFlags before s l) l

/-- The end of an event that began in a state: fault actions (R168), the judgement of R162 and the
attention lines (R165).  Where HALT, a link DISABLED or RESET, or CLEAR QUARANTINE clears a driving
condition, the flags that R80 and R96 keep follow it here (DEDUCED, log entry 45). -/
def State.endEvent (before s : State) : State :=
  (forLinks (fun l st => State.settleFlags before st l) s).settleCru

end Sys2Proof.Machine
end

