-- ==== Sys2Proof/Machine/Trims.lean ====
section
/-!
DEFINITION. Offset estimation and trims (chapter 6), and the exchanges that feed them (5.4, 5.5).
-/

namespace Sys2Proof.Machine

/-! ## Exchange arithmetic and estimates -/

/-- The exchange record of four times (R97). -/
def exchangeRecord (number t1 t2 t3 t4 : Nat) : ExchangeRecord where
  number := number
  t1 := t1
  t2 := t2
  t3 := t3
  t4 := t4
  delta := ((t4 : Int) - t1) - ((t3 : Int) - t2)
  theta := divDown (((t2 : Int) - t1) - ((t4 : Int) - t3)) 2

/-- The record of smallest delay in a list ordered oldest to newest, ties to the newest (R100, R101). -/
def leastDelay : List ExchangeRecord → Option ExchangeRecord
  | [] => none
  | r :: rest =>
    match leastDelay rest with
    | none => some r
    | some best => if r.delta < best.delta then some r else some best

/-- The smallest delay of a window. -/
def minDelay (w : List ExchangeRecord) : Option Int := (leastDelay w).map (fun r => r.delta)

/-- The older and newer drift records of a window (R101). -/
def driftRecords (w : List ExchangeRecord) : Option (ExchangeRecord × ExchangeRecord) :=
  match leastDelay (w.take (w.length / 2)), leastDelay (w.drop (w.length / 2)) with
  | some older, some newer => some (older, newer)
  | _, _ => none

/-- The drift of a new estimate, with the current estimate held before it (R101): over a short span the
held ρ̂, which lies within ±200,000 itself (6.3), is taken as it is. -/
def windowDrift (w : List ExchangeRecord) (before : Option Estimate) : Int :=
  let held := match before with
    | some e => e.rho
    | none => 0
  match driftRecords w with
  | some (older, newer) =>
    let span : Int := (newer.t4 : Int) - older.t4
    if 1000000000 ≤ span then
      clampSym 200000 (divTrunc ((newer.theta - older.theta) * 1000000000) span)
    else held
  | none => held

/-- The FRESH estimate of a window of four or more records (R100 to R102). -/
def freshEstimate (w : List ExchangeRecord) (before : Option Estimate) (asymmetry generation : Nat) :
    Option Estimate :=
  if w.length < 4 then none
  else
    (leastDelay w).map (fun r =>
      { theta := r.theta
        rho := windowDrift w before
        tau := (r.t2 + r.t3) / 2
        uRack := satAdd unbounded (divUp r.delta 2).toNat asymmetry
        generation := generation
        source := .fresh })

/-- The outcome of offering a record to the window (R98). -/
structure Admission where
  window : List ExchangeRecord
  admitted : Bool
  deriving DecidableEq, Repr

/-- A record offered to the window (R98): wrapped hall time, maximum delay, delay gate, admission. -/
def offerToWindow (w : List ExchangeRecord) (r : ExchangeRecord) (gate maxDelay : Nat) : Admission :=
  let w1 := match w.getLast? with
    | some newest => if r.t4 ≤ newest.t4 then [] else w
    | none => w
  if (maxDelay : Int) < r.delta then ⟨w1, false⟩
  else
    match minDelay w1 with
    | some m =>
      if m + gate < r.delta then ⟨w1, false⟩
      else ⟨(if 8 ≤ w1.length then w1.drop 1 else w1) ++ [r], true⟩
    | none => ⟨w1 ++ [r], true⟩

/-! ## Trims -/

/-- The rack time about 10 ms ahead (R104, R105), exact. -/
def applyAtExact (hall : Nat) (e : Estimate) : Int := (hall : Int) + 10000000 + e.theta

/-- The offset an estimate predicts at an exact rack time (R104, R107). -/
def Estimate.predict (e : Estimate) (a : Int) : Int :=
  e.theta + divTrunc ((a - e.tau) * e.rho) 1000000000

/-- An ordinary trim (R104). -/
def ordinaryTrim (hall : Nat) (e : Estimate) (gen : Nat) (degrade : Bool) (c : LinkSettings) :
    TrimInFlight where
  generation := (gen + 1) % 256
  phase := clampSym c.phaseLimit (-(e.predict (applyAtExact hall e)))
  rate := if degrade then 0 else clampSym c.rateTrimLimit (-e.rho)
  applyAt := rackTime (applyAtExact hall e)
  stepFlag := false
  sentAt := none

/-- A STEP trim of a step owed (R105). -/
def stepTrim (hall : Nat) (e : Estimate) (gen : Nat) (owed : Int) : TrimInFlight where
  generation := (gen + 1) % 256
  phase := clampSym 2147483647 owed
  rate := 0
  applyAt := rackTime (applyAtExact hall e)
  stepFlag := true
  sentAt := none

/-- The trim the test of R103 builds for an entry, if any: a STEP trim while a step is owed (R105),
otherwise an ordinary one (R104). -/
def State.trimToBuild (s : State) (l : Link) : Option TrimInFlight :=
  let e := s.entry l
  let r := s.readNow
  if r.era ≠ s.rtmEra ∨ s.rdu.tsState = .failed ∨ e.trim.isSome then none
  else
    match e.stepOwed, e.current with
    | some owed, some est =>
      if (e.state = .tracking ∨ e.state = .acquiring ∨ e.state = .coasting) ∧ s.isUp l then
        some (stepTrim r.hall est e.trimGeneration owed)
      else none
    | some _, none => none
    | none, some est =>
      if e.state = .tracking ∧ est.source = .fresh ∧ e.isolate = false ∧
          e.settings.trimInterval ≤ e.sinceTrim then
        some (ordinaryTrim r.hall est e.trimGeneration e.degrade e.settings)
      else none
    | none, none => none

/-- The TRIM frame of a trim (12, "Span-link frames"). -/
def TrimInFlight.frame (t : TrimInFlight) : TxFrame :=
  .trim t.generation t.phase t.rate t.applyAt t.stepFlag

/-- The trim test (R103): the trim it builds becomes the trim in flight and is handed (R106). -/
def State.trimTest (s : State) (l : Link) : State :=
  match s.trimToBuild l with
  | some t => (s.setEntry l { s.entry l with trim := some t }).handFrame l t.frame
  | none => s

/-- Saturation at ±X. -/
def satSym (x : Nat) (v : Int) : Int := clampSym x v

/-- The current estimate formed by a completion with applied-at `a` (R107).  The sum ρ̂ + R is held
within the ±200,000 of the field (6.3, R116; DEDUCED, log entry 36). -/
def Estimate.afterTrim (e : Estimate) (t : TrimInFlight) (a : Nat) : Estimate where
  theta := e.predict a + t.phase
  rho := clampSym 200000 (e.rho + t.rate)
  tau := rackTime ((a : Int) + t.phase)
  uRack := e.uRack
  generation := t.generation
  source := .carried

/-- The step owed after a completed trim: a STEP trim takes its phase off it (R107). -/
def stepOwedAfter (owed : Option Int) (t : TrimInFlight) : Option Int :=
  if t.stepFlag then
    match owed with
    | some x => if x - t.phase = 0 then none else some (x - t.phase)
    | none => none
  else owed

/-- The fields of an entry whose trim in flight is completed with applied-at `a` (R107). -/
def RackEntry.completeTrim (e : RackEntry) (t : TrimInFlight) (a : Nat) : RackEntry :=
  { e with
    predecessor := e.current
    current := e.current.map (fun x => x.afterTrim t a)
    trimGeneration := t.generation
    window := []
    sinceTrim := 0
    trimTotal := satSym 2000000 (e.trimTotal + t.rate)
    stepOwed := stepOwedAfter e.stepOwed t
    trim := none }

/-- A trim in flight is COMPLETED (R107, R108), and the trim test follows. -/
def State.completeTrim (s : State) (l : Link) (t : TrimInFlight) (a : Nat) : State :=
  (s.setEntry l ((s.entry l).completeTrim t a)).trimTest l

/-! ## Exchanges (5.4, 5.5) -/

/-- The state after an accepted exchange, by the records in the window after admission (R88). -/
def acceptedState (old : RackState) (n : Nat) : RackState :=
  match old with
  | .tracking => .tracking
  | .attaching => if 4 ≤ n then .tracking else .acquiring
  | .acquiring => if 4 ≤ n then .tracking else .acquiring
  | .coasting => if 4 ≤ n then .tracking else .acquiring
  | .idle => .idle
  | .lost => .lost
  | .quarantined => .quarantined

/-- The state part of an accepted exchange (R88, R75): counters, state, RACK_COASTING, notice. -/
def State.acceptExchange (s : State) (l : Link) (w : List ExchangeRecord) : State :=
  let e := s.entry l
  let new := acceptedState e.state w.length
  let s1 := s.setEntry l
    { e with window := w, lastAccepted := some s.osc, sinceTrim := satAdd 255 e.sinceTrim 1,
             state := new, coastCause := if new = .coasting then e.coastCause else none }
  if new = e.state then s1 else (s1.leaveState l e.state).stateNotice l new

/-- The estimate that follows an admission (R100 to R102), evaluated by the DWU (R117), with the
fault actions of a change of level (R121, R168). -/
def State.formEstimate (s : State) (l : Link) : State :=
  let e := s.entry l
  match freshEstimate e.window e.current e.settings.asymmetry e.trimGeneration with
  | some est =>
    let s1 := s.setEntry l { e with current := some est }
    State.settleFlags s1 (s1.evaluate l est e.trimTotal) l
  | none => s

/-- Steps 4 and 5 of R86 for an exchange record: delay check, admission, acceptance, trim test. -/
def State.offerRecord (s : State) (l : Link) (r : ExchangeRecord) : State :=
  if r.delta < 0 then s.linkError l
  else
    let e := s.entry l
    let a := offerToWindow e.window r e.settings.delayGate e.settings.maxDelay
    if a.admitted then ((s.acceptExchange l a.window).formEstimate l).trimTest l
    else s.setEntry l { e with window := a.window }

/-- The ECHO of an unknown generation with no trim in flight (R87). -/
def State.unknownGeneration (s : State) (l : Link) (g : Nat) : State :=
  let e := s.entry l
  let s1 := s.setEntry l
    { e with trimGeneration := g, current := none, predecessor := none, window := [] }
  let s2 := s1.enterAcquiring l
  let s3 := s2.raise .trimLost (.link l)
    { oldState := some e.state.code, newState := some RackState.acquiring.code, count := some g }
  s3.noticeAcquiring l e.state

/-- Step 3 of R86, the generation check (R87, R108, R110): the state after it and whether the record
goes on to step 4. -/
def State.checkGeneration (s : State) (l : Link) (g : Nat) : State × Bool :=
  let e := s.entry l
  if e.unsettled then (s.setEntry l { e with trimGeneration := g, unsettled := false }, true)
  else if g = e.trimGeneration then (s, true)
  else
    match e.trim with
    | some t => if g = t.generation then (s.completeTrim l t t.applyAt, true) else (s, false)
    | none => (s.unknownGeneration l g, true)

/-- The completed exchange of a matching ECHO (R86): era check, generation check, delay check,
admission; a probe that is due is handed afterwards. -/
def State.completeExchange (s : State) (l : Link) (p : ProbeInFlight) (d : ProbeDeparture)
    (x : Echo) (arrival : Nat) : State :=
  let s1 := s.setEntry l { s.entry l with probe := none, missed := 0 }
  let stamp := s1.tsu.convert arrival
  let s3 :=
    if d.era = stamp.era ∧ stamp.era = s1.rtmEra then
      let (s2, goesOn) := s1.checkGeneration l x.generation.toNat
      if goesOn then
        s2.offerRecord l (exchangeRecord p.number d.t1 x.t2.toNat x.t3.toNat stamp.hall)
      else s2
    else s1
  s3.probeIfDue l

/-- The probe in flight that an ECHO matches, with its departure (R85). -/
def RackEntry.matchEcho (e : RackEntry) (x : Echo) : Option (ProbeInFlight × ProbeDeparture) :=
  match e.probe with
  | some p =>
    match p.departure with
    | some d => if p.number = x.exchange.toNat then some (p, d) else none
    | none => none
  | none => none

/-- An ECHO delivered (R85): it completes the exchange it matches, or is a LATE ECHO link error. -/
def State.takeEcho (s : State) (l : Link) (x : Echo) (arrival : Nat) : State :=
  match (s.entry l).matchEcho x with
  | some (p, d) => s.completeExchange l p d x arrival
  | none => s.linkError l

/-- A TRIM-DONE delivered (R92). -/
def State.takeTrimDone (s : State) (l : Link) (g a : Nat) : State :=
  match (s.entry l).trim with
  | some t => if t.generation = g then s.completeTrim l t a else s
  | none => s

/-- The notice UP (R90): a probe whose due has passed is handed, and the trim test is made (R103). -/
def State.noticeUp (s : State) (l : Link) : State := (s.probeIfDue l).trimTest l

/-- Training completes (R57, R59): the link enters UP, an active LINK_DOWN clears, LINK_UP is posted
and the RTM is given the notice UP. -/
def State.linkRises (s : State) (l : Link) : State :=
  let s1 := s.setLink l
    { s.link l with state := .up, trainingDeadline := none, checkRun := 0 }
  let s2 := (s1.clearCond .linkDown (.link l)).raise .linkUp (.link l)
    { oldState := some LinkState.training.code, newState := some LinkState.up.code }
  s2.noticeUp l

/-! ## Hall steps (R112) -/

/-- The step owed after a step S (R112): a step of zero changes none; the sum with a step owed
saturates at ±2^62; where none was owed, S itself is owed. -/
def addStepOwed (owed : Option Int) (step : Int) : Option Int :=
  if step = 0 then owed
  else
    match owed with
    | some x => some (satSym 4611686018427387904 (x + step))
    | none => some step

/-- An entry rebased on a step S (R112). -/
def RackEntry.rebase (e : RackEntry) (step : Int) : RackEntry :=
  if e.state.inService then
    { e with
      current := e.current.map (fun x => { x with theta := x.theta - step })
      predecessor := e.predecessor.map (fun x => { x with theta := x.theta - step })
      window := []
      stepOwed := addStepOwed e.stepOwed step }
  else e

/-- The RTM takes a step notice (R112): the RTM era, the forty entries, then the trim tests, links in
increasing number (DESIGN CHOICE, log entry 51). -/
def State.rtmStep (s : State) (n : StepNotice) : State :=
  let s1 := s.setRtmEra n.era
  let s2 := forLinks (fun l st => st.setEntry l ((st.entry l).rebase n.step)) s1
  forLinks (fun l st => if st.inService l then st.trimTest l else st) s2

end Sys2Proof.Machine
end

