-- ==== Sys2Proof/Machine/Dating.lean ====
section
/-!
DEFINITION. Storage event dating (chapter 8) and the stamp journal (9.1 to 9.3): source windows, the
checks of a MARK, the choice of estimate, the stamp, its uncertainty and quality, the append and
READ STAMPS.
-/

namespace Sys2Proof.Machine

/-! ## Source windows (R129) -/

/-- A source identity matches a window (R129). -/
def SourceWindow.admits (w : SourceWindow) (src : Nat) : Bool :=
  w.enable && decide (w.base ≤ src) && decide (src ≤ w.limit)

/-- The class of the lowest-numbered matching window (R129). -/
def Sdu.classFor (d : Sdu) (src : Nat) : Option (Fin 4) :=
  (d.windows.toList.find? (fun w => w.admits src)).map (fun w => w.cls)

/-! ## The four checks (R132) -/

/-- The finding of the routing check (R68). -/
def State.isRouted (s : State) (l : Link) (m : Mark) : Bool :=
  decide ((s.link l).rangeFirst ≤ m.rackIdentity.toNat) &&
    decide (m.rackIdentity.toNat ≤ (s.link l).rangeLast)

/-- The journal is full at a fill of 2,048 (R145). -/
def Sdu.isFull (d : Sdu) : Bool := decide (2048 ≤ d.journal.length)

/-- What the four checks of R132 find: a refusal or the class of the MARK. -/
inductive MarkFinding where
  | refused (reason : VerdictResult)
  | accepted (cls : Fin 4)
  deriving DecidableEq, Repr

/-- The four checks of R132, in order. -/
def State.judgeMark (s : State) (l : Link) (m : Mark) (routed : Bool) : MarkFinding :=
  if s.mgp.mode = .setup ∨ s.inService l = false then .refused .notServed
  else if routed = false then .refused .misrouted
  else
    match s.sdu.classFor m.sourceIdentity.toNat with
    | none => .refused .unknownSource
    | some c => if s.sdu.isFull then .refused .journalFull else .accepted c

/-! ## Dating (R136 to R141) -/

/-- The estimate chosen by generation, or the reason none is (R136). -/
inductive Choice where
  | estimate (e : Estimate)
  | undated (reason : UndatedReason)
  deriving DecidableEq, Repr

/-- The current estimate if present, else NO_ESTIMATE. -/
def RackEntry.currentChoice (e : RackEntry) : Choice :=
  match e.current with
  | some x => .estimate x
  | none => .undated .noEstimate

/-- Whether a generation is that of the predecessor estimate. -/
def RackEntry.namesPredecessor (e : RackEntry) (g : Nat) : Option Estimate :=
  match e.predecessor with
  | some x => if x.generation = g then some x else none
  | none => none

/-- Whether a generation is that of the trim in flight. -/
def RackEntry.namesTrim (e : RackEntry) (g : Nat) : Option TrimInFlight :=
  match e.trim with
  | some t => if t.generation = g then some t else none
  | none => none

/-- The choice of estimate by generation (R136), with the implicit completion of R137. -/
def State.chooseEstimate (s : State) (l : Link) (g : Nat) : State × Choice :=
  let e := s.entry l
  if e.unsettled then (s, .undated .noEstimate)
  else if g = e.trimGeneration then (s, e.currentChoice)
  else
    match e.namesPredecessor g with
    | some x => (s, .estimate x)
    | none =>
      match e.namesTrim g with
      | some t =>
        let s1 := s.completeTrim l t t.applyAt
        (s1, (s1.entry l).currentChoice)
      | none => (s, .undated .stale)

/-- The extrapolation Δ of a capture time from an estimate (R139). -/
def Estimate.extrapolation (x : Estimate) (capture : Nat) : Int := (capture : Int) - (x.tau : Int)

/-- The stamp s, modulo 2^64 (R139). -/
def Estimate.stamp (x : Estimate) (capture : Nat) : Nat :=
  (((capture : Int) - x.theta - divTrunc (x.extrapolation capture * x.rho) 1000000000) %
    (two64 : Int)).toNat

/-- The uncertainty u (R140). -/
def Estimate.uncertainty (x : Estimate) (capture rateUncertainty uHall : Nat) : Nat :=
  let rateTerm :=
    (divUp (((x.extrapolation capture).natAbs * rateUncertainty : Nat) : Int) 1000000000).toNat
  satAdd unbounded (x.uRack + rateTerm) uHall

/-- Whether a dated MARK of uncertainty `u` is GOOD (R141). -/
def State.isGood (s : State) (l : Link) (c : Fin 4) (u : Nat) : Bool :=
  let e := s.entry l
  decide (e.state = .tracking) && !e.degrade && !e.isolate &&
    decide (s.rdu.tsState = .locked) && decide (u ≤ s.sdu.classes[c].qualityLimit)

/-- Dating by a chosen estimate (R138 to R141). -/
def State.dateBy (s : State) (l : Link) (c : Fin 4) (x : Estimate) (capture : Nat) : Dating :=
  match s.uHall with
  | none => .undated .noTime
  | some uh =>
    if 64000000000 < (x.extrapolation capture).natAbs then .undated .stale
    else
      let u := x.uncertainty capture (s.entry l).settings.rateUncertainty uh
      if s.isGood l c u then .good (x.stamp capture) u else .degraded (x.stamp capture) u

/-- The dating of an accepted MARK by what was chosen (R136, R138). -/
def State.dateChoice (s : State) (l : Link) (c : Fin 4) (ch : Choice) (capture : Nat) : Dating :=
  match ch with
  | .undated r => .undated r
  | .estimate x => s.dateBy l c x capture

/-! ## The journal (R142, R145, R146, R149 to R151) -/

/-- The sequence number after one (R146). -/
def nextSequenceAfter (n : Nat) : Nat := (n + 1) % 4294967296

/-- An entry appended takes the next sequence (R145, R146). -/
def Sdu.append (d : Sdu) (e : JournalEntry) : Sdu :=
  { d with journal := d.journal ++ [{ e with sequence := d.nextSequence }]
           nextSequence := nextSequenceAfter d.nextSequence }

/-- The conditions of an append (R131, R142). -/
def State.reportDating (s : State) (l : Link) (c : Fin 4) (era : Nat) (d : Dating) : State :=
  match d with
  | .good _ _ => s.clearCond .stampDegraded (.cls c)
  | .degraded _ u =>
    if s.sdu.classes[c].reportDegraded then
      s.raise .stampDegraded (.cls c)
        { uncertainty := some u, era := some era, count := some l.val }
    else s
  | .undated _ => s

/-- An accepted MARK: dated, journalled and answered (R135 to R142).  STAMP_DEGRADED is posted before
the VERDICT is handed, whose TRANSMIT OVERRUN may raise LINK_ERROR_RATE (DESIGN CHOICE, log entry
38). -/
def State.acceptMark (s : State) (l : Link) (m : Mark) (c : Fin 4) : State :=
  let chosen := s.chooseEstimate l m.generation.toNat
  let s1 := chosen.1
  let dating := s1.dateChoice l c chosen.2 m.captureTime.toNat
  let entry : JournalEntry :=
    { sequence := s1.sdu.nextSequence
      era := s1.rtmEra
      link := l
      rackIdentity := m.rackIdentity.toNat
      sourceIdentity := m.sourceIdentity.toNat
      eventKind := m.eventKind.toNat
      markNumber := m.markNumber.toNat
      generation := m.generation.toNat
      cls := c
      dating := dating
      captureTime := m.captureTime.toNat }
  let s2 := (s1.setSdu (s1.sdu.append entry)).reportDating l c s1.rtmEra dating
  s2.handFrame l (.verdict .accepted m.markNumber.toNat (some entry.sequence))

/-- A refusal for a full journal (R149). -/
def State.refuseFull (s : State) (l : Link) : State :=
  let n := if s.sdu.journalFull then satAdd 65535 s.sdu.fullRefusals 1 else 1
  (s.setSdu { s.sdu with journalFull := true, fullRefusals := n }).raise .journalFull .part
    { count := some n, era := some s.tsu.era, offset := some (l.val : Int) }

/-- A refused MARK: its VERDICT, and R149 for a full journal (R133, R134).  JOURNAL_FULL is posted before
the VERDICT is handed, whose TRANSMIT OVERRUN may raise LINK_ERROR_RATE (DESIGN CHOICE, log entry 38). -/
def State.refuseMark (s : State) (l : Link) (m : Mark) (reason : VerdictResult) : State :=
  let s1 := if reason = .journalFull then s.refuseFull l else s
  s1.handFrame l (.verdict reason m.markNumber.toNat none)

/-- A MARK delivered with its routing finding, taken by the SDU (R132). -/
def State.takeMark (s : State) (l : Link) (m : Mark) (routed : Bool) : State :=
  match s.judgeMark l m routed with
  | .refused reason => s.refuseMark l m reason
  | .accepted c => s.acceptMark l m c

/-- A MARK outside the rack range is a link error and posts MISROUTED_MARK (R68). -/
def State.routeMark (s : State) (l : Link) (m : Mark) : State :=
  if s.isRouted l m then s
  else (s.linkError l).raise .misroutedMark (.link l) {}

/-- READ STAMPS removes the oldest entries, up to a count (R151). -/
def Sdu.drain (d : Sdu) (n : Nat) : Sdu := { d with journal := d.journal.drop n }

/-- The clearing of the journal-full flag at a fill of 1,024 or fewer (R150). -/
def State.settleJournal (s : State) : State :=
  if s.sdu.journalFull && decide (s.sdu.journal.length ≤ 1024) then
    (s.setSdu { s.sdu with journalFull := false, fullRefusals := 0 }).clearCond .journalFull .part
  else s

end Sys2Proof.Machine
end

