-- ==== Sys2Proof/Machine/Epoch.lean ====
section
/-!
DEFINITION. The epoch pulse generator (chapter 3): boundaries, pulses, pending schedule, squelch,
realignment at steps and wraps.
-/

namespace Sys2Proof.Machine

/-- The level opposite an idle level (R43, R44). -/
def PinLevel.opposite : PinLevel → PinLevel
  | .low => .high
  | .high => .low

/-- The refusal rule of R42: a schedule that can be drawn. -/
def Schedule.drawable (c : Schedule) : Bool :=
  decide (c.period ≠ 0) && decide (c.period ≤ 1000) && decide (1000 % c.period = 0) &&
  decide (c.width ≠ 0) && decide (c.width < c.period * 1000) &&
  decide (c.phase < c.period * 1000) &&
  !(decide (c.epbMode = .complement) && decide (c.period * 1000 - c.width ≤ 2 * c.deadGap)) &&
  decide (c.deadGap ≤ 999999)

/-- The first boundary of a schedule at or after a hall time: B ≡ phase × 1,000 modulo
period × 1,000,000 (R43). -/
def Schedule.firstBoundary (c : Schedule) (h : Nat) : Nat :=
  let cycle := c.period * 1000000
  h + (c.phase * 1000 + (cycle - h % cycle)) % cycle

/-- The first whole second at or after a hall time. -/
def firstSecond (h : Nat) : Nat := h + (second - h % second) % second

/-- The timescale states that squelch: FREE, ACQUIRING, FAILED (R49). -/
def TsState.squelches : TsState → Bool
  | .free => true
  | .acquiring => true
  | .failed => true
  | .locked => false
  | .holdover => false

/-- Whether a schedule is squelched in a timescale state (R49). -/
def Schedule.squelchedIn (c : Schedule) (t : TsState) : Bool := c.squelch && t.squelches

/-- EPB driven at its level: a carried pulse of the schedule before holds it at the level opposite the
idle level held with it; otherwise it is active while an EPB pulse runs (R44, R48). -/
def Epg.driveEpb (g : Epg) : Epg :=
  { g with epb :=
      match g.epbCarried with
      | some x => x.idle.opposite
      | none => if g.epbPulse.isSome then g.schedule.epbIdle.opposite else g.schedule.epbIdle }

/-- Both outputs at their idle levels, any pulse ended, and no complement pulse to follow it
(R44, R46, R49, R50). -/
def Epg.silence (g : Epg) : Epg :=
  { g with epa := g.schedule.epaIdle, epb := g.schedule.epbIdle, epaPulse := none,
           epbPulse := none, epbCarried := none, complementDue := none }

/-- The next boundary and next second reckoned afresh from a hall time (R47, R50). -/
def Epg.reckon (g : Epg) (h : Nat) : Epg :=
  { g with nextBoundary := g.schedule.firstBoundary h, nextSecond := firstSecond h }

/-- A step, or a reading of another era taken as the step (R50). -/
def Epg.realign (g : Epg) (h era : Nat) : Epg := { g.silence.reckon h with alignEra := era }

/-- The EPG takes a change of timescale state (R49). -/
def Epg.timescaleChanged (g : Epg) (t : TsState) : Epg :=
  let sq := g.schedule.squelchedIn t
  if g.running && sq then { g.silence with squelched := sq } else { g with squelched := sq }

/-- An EPB pulse starts, to end at a hall time (R44). -/
def Epg.startEpb (g : Epg) (e : Nat) : Epg :=
  ({ g with epbPulse := some ⟨e, g.schedule.epbIdle⟩ }).driveEpb

/-- An EPA pulse starts at boundary `b`; in SAME, EPB goes with it (R43, R44). -/
def Epg.startEpa (g : Epg) (b : Nat) : Epg :=
  let e := b + g.schedule.width * 1000
  let g1 := { g with epaPulse := some e, epa := g.schedule.epaIdle.opposite }
  if g.schedule.epbMode = .same then g1.startEpb e else g1

/-- A pulse that has not ended at a hall time. -/
def EpbPulse.beyond (h : Nat) (x : EpbPulse) : Bool := decide (h < x.endHall)

/-- The EPB pulses whose end is at or before a hall time end (R44, R48). -/
def Epg.endEpbBy (g : Epg) (h : Nat) : Epg :=
  ({ g with epbPulse := g.epbPulse.filter (EpbPulse.beyond h),
            epbCarried := g.epbCarried.filter (EpbPulse.beyond h) }).driveEpb

/-- A boundary `b` of the schedule in force passes: an EPA pulse starts if the EPG is RUNNING and not
squelched, and the next boundary advances by one period (R43). -/
def Epg.passBoundary (g : Epg) (b : Nat) : Epg :=
  let g1 := if g.running && !g.squelched then g.startEpa b else g
  { g1 with nextBoundary := b + g.schedule.period * 1000000 }

/-- The pending schedule becomes the schedule in force at boundary `b` of the old one (R48).  An EPB
pulse of SECONDS still in progress is carried to the end it had, unless the new squelch setting
holds both outputs idle (log entry 9).  So is one begun at `b` itself, when its edge was taken before
the schedule was set pending (DESIGN CHOICE, log entry 42). -/
def Epg.applyPending (g : Epg) (c : Schedule) (b : Nat) (t : TsState) : Epg :=
  let sq := c.squelchedIn t
  let g1 : Epg :=
    ({ g with schedule := c, pendingSchedule := none, squelched := sq,
              epaPulse := none, complementDue := none, epa := c.epaIdle,
              epbCarried := g.epbCarried.orElse (fun _ => g.epbPulse), epbPulse := none,
              nextBoundary := c.firstBoundary b }).driveEpb
  let g2 := if sq then g1.silence else g1
  if g2.nextBoundary = b then g2.passBoundary b else g2

/-- The event of the next boundary once hall time has reached it (R43, R48).  An EPB pulse whose end
has been reached ends first, so that EPA and EPB are never active together in COMPLEMENT (R44). -/
def Epg.boundaryEvent (g : Epg) (t : TsState) : Epg :=
  let b := g.nextBoundary
  let g0 := g.endEpbBy b
  match g0.running, g0.pendingSchedule with
  | true, some c => g0.applyPending c b t
  | _, _ => g0.passBoundary b

/-- EPA returns to its idle level at the end of its pulse; in SAME, EPB ends with it; in COMPLEMENT
the pulse that follows is placed, `d` µs after it and to `d` µs before the next boundary (R43, R44). -/
def Epg.endEpa (g : Epg) (e : Nat) : Epg :=
  let c := g.schedule
  let g1 := { g with epaPulse := none, epa := c.epaIdle }
  let follow : ComplementDue :=
    ⟨e + c.deadGap * 1000, e - c.width * 1000 + c.period * 1000000 - c.deadGap * 1000⟩
  match c.epbMode with
  | .same => ({ g1 with epbPulse := none }).driveEpb
  | .complement => { g1 with complementDue := some follow }
  | .off => g1
  | .seconds => g1

/-- The complement pulse, when hall time has reached its start (R44). -/
def Epg.complementStart (g : Epg) (h : Nat) : Epg :=
  match g.complementDue with
  | some x =>
    if x.startHall ≤ h then
      let g1 := { g with complementDue := none }
      if g.running && !g.squelched && decide (g.schedule.epbMode = .complement)
      then g1.startEpb x.endHall else g1
    else g
  | none => g

/-- The next whole second, when hall time has reached it: the second after it becomes the next
second, and in SECONDS a pulse of the schedule's width starts (R43, R44). -/
def Epg.secondStart (g : Epg) (h : Nat) : Epg :=
  if g.nextSecond ≤ h then
    let t := g.nextSecond
    let g1 := { g with nextSecond := t + second }
    if g.running && !g.squelched && decide (g.schedule.epbMode = .seconds)
    then g1.startEpb (t + g.schedule.width * 1000) else g1
  else g

/-- Whether a reading is of another era than the alignment era (R50). -/
def Epg.misaligned (g : Epg) (r : Reading) : Bool := decide (r.era ≠ g.alignEra)

/-- Whether a reading shows a wrap: lower than the one before it in the same era (R50). -/
def Epg.wrapSeen (g : Epg) (r : Reading) : Bool :=
  decide (r.era = g.alignEra) && decide (r.era = g.lastReading.era) &&
    decide (r.hall < g.lastReading.hall)

/-- An edge event of the EPG at a reading of now: a reading of another era is taken as the step
itself and places no edge (R50). -/
def Epg.atReading (g : Epg) (r : Reading) (edge : Epg → Epg) : Epg :=
  if g.misaligned r then { g.realign r.hall r.era with lastReading := r } else edge g

/-- EPOCH_BOUNDARY. -/
def Epg.boundaryDue (g : Epg) (r : Reading) (t : TsState) : Epg :=
  g.atReading r (fun g => if g.nextBoundary ≤ r.hall then g.boundaryEvent t else g)

/-- EPA_PULSE_END. -/
def Epg.epaEndDue (g : Epg) (r : Reading) : Epg :=
  g.atReading r (fun g =>
    match g.epaPulse with
    | some e => if e ≤ r.hall then g.endEpa e else g
    | none => g)

/-- EPB_PULSE_START.  An EPB pulse due at the application instant of a pending schedule is judged
under the new schedule (R48): the application is made first when its boundary has been reached and
does not lie after the next second. -/
def Epg.epbStartDue (g : Epg) (r : Reading) (t : TsState) : Epg :=
  g.atReading r (fun g =>
    let g0 :=
      if g.running && g.pendingSchedule.isSome && decide (g.nextBoundary ≤ r.hall) &&
          decide (g.nextBoundary ≤ g.nextSecond)
      then g.boundaryEvent t else g
    (g0.complementStart r.hall).secondStart r.hall)

/-- EPB_PULSE_END. -/
def Epg.epbEndDue (g : Epg) (r : Reading) : Epg :=
  g.atReading r (fun g => g.endEpbBy r.hall)

/-- EPG_WRAP (R50): as for a step, with the alignment era unchanged. -/
def Epg.wrapDue (g : Epg) (r : Reading) : Epg :=
  if g.wrapSeen r then { g.silence.reckon r.hall with lastReading := r } else g

/-- EPG_STEP_NOTICE (R50): when a reading has already been taken as the step, the notice changes
nothing further. -/
def Epg.takeNotice (g : Epg) (n : StepNotice) (eraInForce : Nat) : Epg :=
  if g.alignEra = n.era ∨ g.alignEra = eraInForce then g else g.realign n.anchorH n.era

/-- SET EPOCH accepted (R47): pending while RUNNING, in force at once while STOPPED. -/
def Epg.accept (g : Epg) (c : Schedule) (r : Reading) (t : TsState) : Epg :=
  if g.running then { g with pendingSchedule := some c }
  else
    { ({ g with schedule := c }).silence.reckon r.hall with
      alignEra := r.era, squelched := c.squelchedIn t }

/-- START EPOCH (R45). -/
def Epg.start (g : Epg) : Epg := if g.running then g else { g with running := true }

/-- STOP EPOCH (R46). -/
def Epg.stop (g : Epg) : Epg :=
  if g.running then { g.silence with running := false, pendingSchedule := none } else g

end Sys2Proof.Machine
end

