-- ==== Sys2Proof/Machine/Ports.lean ====
section
/-!
DEFINITION. The management ports (chapter 11): reply queue and transmission, the dispatch of a
request frame, and the receiver's return to HUNTING.
-/

namespace Sys2Proof.Machine

/-- The kind byte of a reply: the request's kind with the top bit set (R178). -/
def replyKind (kind : Byte) : Byte := kind ||| 0x80#8

/-- When no reply is in transmission and the queue is not empty, the oldest reply begins; the reply
of the held request ends the hold as it begins (R176, R178). -/
def PortState.beginNext (x : PortState) : PortState :=
  match x.inTx with
  | some _ => x
  | none =>
    match x.queue with
    | [] => x
    | r :: rest =>
      { x with queue := rest, inTx := some r, held := if r.endsHold then none else x.held }

/-- A reply handed to a port: queued, or discarded with the dropped count when the queue holds 16
(R176, R178).  A discarded reply of the held request waits no turn, so the hold ends with it (DESIGN
CHOICE, log entry 46). -/
def PortState.handReply (x : PortState) (r : Reply) : PortState :=
  if 16 ≤ x.queue.length then
    { x with dropped := satAdd 255 x.dropped 1, held := if r.endsHold then none else x.held }
  else ({ x with queue := x.queue ++ [r] }).beginNext

def State.handReply (s : State) (p : Port) (r : Reply) : State :=
  s.setPort p ((s.port p).handReply r)

/-- The reply of a request: its result byte, then the body after the result (R178). -/
def mkReply (kind tag : Byte) (res : Result) (body : List Byte) (endsHold : Bool) : Reply :=
  ⟨replyKind kind, tag, res.code :: body, endsHold⟩

/-- The bytes of a reply frame as sent (12, "Management frame"): marker, length, kind, tag, body,
check. -/
def Reply.frame (r : Reply) : List Byte :=
  let content := BitVec.ofNat 8 (r.body.length + 2) :: r.kind :: r.tag :: r.body
  0xB5#8 :: content ++ beBytes 2 (managementCheck content).toNat

/-- What a taken request answers: a result with the body after it, or a deferred reply (`none`), as a
parked WAIT UNTIL gives (R176). -/
abbrev Answer := Option (Result × List Byte)

/-- The handler of a request kind: what the owning block does with a body taken on a port. -/
abbrev Handler := State → State × Answer

/-- A request frame becomes the held request and is taken; its reply, unless deferred, is handed to
the port (R176), after the replies of wait-outs that its effect completes (DESIGN CHOICE, log entry
41); where those leave it no room it is discarded and the hold ends (log entry 46). -/
def State.takeRequest (s : State) (p : Port) (kind tag : Byte) (h : Handler) : State :=
  let held := s.setPort p { s.port p with held := some (kind, tag) }
  let (s', answer) := h held
  match answer with
  | some (res, body) => s'.handReply p (mkReply kind tag res body true)
  | none => s'.setPort p { s'.port p with held := none }

/-- Dispatch of a request frame (R176): BUSY while a restart is pending or a request is held; dropped
when the reply queue is full; otherwise taken. -/
def State.dispatch (s : State) (p : Port) (kind tag : Byte) (h : Handler) : State :=
  if s.mgp.restartPending then s.handReply p (mkReply kind tag .busy [] false)
  else if (s.port p).held.isSome then s.handReply p (mkReply kind tag .busy [] false)
  else if 16 ≤ (s.port p).queue.length then
    s.setPort p { s.port p with dropped := satAdd 255 (s.port p).dropped 1 }
  else s.takeRequest p kind tag h

/-- The receiver of a port returns to HUNTING (R174, R175). -/
def State.hunt (s : State) (p : Port) : State :=
  s.setPort p { s.port p with receiver := .hunting }

/-- A complete frame whose check matches: the receiver returns to HUNTING and the request frame is
dispatched, in one event (R175). -/
def State.request (s : State) (p : Port) (kind tag : Byte) (h : Handler) : State :=
  (s.hunt p).dispatch p kind tag h

/-- The answer of a refusal with the result byte alone (R178). -/
def bare (s : State) (r : Result) : State × Answer := (s, some (r, []))

/-- Check 2 of R177: the body length of the kind; otherwise MALFORMED and nothing changes. -/
def withLength (n : Nat) (body : List Byte) (h : Handler) : Handler :=
  fun s => if body.length = n then h s else bare s .malformed

/-- Check 3 of R177 for one field: a value that names a member of a set. -/
def withField {α : Type} (v : Option α) (h : α → Handler) : Handler :=
  fun s =>
    match v with
    | some x => h x s
    | none => bare s .malformed

/-- A kind that is no request kind is answered UNKNOWN (check 1 of R177). -/
def unknownHandler : Handler := fun s => bare s .unknown

end Sys2Proof.Machine
end

