-- ==== Sys2Proof/Machine/WaitOuts.lean ====
section
/-!
DEFINITION. The wait-out list (9.4, 9.5): parking, release and early completion.
-/

namespace Sys2Proof.Machine

/-- The wait reply after the result (12): hall time, era, u_hall, timescale state. -/
def waitReply (hall era u : Nat) (t : TsState) : List Byte :=
  beBytes 8 hall ++ beBytes 2 era ++ beBytes 4 u ++ beBytes 1 t.code

/-- A wait-out is completed: its reply is handed to its port (R152, R154 to R157). -/
def State.completeWait (s : State) (w : WaitOut) (res : Result) (body : List Byte) : State :=
  s.handReply w.port (mkReply 0x43#8 w.tag res body false)

/-- The wait-outs of the list that meet a test are completed in list order and leave the list. -/
def State.completeWaits (s : State) (test : WaitOut → Bool) (res : Result) (body : List Byte) : State :=
  let kept := s.sdu.waitOuts.filter (fun w => !test w)
  (s.sdu.waitOuts.filter test).foldl (fun st w => st.completeWait w res body)
    (s.setSdu { s.sdu with waitOuts := kept })

/-- The release test of R154 at a reading, with the u_hall of that instant. -/
def releaseTest (r : Reading) (declares : Bool) (u : Option Nat) (target era : Nat) : Bool :=
  match u with
  | none => false
  | some u =>
    decide (r.era = era) && declares && decide (u < unbounded) &&
      decide ((target : Int) ≤ (r.hall : Int) - (u : Int))

/-- Whether a wait-out is released at a reading of now (R154). -/
def State.releases (s : State) (w : WaitOut) : Bool :=
  releaseTest s.readNow s.declaresTime s.uHall w.target w.era

/-- Whether a reading shows hall time wrapped: lower than the one before it in the same era (R155). -/
def Sdu.wrapSeen (d : Sdu) (r : Reading) : Bool :=
  decide (r.era = d.lastReading.era) && decide (r.hall < d.lastReading.hall)

/-- At a wrapped reading every wait-out is completed STEPPED (R155); the timescale state in the reply is
the present one (DESIGN CHOICE, log entry 39). -/
def State.waitWrap (s : State) : State :=
  let r := s.readNow
  if s.sdu.wrapSeen r then
    (s.setSdu { s.sdu with lastReading := r }).completeWaits (fun _ => true) .stepped
      (waitReply r.hall r.era 0 s.rdu.tsState)
  else s

/-- Every wait-out whose test holds at this reading is released, in list order (R154). -/
def State.releaseWaits (s : State) : State :=
  let r := s.readNow
  s.completeWaits s.releases .done (waitReply r.hall r.era (s.uHall.getD 0) s.rdu.tsState)

/-- The SDU takes a step notice (R155); the timescale state in the reply is the present one (DESIGN
CHOICE, log entry 39). -/
def State.stepWaits (s : State) (n : StepNotice) : State :=
  s.completeWaits (fun w => decide (w.era ≠ n.era)) .stepped
    (waitReply n.anchorH n.era 0 s.rdu.tsState)

/-- Entry to FREE or FAILED completes every wait-out UNTIMED (R156); the u_hall of the reply is 0
(DESIGN CHOICE, log entry 40). -/
def State.untimeWaits (s : State) (t : TsState) : State :=
  s.completeWaits (fun _ => true) .untimed (waitReply 0 s.tsu.era 0 t)

/-- Warm restart completes every wait-out ABORTED (R157); all fields of the reply are 0. -/
def State.abortWaits (s : State) : State :=
  s.completeWaits (fun _ => true) .aborted (waitReply 0 0 0 .free)

/-- The place of a new wait-out: by target, and among equal targets by arrival (R152). -/
def insertWait (w : WaitOut) : List WaitOut → List WaitOut
  | [] => [w]
  | x :: xs => if w.target < x.target then w :: x :: xs else x :: insertWait w xs

/-- The wait-outs of one port. -/
def Sdu.share (d : Sdu) (p : Port) : Nat :=
  (d.waitOuts.filter (fun w => decide (w.port = p))).length

/-- WAIT UNTIL (R153): the four checks in order, then release at once or parking. -/
def State.waitUntil (p : Port) (tag : Byte) (target era : Nat) (s0 : State) : State × Answer :=
  let s := s0.waitWrap
  let r := s.readNow
  let refuse (res : Result) : State × Answer :=
    (s, some (res, waitReply r.hall r.era (s.uHall.getD 0) s.rdu.tsState))
  if 16 ≤ s.sdu.waitOuts.length ∨ 8 ≤ s.sdu.share p then bare s .busy
  else if era ≠ r.era then refuse .stepped
  else if !s.declaresTime then refuse .untimed
  else if r.hall + 10000000000 < target then refuse .range
  else if releaseTest r s.declaresTime s.uHall target era then
    (s, some (.done, waitReply r.hall r.era (s.uHall.getD 0) s.rdu.tsState))
  else
    (s.setSdu { s.sdu with waitOuts := insertWait ⟨p, tag, target, era, s.osc⟩ s.sdu.waitOuts }, none)

end Sys2Proof.Machine
end

