-- ==== Sys2Proof/Machine/Discipline.lean ====
section
/-!
DEFINITION. Steps as a whole (1.5) and the reference discipline unit (chapter 2): marks and labels,
reference states, selection, the servo and the timescale state machine.
-/

namespace Sys2Proof.Machine

/-! ## Steps and rates -/

/-- A step S taken now (R9 to R12): the new segment, the era, the three notices and HALL_STEP; `none`
when R10 refuses it. -/
def State.stepHall (s : State) (step : Int) : Option State :=
  if s.tsu.stepInRange s.osc step then
    let s1 := s.setTsu (s.tsu.applyStep s.osc step)
    some (s1.raise .hallStep .part { step := some step, era := some s1.tsu.era })
  else none

/-- A write to the pending rate now (R6). -/
def State.writeRate (s : State) (v : Int) : State := s.setTsu (s.tsu.writeRate s.osc v)

/-! ## Timescale state (2.5) -/

/-- REF_OUTLIER of one reference clears (R33). -/
def State.clearOutlier (s : State) (r : RefId) : State := s.clearCond .refOutlier (.reference r)

/-- The other blocks take a change of timescale state: the EPG's squelch (R49) and, on entry to FREE
or FAILED, the UNTIMED completions (R156). -/
def State.announceTimescale (s : State) (t : TsState) : State :=
  let s1 := s.setEpg (s.epg.timescaleChanged t)
  match t with
  | .free => s1.untimeWaits t
  | .failed => s1.untimeWaits t
  | .acquiring => s1
  | .locked => s1
  | .holdover => s1

/-- A transition of the timescale state (R37): leaving LOCKED clears REF_OUTLIER of both references
(R33), TIMESCALE_STATE is posted, and the other blocks take the change. -/
def State.enterTimescale (s : State) (t : TsState) : State :=
  let old := s.rdu.tsState
  let s1 := s.setRdu { s.rdu with tsState := t }
  let s2 := if old = .locked then (s1.clearOutlier .a).clearOutlier .b else s1
  let s3 := s2.raise .timescaleState .part
    { oldState := some old.code, newState := some t.code, era := some s2.tsu.era }
  s3.announceTimescale t

/-- Lock and unlock counters at 0. -/
def State.zeroLock (s : State) : State :=
  s.setRdu { s.rdu with lockCount := 0, unlockCount := 0 }

/-- All three counters at 0 ("the counters", R34, R39). -/
def State.zeroCounters (s : State) : State :=
  s.setRdu { s.rdu with lockCount := 0, unlockCount := 0, clampCount := 0 }

/-- The event "a reference becomes selected" (R29, R35, R36). -/
def State.becomesSelected (s : State) : State :=
  match s.rdu.tsState with
  | .free => s.zeroLock.enterTimescale .acquiring
  | .holdover =>
    let s1 := s.zeroLock
    (s1.setRdu { s1.rdu with holdoverStart := none }).enterTimescale .acquiring
  | .acquiring => s
  | .locked => s
  | .failed => s

/-- The event "no qualified reference remains" (R34, R36): the lock and unlock counters become 0 from
LOCKED, and every counter from ACQUIRING. -/
def State.noneRemains (s : State) : State :=
  match s.rdu.tsState with
  | .locked =>
    let s1 := (s.writeRate s.rdu.integral).zeroLock
    (s1.setRdu { s1.rdu with holdoverStart := some s1.osc }).enterTimescale .holdover
  | .acquiring => s.zeroCounters.enterTimescale .free
  | .holdover => s
  | .free => s
  | .failed => s

/-! ## Selection (2.3) -/

/-- Whether a reference is QUALIFIED. -/
def State.isQualified (s : State) (r : RefId) : Bool := decide ((s.ref r).state = .qualified)

/-- The best reference (R25). -/
def State.bestRef (s : State) : Option RefId :=
  match s.isQualified .a, s.isQualified .b with
  | true, true => if s.rdu.refB.priority < s.rdu.refA.priority then some .b else some .a
  | true, false => some .a
  | false, true => some .b
  | false, false => none

/-- Selection re-judged (R25). -/
def State.rejudge (s : State) : State :=
  match s.rdu.selected with
  | none =>
    match s.bestRef with
    | some best => (s.setRdu { s.rdu with selected := some best, candidate := none }).becomesSelected
    | none => s
  | some x =>
    if s.isQualified x then
      match s.bestRef with
      | some best =>
        s.setRdu { s.rdu with candidate := if best = x then none else some best }
      | none => s
    else if s.isQualified (otherRef x) then
      s.setRdu { s.rdu with selected := some (otherRef x), candidate := none }
    else (s.setRdu { s.rdu with selected := none, candidate := none }).noneRemains

/-! ## Reference states (2.2) -/

/-- A reference leaves QUALIFIED for WAITING or OFF: runs 0, REF_OUTLIER clears, REF_LOST is posted
with the bad run at leaving (R24, R33, R38). -/
def State.loseRef (s : State) (r : RefId) (new : RefState) : State :=
  let x := s.ref r
  let s1 := s.setRef r { x with state := new, goodRun := 0, badRun := 0, outlierRun := 0 }
  (s1.clearOutlier r).raise .refLost (.reference r)
    { oldState := some RefState.qualified.code, newState := some new.code, count := some x.badRun }

/-- One bad mark of a QUALIFIED reference: bad run + 1, and loss at 3 (R24).  The good run is left at 4
until the reference leaves QUALIFIED (DESIGN CHOICE, log entry 52). -/
def State.badQualified (s : State) (r : RefId) : State :=
  let x := s.ref r
  let s1 := s.setRef r { x with badRun := x.badRun + 1 }
  if 3 ≤ x.badRun + 1 then (s1.loseRef r .waiting).rejudge else s1

/-- A BAD or missing mark by the state of the reference (R23, R24). -/
def State.badMark (s : State) (r : RefId) : State :=
  let x := s.ref r
  match x.state with
  | .off => s
  | .waiting => s
  | .qualifying => s.setRef r { x with state := .waiting, goodRun := 0 }
  | .qualified => s.badQualified r

/-- A good mark that is not rejected resets the bad run (R24).  The outlier run is left alone: R32 alone
sets it to 0 at a mark (DESIGN CHOICE, log entry 34). -/
def State.resetBadRun (s : State) (r : RefId) : State :=
  s.setRef r { s.ref r with badRun := 0 }

/-! ## Servo (R28) -/

/-- The outcome of a servo run: the state with the new integral term, pending rate and clamp counter. -/
def State.servoRun (s : State) (e : Int) : State :=
  let i := clampSym 100000000 (s.rdu.integral + e * s.rdu.settings.q)
  let out := clampSym 100000000 (i + e * s.rdu.settings.p)
  let clamp := if i = 100000000 ∨ i = -100000000 then s.rdu.clampCount + 1 else 0
  (s.setRdu { s.rdu with integral := i, clampCount := clamp }).writeRate out

/-- Entry to FAILED (R36): the holdover start is removed and OSCILLATOR_RANGE posted. -/
def State.enterFailed (s : State) : State :=
  let s1 := (s.setRdu { s.rdu with holdoverStart := none }).enterTimescale .failed
  s1.raise .oscillatorRange .part
    { drift := some (divTrunc s1.rdu.integral 1000), count := some 8 }

/-- Whether the clamp counter has reached 8 (R36). -/
def State.clampReached (s : State) : Bool := decide (8 ≤ s.rdu.clampCount)

/-- Entry to LOCKED at a lock counter of 8 (R30). -/
def State.lockIfReached (s : State) : State :=
  if 8 ≤ s.rdu.lockCount then s.zeroLock.enterTimescale .locked else s

/-- Entry to ACQUIRING at an unlock counter of 8 (R32). -/
def State.unlockIfReached (s : State) : State :=
  if 8 ≤ s.rdu.unlockCount then s.zeroLock.enterTimescale .acquiring else s

/-- The lock counter after a phase error (R30). -/
def State.countLock (s : State) (e : Int) : State :=
  s.setRdu { s.rdu with
    lockCount := if e.natAbs ≤ s.rdu.settings.lockWindow then s.rdu.lockCount + 1 else 0 }

/-- The unlock counter after a phase error (R32). -/
def State.countUnlock (s : State) (e : Int) : State :=
  s.setRdu { s.rdu with
    unlockCount := if e.natAbs ≤ s.rdu.settings.lockWindow then 0 else s.rdu.unlockCount + 1 }

/-- What the counters lead to in ACQUIRING (R30, R36). -/
def State.judgeAcquiring (s : State) : State :=
  if s.clampReached then s.enterFailed else s.lockIfReached

/-- What the counters lead to in LOCKED (R32, R36).  Where one servo run brings the unlock counter and
the clamp counter to 8, FAILED is entered straight from LOCKED and the unlock counter stays at 8
(DESIGN CHOICE, log entry 33: R28 settles it for the lock counter only). -/
def State.judgeLocked (s : State) : State :=
  if s.clampReached then s.enterFailed else s.unlockIfReached

/-- Bad run and outlier run at 0 (R24, R32). -/
def State.resetRuns (s : State) (r : RefId) : State :=
  s.setRef r { s.ref r with badRun := 0, outlierRun := 0 }

/-- A step refused by R10: the mark is rejected (R31). -/
def State.refuseStep (s : State) (r : RefId) : State :=
  (s.setRdu { s.rdu with lockCount := 0 }).badQualified r

/-- A mark beyond the outlier gate is rejected (R32, R33). -/
def State.rejectOutlier (s : State) (r : RefId) (e : Int) : State :=
  let run := satAdd 255 (s.ref r).outlierRun 1
  ((s.setRef r { s.ref r with outlierRun := run }).raise .refOutlier (.reference r)
    { offset := some e, count := some run }).badQualified r

/-- Whether a phase error is beyond the step threshold; a threshold of 0 never steps (R31, R39). -/
def Discipline.steps (d : Discipline) (e : Int) : Bool :=
  decide (d.stepThreshold ≠ 0) && decide (d.stepThreshold < e.natAbs)

/-- ACQUIRING acts on a phase error (R30, R31). -/
def State.actAcquiring (s : State) (r : RefId) (e : Int) : State :=
  if s.rdu.settings.steps e then
    match s.stepHall e with
    | some s1 => s1.zeroLock.resetBadRun r
    | none => s.refuseStep r
  else ((((s.servoRun e).clearOutlier r).resetBadRun r).countLock e).judgeAcquiring

/-- LOCKED acts on a phase error: the three bands of R32. -/
def State.actLocked (s : State) (r : RefId) (e : Int) : State :=
  if e.natAbs ≤ s.rdu.settings.outlierGate then
    ((((s.servoRun e).clearOutlier r).resetRuns r).countUnlock e).judgeLocked
  else s.rejectOutlier r e

/-- The timescale machine acts on a GOOD mark of the selected reference (R27, R29 to R32, R36). -/
def State.actOnMark (s : State) (r : RefId) (labelSecond captured : Nat) : State :=
  let h := s.tsu.convert captured
  if h.era ≠ s.tsu.era then s.resetBadRun r
  else
    let e : Int := (labelSecond : Int) * 1000000000 - (h.hall : Int)
    match s.rdu.tsState with
    | .acquiring => s.actAcquiring r e
    | .locked => s.actLocked r e
    | .free => s.resetBadRun r
    | .holdover => s.resetBadRun r
    | .failed => s.resetBadRun r

/-- The candidate takes over the selection at its next GOOD mark (R26); REF_OUTLIER of the reference
that ceases to be selected clears (R33). -/
def State.moveCandidate (s : State) (r : RefId) : State :=
  if s.rdu.candidate = some r then
    let s1 := s.setRdu { s.rdu with selected := some r, candidate := none }
    s1.clearOutlier (otherRef r)
  else s

/-- A GOOD mark by the state of the reference (R23, R24, R26). -/
def State.goodMark (s : State) (r : RefId) (labelSecond captured : Nat) : State :=
  let x := s.ref r
  match x.state with
  | .off => s
  | .waiting => s.setRef r { x with state := .qualifying, goodRun := 1 }
  | .qualifying =>
    if 4 ≤ x.goodRun + 1 then
      let s1 := s.setRef r { x with state := .qualified, goodRun := 4, badRun := 0 }
      (s1.raise .refQualified (.reference r)
        { newState := some RefState.qualified.code, count := some 4 }).rejudge
    else s.setRef r { x with goodRun := x.goodRun + 1 }
  | .qualified =>
    let s1 := s.moveCandidate r
    if s1.rdu.selected = some r then s1.actOnMark r labelSecond captured else s1.resetBadRun r

/-! ## Marks and labels (2.1) -/

/-- The class of a mark (R21); a GOOD mark passes its label second on. -/
inductive MarkClass where
  | opening
  | good (labelSecond : Nat)
  | bad
  deriving DecidableEq, Repr

/-- Classification of a mark arrival (R21). -/
def Reference.classify (x : Reference) (captured : Nat) : MarkClass :=
  match x.previousMark with
  | none => .opening
  | some prev =>
    match x.heldLabel with
    | none => .bad
    | some lab =>
      let interval : Int := (captured : Int) - (prev : Int)
      if lab.quality = 0 ∧ lab.labelSecond * second < two64 ∧
          999900000 ≤ interval ∧ interval ≤ 1000100000
      then .good lab.labelSecond else .bad

/-- A mark arrival taken whole (R19, R21). -/
def State.markArrival (s : State) (r : RefId) (captured : Nat) : State :=
  let x := s.ref r
  if x.state = .off then s
  else
    let s1 := s.setRef r
      { x with heldLabel := none, previousMark := some captured,
               missingDeadline := some (captured + 1500000000) }
    match x.classify captured with
    | .opening => s1
    | .good l => s1.goodMark r l captured
    | .bad => s1.badMark r

/-- Whether a missing mark is to be declared (R22). -/
def State.missingDue (s : State) (r : RefId) : Bool :=
  match (s.ref r).missingDeadline with
  | some d => decide ((s.ref r).state ≠ .off) && decide (d ≤ s.osc)
  | none => false

/-- A missing mark declared (R22): the deadline advances by one second and the mark counts as bad. -/
def State.missingMark (s : State) (r : RefId) : State :=
  if s.missingDue r then
    let x := s.ref r
    (s.setRef r { x with missingDeadline := x.missingDeadline.map (· + 1000000000) }).badMark r
  else s

/-- An arriving label becomes the held label of an enabled reference (R20). -/
def State.holdLabel (s : State) (r : RefId) (labelSecond quality : Nat) : State :=
  let x := s.ref r
  if x.state = .off then s
  else s.setRef r { x with heldLabel := some ⟨labelSecond, quality⟩ }

/-- The label receiver returns to HUNTING (R20). -/
def State.huntLabel (s : State) (r : RefId) : State :=
  s.setRef r { s.ref r with receiver := .hunting }

/-- A byte of a label line (R20): a marker in HUNTING starts a record; the tenth byte after the
marker completes it. -/
def State.labelByte (s : State) (r : RefId) (b : Byte) : State :=
  let x := s.ref r
  if x.state = .off then s
  else
    match x.receiver with
    | .hunting =>
      if b = 0xA7#8 then s.setRef r { x with receiver := .assembling [] s.osc } else s
    | .assembling bytes _ =>
      let bs := bytes ++ [b]
      if bs.length < 10 then s.setRef r { x with receiver := .assembling bs s.osc }
      else
        let s1 := s.huntLabel r
        if labelCheck (bs.take 9) = b then
          s1.holdLabel r (natOfBytes (bs.take 8)) (field bs 8 1)
        else s1

/-- Whether a receiver last fed at `last` has heard no byte for 10,000,000 ns (R20, R174). -/
def silentSince (last now : Nat) : Bool := decide (last + 10000000 ≤ now)

/-- A label record in assembly is abandoned (R20). -/
def State.abandonLabel (s : State) (r : RefId) (cause : AbandonCause) : State :=
  match (s.ref r).receiver, cause with
  | .assembling _ _, .stopBitLow => s.huntLabel r
  | .assembling _ last, .silence => if silentSince last s.osc then s.huntLabel r else s
  | .assembling _ _, .badLength => s
  | .hunting, _ => s

/-! ## Holdover limit (R35) -/

/-- Whether oscillator time has reached the holdover start plus the holdover limit. -/
def State.holdoverExpired (s : State) : Bool :=
  match s.rdu.tsState, s.rdu.holdoverStart with
  | .holdover, some start => decide (start + s.rdu.settings.holdoverLimit * second ≤ s.osc)
  | _, _ => false

/-- The holdover limit expires: the timescale enters FREE (R35). -/
def State.expireHoldover (s : State) : State :=
  if s.holdoverExpired then
    (s.setRdu { s.rdu with holdoverStart := none }).enterTimescale .free
  else s

/-! ## Enabling and disabling a reference (R23, R38) -/

/-- Enable on (R23, R38). -/
def State.enableRef (s : State) (r : RefId) : State :=
  let x := s.ref r
  if x.state = .off then
    s.setRef r { x with enable := true, state := .waiting, previousMark := none, heldLabel := none,
                        missingDeadline := none, goodRun := 0, badRun := 0, outlierRun := 0,
                        receiver := .hunting }
  else s.setRef r { x with enable := true }

/-- Enable off (R38). -/
def State.disableRef (s : State) (r : RefId) : State :=
  let x := s.ref r
  let strip (y : Reference) : Reference :=
    { y with enable := false, state := .off, previousMark := none, heldLabel := none,
             missingDeadline := none, goodRun := 0, badRun := 0, outlierRun := 0,
             receiver := .hunting }
  if x.state = .qualified then
    let s1 := s.loseRef r .off
    s1.setRef r (strip (s1.ref r))
  else s.setRef r (strip x)

/-- The discipline settings after clamping (R39): values below and above their ranges, then the
outlier gate raised to the lock window. -/
def Discipline.shape (d : Discipline) : Discipline :=
  let lock := clampRange 1 1000000 d.lockWindow
  let gate := clampRange 1 100000000 d.outlierGate
  { p := clampRange 0 100000 d.p
    q := clampRange 0 10000 d.q
    stepThreshold := clampRange 0 1000000000000 d.stepThreshold
    lockWindow := lock
    outlierGate := if gate < lock then lock else gate
    holdoverLimit := clampRange 60 86400 d.holdoverLimit }

end Sys2Proof.Machine
end

