-- ==== Sys2Proof/Machine/Layouts.lean ====
section
/-!
DEFINITION. The byte layouts of chapter 12: the bodies of replies, the records they carry, and the
payload of the span-link frames.
-/

namespace Sys2Proof.Machine

/-! ## Small pieces -/

/-- A one-byte number. -/
def byteOf (v : Nat) : List Byte := beBytes 1 v

/-- `n` zero bytes. -/
def zeros (n : Nat) : List Byte := List.replicate n 0#8

/-- A field that is absent is sent as 0 (R186). -/
def optBytes (n : Nat) (v : Option Nat) : List Byte := beBytes n (v.getD 0)

/-- A signed field that is absent is sent as 0 (R186). -/
def optInt (n : Nat) (v : Option Int) : List Byte := beInt n (v.getD 0)

/-- The number whose bit i is the i-th flag. -/
def packBits : List Bool → Nat
  | [] => 0
  | b :: rest => b.toNat + 2 * packBits rest

/-! ## Part summary, link summary, epoch status -/

/-- The number of entries in a state (R183). -/
def State.entriesIn (s : State) (x : RackState) : Nat :=
  (allLinks.filter (fun l => decide ((s.entry l).state = x))).length

/-- PART SUMMARY, 21 bytes (R183). -/
def State.partSummary (s : State) : List Byte :=
  byteOf s.mgp.mode.code ++ byteOf s.rdu.tsState.code ++ beBytes 2 s.tsu.era ++
  byteOf (s.entriesIn .idle) ++ byteOf (s.entriesIn .attaching) ++
  byteOf (s.entriesIn .acquiring) ++ byteOf (s.entriesIn .tracking) ++
  byteOf (s.entriesIn .coasting) ++ byteOf (s.entriesIn .lost) ++
  byteOf (s.entriesIn .quarantined) ++
  beBytes 2 s.sdu.journal.length ++ [flagByte s.sdu.journalFull] ++
  byteOf s.cru.list.length ++ [flagByte s.cru.reserved.isSome] ++
  byteOf s.sdu.waitOuts.length ++ byteOf (s.sdu.share .a) ++ byteOf (s.sdu.share .b) ++
  byteOf s.mgp.portA.dropped ++ byteOf s.mgp.portB.dropped

/-- LINK SUMMARY, 22 bytes. -/
def State.linkSummary (s : State) (l : Link) : List Byte :=
  let r := s.link l
  byteOf l.val ++ [flagByte r.enable] ++ byteOf r.state.code ++
  beBytes 2 r.rangeFirst ++ beBytes 2 r.rangeLast ++ byteOf r.errorTimes.length ++
  optBytes 8 r.errorTimes.getLast? ++ [flagByte r.errorFlag] ++ byteOf r.n ++ beBytes 2 r.w ++
  byteOf r.checkRun ++ byteOf r.txQueue.length

/-- The eight per-link settings, 27 bytes. -/
def LinkSettings.bytes (c : LinkSettings) : List Byte :=
  beBytes 2 c.pollInterval ++ beBytes 4 c.delayGate ++ beBytes 4 c.maxDelay ++
  beBytes 4 c.asymmetry ++ beBytes 4 c.rateUncertainty ++ byteOf c.trimInterval ++
  beBytes 4 c.phaseLimit ++ beBytes 4 c.rateTrimLimit

/-- A schedule, 18 bytes, as the SET EPOCH request. -/
def Schedule.bytes (c : Schedule) : List Byte :=
  beBytes 2 c.period ++ beBytes 4 c.width ++ beBytes 4 c.phase ++ byteOf c.epbMode.code ++
  beBytes 4 c.deadGap ++ byteOf c.epaIdle.code ++ byteOf c.epbIdle.code ++ [flagByte c.squelch]

/-- EPOCH STATUS, 21 bytes. -/
def State.epochStatus (s : State) : List Byte :=
  [flagByte s.epg.running] ++ s.epg.schedule.bytes ++ [flagByte s.epg.pendingSchedule.isSome] ++
  [flagByte s.epg.squelched]

/-! ## Time (R15, R39) -/

/-- u_hall as READ TIME shows it: present in LOCKED and HOLDOVER, below the unbounded value (R15). -/
def State.shownUHall (s : State) : Option Nat :=
  if s.declaresTime then s.uHall.filter (fun u => decide (u < unbounded)) else none

/-- READ TIME after the result: one snapshot at the instant of the request (R15). -/
def State.timeBody (s : State) : List Byte :=
  let t := s.tsu.settledBefore s.osc
  let r := s.readNow
  beBytes 8 s.osc ++ beBytes 8 r.hall ++ beBytes 2 r.era ++ byteOf s.rdu.tsState.code ++
  byteOf (packBits [s.shownUHall.isSome, t.pendingRate.isSome]) ++ optBytes 4 s.shownUHall ++
  beInt 4 t.inForce.rate ++ optInt 4 (t.pendingRate.map (fun p => p.rate))

/-- The 36 bytes of SET TIMESCALE as in force (R39). -/
def State.timescaleBody (s : State) : List Byte :=
  let d := s.rdu.settings
  beBytes 4 d.p ++ beBytes 4 d.q ++ beBytes 8 d.stepThreshold ++ beBytes 4 d.lockWindow ++
  beBytes 4 d.outlierGate ++ beBytes 4 s.tsu.uLock ++ beBytes 4 s.tsu.holdoverBound ++
  beBytes 4 d.holdoverLimit

/-- SET REFERENCE after the result (R38). -/
def State.referenceBody (s : State) (r : RefId) : List Byte :=
  [flagByte (s.ref r).enable] ++ byteOf (s.ref r).priority ++ byteOf (s.ref r).state.code ++
  byteOf (refSelCode s.rdu.selected)

/-! ## Rack records -/

/-- An estimate, 26 bytes; zero when absent. -/
def estimateBytes (e : Option Estimate) : List Byte :=
  match e with
  | some x =>
    beInt 8 x.theta ++ beInt 4 x.rho ++ beBytes 8 x.tau ++ beBytes 4 x.uRack ++
    byteOf x.generation ++ byteOf x.source.code
  | none => zeros 26

/-- The presence bits of a rack snapshot. -/
def RackEntry.presence (e : RackEntry) : Nat :=
  packBits
    [e.identity.isSome, e.claimed.isSome, e.current.isSome, e.predecessor.isSome, e.probe.isSome,
     e.probe.any (fun p => p.departure.isSome), e.trim.isSome, e.trim.any (fun t => t.stepFlag),
     e.stepOwed.isSome, e.lastAccepted.isSome, e.unsettled, e.degrade, e.isolate,
     e.quarantineReason.isSome]

/-- The probe in flight: exchange number and sent-at O. -/
def probeBytes (p : Option ProbeInFlight) : List Byte :=
  match p with
  | some x => beBytes 2 x.number ++ optBytes 8 (x.departure.map (fun d => d.sentAt))
  | none => zeros 10

/-- The trim in flight. -/
def trimBytes (t : Option TrimInFlight) : List Byte :=
  match t with
  | some x => byteOf x.generation ++ beInt 4 x.phase ++ beInt 4 x.rate ++ beBytes 8 x.applyAt
  | none => zeros 17

/-- RACK SNAPSHOT, 113 bytes (R94). -/
def State.rackSnapshot (s : State) (l : Link) : List Byte :=
  let e := s.entry l
  byteOf l.val ++ byteOf (s.link l).state.code ++ byteOf e.state.code ++
  beBytes 2 e.presence ++ optBytes 2 (e.identity.orElse (fun _ => e.claimed)) ++
  optBytes 1 (e.endpointKind.map EndpointKind.code) ++
  optBytes 1 (e.quarantineReason.map QReason.code) ++ byteOf e.window.length ++
  estimateBytes e.current ++ estimateBytes e.predecessor ++ byteOf e.trimGeneration ++
  probeBytes e.probe ++ trimBytes e.trim ++ optInt 8 e.stepOwed ++ byteOf e.sinceTrim ++
  byteOf e.missed ++ optBytes 8 e.lastAccepted ++ beInt 4 e.trimTotal ++
  byteOf (s.driftOf l).level.code

/-- An exchange record, 46 bytes. -/
def ExchangeRecord.bytes (r : ExchangeRecord) : List Byte :=
  beBytes 2 r.number ++ beBytes 8 r.t1 ++ beBytes 8 r.t2 ++ beBytes 8 r.t3 ++ beBytes 8 r.t4 ++
  beInt 8 r.theta ++ beInt 4 r.delta

/-- The place of a record in a window. -/
def placeOf (w : List ExchangeRecord) (r : ExchangeRecord) : Nat := w.findIdx (fun x => decide (x = r))

/-- The positions of the reference, older drift and newer drift records, each 255 when absent
(R114). -/
def windowPositions (w : List ExchangeRecord) : List Nat :=
  if w.length < 4 then [255, 255, 255]
  else
    let place (off : Nat) (part : List ExchangeRecord) : Nat :=
      match leastDelay part with
      | some r => off + placeOf part r
      | none => 255
    [place 0 w, place 0 (w.take (w.length / 2)), place (w.length / 2) (w.drop (w.length / 2))]

/-- WINDOW REPLY, 239 bytes, from a first position (R114). -/
def State.windowReply (s : State) (l : Link) (first : Nat) : List Byte :=
  let e := s.entry l
  let shown := (e.window.drop first).take 5
  byteOf l.val ++
  byteOf (e.state.code * 16 + e.unsettled.toNat * 8 + shown.length) ++
  byteOf e.trimGeneration ++ beBytes 2 s.rtmEra ++ byteOf e.window.length ++
  ((windowPositions e.window).map byteOf).flatten ++
  (shown.map ExchangeRecord.bytes).flatten ++ zeros (46 * (5 - shown.length))

/-! ## Drift records -/

/-- Limits, 26 bytes. -/
def Limits.bytes (x : Limits) : List Byte :=
  beBytes 4 x.offsetWatch ++ beBytes 4 x.offsetAlarm ++ beBytes 4 x.driftWatch ++
  beBytes 4 x.driftAlarm ++ beBytes 4 x.totalWatch ++ beBytes 4 x.totalAlarm ++
  byteOf x.k ++ byteOf x.m

/-- Pending limits with their presence flag. -/
def pendingLimitBytes (x : Option Limits) : List Byte :=
  match x with
  | some y => 1#8 :: y.bytes
  | none => zeros 27

/-- The last evaluation with its presence flag. -/
def evaluationBytes (x : Option Evaluation) : List Byte :=
  match x with
  | some v =>
    1#8 :: (beInt 8 v.theta ++ beInt 4 v.rho ++ beInt 4 v.trimTotal ++ byteOf v.generation ++
      byteOf v.evalLevel.code ++ byteOf v.clearLevel.code)
  | none => zeros 20

/-- DRIFT RECORD, 79 bytes (R125). -/
def State.driftBody (s : State) (l : Link) : List Byte :=
  let d := s.driftOf l
  byteOf l.val ++ byteOf d.level.code ++ byteOf d.raiseCount ++
  optBytes 1 (d.raiseMin.map DriftLevel.code) ++ byteOf d.fallCount ++ byteOf d.notified.code ++
  d.limits.bytes ++ pendingLimitBytes d.pendingLimits ++ evaluationBytes d.lastEval

/-! ## Dating records -/

/-- SET SOURCE WINDOW after the result, 7 bytes (R143). -/
def State.windowBody (s : State) (w : Fin 8) : List Byte :=
  let x := s.sdu.windows[w]
  byteOf w.val ++ [flagByte x.enable] ++ beBytes 2 x.base ++ beBytes 2 x.limit ++ byteOf x.cls.val

/-- SET CLASS after the result (R144). -/
def State.classBody (s : State) (c : Fin 4) : List Byte :=
  let x := s.sdu.classes[c]
  byteOf c.val ++ beBytes 4 x.qualityLimit ++ [flagByte x.reportDegraded]

/-- Quality code of a dating (Table 12-1). -/
def Dating.quality : Dating → Nat
  | .good _ _ => 0
  | .degraded _ _ => 1
  | .undated _ => 2

/-- Undated reason code, 0 for none (Table 12-1). -/
def Dating.reasonCode : Dating → Nat
  | .good _ _ => 0
  | .degraded _ _ => 0
  | .undated r => r.code

/-- Stamp, 0 when UNDATED. -/
def Dating.stampOr0 : Dating → Nat
  | .good st _ => st
  | .degraded st _ => st
  | .undated _ => 0

/-- Uncertainty, 0 when UNDATED. -/
def Dating.uncertaintyOr0 : Dating → Nat
  | .good _ u => u
  | .degraded _ u => u
  | .undated _ => 0

/-- STAMP ENTRY, 36 bytes. -/
def JournalEntry.bytes (e : JournalEntry) : List Byte :=
  beBytes 4 e.sequence ++ beBytes 2 e.era ++ byteOf e.link.val ++
  byteOf (e.cls.val * 64 + e.dating.quality * 16 + e.dating.reasonCode) ++
  beBytes 2 e.rackIdentity ++ beBytes 2 e.sourceIdentity ++ byteOf e.eventKind ++
  byteOf e.generation ++ beBytes 2 e.markNumber ++ beBytes 8 e.captureTime ++
  beBytes 8 e.dating.stampOr0 ++ beBytes 4 e.dating.uncertaintyOr0

/-- READ STAMPS after the result: count and fill, then six places, 218 bytes (R151). -/
def stampsBody (es : List JournalEntry) (fill : Nat) : List Byte :=
  beBytes 2 (es.length * 8192 + fill) ++ (es.map JournalEntry.bytes).flatten ++
  zeros (36 * (6 - es.length))

/-! ## Condition records -/

/-- Which ports a record is shown as pending for (12). -/
def PendFlags.shown : PendFlags → Bool × Bool
  | .broadcast forA forB => (forA, forB)
  | .floating owed => (owed, owed)

/-- Detail presence bits. -/
def Details.presence (d : Details) : Nat :=
  packBits
    [d.offset.isSome, d.drift.isSome, d.trimTotal.isSome, d.uncertainty.isSome, d.oldState.isSome,
     d.newState.isSome, d.step.isSome, d.era.isSome, d.count.isSome]

/-- CONDITION RECORD, 61 bytes, with the records still deliverable to the port (R164). -/
def conditionBody (r : Option CondRecord) (remaining : Nat) : List Byte :=
  match r with
  | none => zeros 60 ++ byteOf remaining
  | some x =>
    let d := x.details
    byteOf x.kind.code ++ byteOf x.scope.code ++
    byteOf (packBits [x.active, x.ancillary, x.pend.shown.1, x.pend.shown.2, x.taken]) ++
    byteOf x.repeats ++ beBytes 8 x.posted.hall ++ beBytes 2 x.posted.era ++
    beBytes 8 x.posted.osc ++ beBytes 2 d.presence ++ optInt 8 d.offset ++ optInt 4 d.drift ++
    optInt 4 d.trimTotal ++ optBytes 4 d.uncertainty ++ optBytes 1 d.oldState ++
    optBytes 1 d.newState ++ optInt 8 d.step ++ optBytes 2 d.era ++ optBytes 4 d.count ++
    byteOf remaining

/-- SET ACTION after the result: the two actions of each of the five groups (R171). -/
def State.actionsBody (s : State) : List Byte :=
  (s.cru.actions.toList.map (fun a => byteOf a.driftAlarm.code ++ byteOf a.linkErrorRate.code)).flatten

/-! ## Span-link frames -/

/-- The kind byte and fields of a frame the part sends; a PROBE takes its t1 as it leaves (R61). -/
def TxInFlight.fields (x : TxInFlight) : List Byte :=
  match x.frame with
  | .welcome id inst era gen =>
    byteOf 0x01 ++ beBytes 2 id ++ beBytes 4 inst ++ beBytes 2 era ++ byteOf gen
  | .probe n => byteOf 0x02 ++ beBytes 2 n ++ beBytes 8 x.stampHall
  | .trim gen phase rate applyAt stepFlag =>
    byteOf 0x03 ++ byteOf gen ++ beInt 4 phase ++ beInt 4 rate ++ beBytes 8 applyAt ++
    [flagByte stepFlag]
  | .verdict res n sq => byteOf 0x04 ++ byteOf res.code ++ beBytes 2 n ++ optBytes 4 sq
  | .dismiss q => byteOf 0x05 ++ byteOf q.code

/-- Padding with zero bytes to a whole number of 4-byte payload blocks (R186). -/
def padBlocks (bs : List Byte) : List Byte := bs ++ zeros ((4 - bs.length % 4) % 4)

/-- The payload bytes of a frame in transmission; its END block carries `spanCheck` of them (R186). -/
def TxInFlight.payload (x : TxInFlight) : List Byte := padBlocks x.fields

end Sys2Proof.Machine
end

