-- ==== Sys2Proof/Machine/Requests.lean ====
section
/-!
DEFINITION. What the owning block does with each request of 11.5 once it is taken: the checks of R177
in order, the effect, and the reply body.
-/

namespace Sys2Proof.Machine

/-! ## Shapes shared by the handlers -/

/-- An answer with a result and a body. -/
def answer (s : State) (r : Result) (body : List Byte) : State × Answer := (s, some (r, body))

/-- An answer given at the end of the event that began in `before`, its body read from the state
after the request. -/
def finish (before after : State) (r : Result) (body : State → List Byte) : State × Answer :=
  let s := State.endEvent before after
  answer s r (body s)

/-- DONE, or DONE_CLAMPED where a value was brought into range (R177). -/
def clampResult (clamped : Bool) : Result := if clamped then .doneClamped else .done

/-- The flag byte at an offset of a body. -/
def flagField (body : List Byte) (off : Nat) : Option Bool := flagOf (field body off 1)

/-! ## Part (R180 to R184) -/

/-- READ SUMMARY (R183). -/
def readSummaryH (body : List Byte) : Handler :=
  withLength 0 body fun s => answer s .done s.partSummary

/-- The held HELLO of an entry on an UP link judged at SERVE (R80). -/
def State.judgeHeld (l : Link) (s : State) : State :=
  if s.isUp l then
    match (s.entry l).heldHello with
    | some h => s.judgeHello l h
    | none => s
  else s

/-- The part enters SERVING (R80, R180). -/
def State.serve (s : State) : State :=
  match s.mgp.mode with
  | .setup => forLinks State.judgeHeld (s.setMgp { s.mgp with mode := .serving })
  | .serving => s

/-- SERVE. -/
def serveH (body : List Byte) : Handler :=
  withLength 0 body fun s => finish s s.serve .done State.partSummary

/-- The part returns to SETUP (R80, R181); the state notices of the entries clear the drift conditions
(R124; DEDUCED, log entry 37). -/
def State.halt (s : State) : State :=
  match s.mgp.mode with
  | .serving => forLinks (fun l st => st.goIdle l true) (s.setMgp { s.mgp with mode := .setup })
  | .setup => s

/-- HALT. -/
def haltH (body : List Byte) : Handler :=
  withLength 0 body fun s => finish s s.halt .done State.partSummary

/-- RESTART (R182). -/
def restartH (body : List Byte) : Handler :=
  withLength 0 body fun s => answer (s.setMgp { s.mgp with restartPending := true }) .done []

/-- Domain id and instance in force. -/
def State.domainBody (s : State) : List Byte :=
  beBytes 2 s.mgp.domainId ++ beBytes 4 s.mgp.domainInstance

/-- SET DOMAIN (R184). -/
def setDomainH (body : List Byte) : Handler :=
  withLength 6 body fun s =>
    match s.mgp.mode with
    | .serving => answer s .wrongMode s.domainBody
    | .setup =>
      let s1 := s.setMgp
        { s.mgp with domainId := field body 0 2, domainInstance := field body 2 4 }
      answer s1 .done s1.domainBody

/-! ## Hall time and references (R15 to R17, R38, R39) -/

/-- READ TIME (R15). -/
def readTimeH (body : List Byte) : Handler :=
  withLength 0 body fun s => answer s .done s.timeBody

/-- SET RATE (R16). -/
def setRateH (body : List Byte) : Handler :=
  withLength 4 body fun s =>
    if s.rdu.tsState = .free then
      let v := fieldInt body 0 4
      let written := clampSym 100000000 v
      answer (s.writeRate v) (clampResult (decide (written ≠ v))) (beInt 4 written)
    else answer s .wrongState (zeros 4)

/-- The new era and anchor of a step. -/
def State.stepBody (s : State) : List Byte :=
  beBytes 2 s.tsu.era ++ beBytes 8 s.tsu.inForce.anchorH

/-- STEP TIME (R17). -/
def stepTimeH (body : List Byte) : Handler :=
  withLength 8 body fun s =>
    if s.rdu.tsState = .free then
      match s.stepHall (fieldInt body 0 8) with
      | some s1 => finish s s1 .done State.stepBody
      | none => answer s .range (zeros 10)
    else answer s .wrongState (zeros 10)

/-- The discipline settings as a SET TIMESCALE carries them. -/
def disciplineOf (body : List Byte) : Discipline where
  p := field body 0 4
  q := field body 4 4
  stepThreshold := field body 8 8
  lockWindow := field body 16 4
  outlierGate := field body 20 4
  holdoverLimit := field body 32 4

/-- SET TIMESCALE (R39). -/
def setTimescaleH (body : List Byte) : Handler :=
  withLength 36 body fun s =>
    let d := disciplineOf body
    let uLock := clampRange 0 1000000 (field body 24 4)
    let bound := clampRange 1 100000 (field body 28 4)
    let clamped := decide (d.shape ≠ d) || decide (uLock ≠ field body 24 4) ||
      decide (bound ≠ field body 28 4)
    let s1 := (s.setRdu { s.rdu with settings := d.shape }).setTsu
      { s.tsu with uLock := uLock, holdoverBound := bound }
    finish s s1.expireHoldover (clampResult clamped) State.timescaleBody

/-- The effect of SET REFERENCE, in its order (R38). -/
def State.setReference (s : State) (r : RefId) (enable : Bool) (priority : Nat) : State :=
  let s1 := if enable then s.enableRef r else s.disableRef r
  (s1.setRef r { s1.ref r with priority := clampRange 0 1 priority }).rejudge

/-- SET REFERENCE (R38). -/
def setReferenceH (body : List Byte) : Handler :=
  withLength 3 body <| withField (refIdOf (field body 0 1)) fun r =>
    withField (flagField body 1) fun enable => fun s =>
      let priority := field body 2 1
      finish s (s.setReference r enable priority) (clampResult (decide (1 < priority)))
        (fun t => t.referenceBody r)

/-! ## Epoch outputs (R45 to R47) -/

/-- The schedule a SET EPOCH carries, when its enumerated fields name members (R42, R186). -/
def scheduleOf (body : List Byte) : Option Schedule :=
  match epbModeOf (field body 10 1), pinLevelOf (field body 15 1), pinLevelOf (field body 16 1),
    flagField body 17 with
  | some mode, some a, some b, some sq =>
    some { period := field body 0 2, width := field body 2 4, phase := field body 6 4,
           epbMode := mode, deadGap := field body 11 4, epaIdle := a, epbIdle := b, squelch := sq }
  | _, _, _, _ => none

/-- SET EPOCH (R42, R47). -/
def setEpochH (body : List Byte) : Handler :=
  withLength 18 body <| withField (scheduleOf body) fun c => fun s =>
    if c.drawable then
      let s1 := s.setEpg (s.epg.accept c s.readNow s.rdu.tsState)
      answer s1 .done s1.epochStatus
    else answer s .range s.epochStatus

/-- START EPOCH (R45). -/
def startEpochH (body : List Byte) : Handler :=
  withLength 0 body fun s =>
    let s1 := s.setEpg s.epg.start
    answer s1 .done s1.epochStatus

/-- STOP EPOCH (R46). -/
def stopEpochH (body : List Byte) : Handler :=
  withLength 0 body fun s =>
    let s1 := s.setEpg s.epg.stop
    answer s1 .done s1.epochStatus

/-! ## Span links (R70 to R72, R95) -/

/-- A set error-rate flag of a link that is disabled or reset is cleared (R70, R72). -/
def State.dropErrorRate (s : State) (l : Link) : State :=
  if (s.link l).errorFlag then s.clearErrorRate l else s

/-- The error-time list and the check-failure run of a link that is disabled or reset (R70, R72). -/
def State.emptyErrors (s : State) (l : Link) : State :=
  s.setLink l { s.link l with errorTimes := [], checkRun := 0 }

/-- Enable off (R70).  "Acts in this order" is read of the sentences too, so LINK_DOWN is raised and
cleared before LINK_ERROR_RATE is cleared (DEDUCED, log entry 50). -/
def State.disableLink (s : State) (l : Link) : State :=
  let r := s.link l
  if r.state = .disabled then s
  else
    let r' := { r.enterDisabled with enable := false }
    let s1 :=
      if r.state = .up then s.leaveUp l r' .disabled else (s.setLink l r').linkNotice l .disabled
    ((s1.clearCond .linkDown (.link l)).emptyErrors l).dropErrorRate l

/-- Enable on (R70). -/
def State.enableLink (s : State) (l : Link) : State :=
  let r := s.link l
  if r.state = .disabled then s.setLink l { r.enterDown s.osc with enable := true } else s

/-- RESET LINK of an enabled link (R72).  R72 gives no order, so LINK_ERROR_RATE is cleared before
LINK_DOWN is raised (R158). -/
def State.resetLink (s : State) (l : Link) : State :=
  let s1 := s.dropErrorRate l
  let r := s1.link l
  let r' := r.enterDown s1.osc
  let s2 :=
    if r.state = .up then s1.leaveUp l r' .reset else (s1.setLink l r').linkNotice l .reset
  s2.emptyErrors l

/-- The per-link settings as a SET LINK carries them. -/
def settingsOf (body : List Byte) : LinkSettings where
  pollInterval := field body 5 2
  delayGate := field body 7 4
  maxDelay := field body 11 4
  asymmetry := field body 15 4
  rateUncertainty := field body 19 4
  trimInterval := field body 23 1
  phaseLimit := field body 24 4
  rateTrimLimit := field body 28 4

/-- The per-link settings brought into range (R95). -/
def LinkSettings.shape (c : LinkSettings) : LinkSettings where
  pollInterval := clampRange 16 4096 c.pollInterval
  delayGate := clampRange 0 100000 c.delayGate
  maxDelay := clampRange 100 1000000 c.maxDelay
  asymmetry := clampRange 0 100000 c.asymmetry
  rateUncertainty := clampRange 0 100000 c.rateUncertainty
  trimInterval := clampRange 1 255 c.trimInterval
  phaseLimit := clampRange 0 1000000 c.phaseLimit
  rateTrimLimit := clampRange 0 200000 c.rateTrimLimit

/-- The settings written into an entry; one in service has its next probe due reckoned again from the
instant it was last reckoned from (R95). -/
def RackEntry.writeSettings (e : RackEntry) (c : LinkSettings) : RackEntry :=
  { e with
    settings := c
    nextProbeDue :=
      match e.state.inService, e.probeReckoned with
      | true, some o => some (o + c.pollInterval * 1000000)
      | _, _ => e.nextProbeDue }

/-- The effect of SET LINK: N and W, the enable, then the per-link settings with a probe that has
become due (R70, R95). -/
def State.setLinkRequest (s : State) (l : Link) (enable : Bool) (n w : Nat) (c : LinkSettings) :
    State :=
  let s1 := s.setErrorRate l n w
  let s2 := if enable then s1.enableLink l else s1.disableLink l
  (s2.setEntry l ((s2.entry l).writeSettings c)).probeIfDue l

/-- SET LINK (R70, R95). -/
def setLinkH (body : List Byte) : Handler :=
  withLength 32 body <| withField (linkOf (field body 0 1)) fun l =>
    withField (flagField body 1) fun enable => fun s =>
      let n := clampRange 2 16 (field body 2 1)
      let w := clampRange 1 600 (field body 3 2)
      let c := settingsOf body
      let clamped := decide (n ≠ field body 2 1) || decide (w ≠ field body 3 2) ||
        decide (c.shape ≠ c)
      finish s (s.setLinkRequest l enable n w c.shape) (clampResult clamped)
        (fun t => t.linkSummary l ++ (t.entry l).settings.bytes)

/-- Two ranges overlap when some identity lies in both (R69). -/
def rangesOverlap (a b c d : Nat) : Bool := decide (a ≤ d) && decide (c ≤ b)

/-- A range for a link overlaps that of another enabled link (R71). -/
def State.overlapsEnabled (s : State) (l : Link) (first last : Nat) : Bool :=
  allLinks.any (fun m =>
    decide (m ≠ l) && (s.link m).enable &&
      rangesOverlap first last (s.link m).rangeFirst (s.link m).rangeLast)

/-- SET LINK RANGE (R71). -/
def setLinkRangeH (body : List Byte) : Handler :=
  withLength 5 body <| withField (linkOf (field body 0 1)) fun l => fun s =>
    let first := field body 1 2
    let last := field body 3 2
    match s.mgp.mode with
    | .serving => answer s .wrongMode (s.linkSummary l)
    | .setup =>
      if last < first then answer s .range (s.linkSummary l)
      else if (s.link l).enable && s.overlapsEnabled l first last then
        answer s .overlap (s.linkSummary l)
      else
        let s1 := s.setLink l { s.link l with rangeFirst := first, rangeLast := last }
        answer s1 .done (s1.linkSummary l)

/-- RESET LINK (R72). -/
def resetLinkH (body : List Byte) : Handler :=
  withLength 1 body <| withField (linkOf (field body 0 1)) fun l => fun s =>
    if (s.link l).state = .disabled then answer s .wrongState (s.linkSummary l)
    else finish s (s.resetLink l) .done (fun t => t.linkSummary l)

/-! ## Racks (R93, R94, R114, R125) -/

/-- READ RACK (R94). -/
def readRackH (body : List Byte) : Handler :=
  withLength 1 body <| withField (linkOf (field body 0 1)) fun l => fun s =>
    answer s .done (s.rackSnapshot l)

/-- READ WINDOW (R114). -/
def readWindowH (body : List Byte) : Handler :=
  withLength 2 body <| withField (linkOf (field body 0 1)) fun l =>
    withField (windowOf (field body 1 1)) fun first => fun s =>
      answer s .done (s.windowReply l first.val)

/-- CLEAR QUARANTINE (R93). -/
def clearQuarantineH (body : List Byte) : Handler :=
  withLength 1 body <| withField (linkOf (field body 0 1)) fun l => fun s =>
    if (s.entry l).state = .quarantined then
      finish s (s.goIdle l false) .done (fun t => t.rackSnapshot l)
    else answer s .wrongState (s.rackSnapshot l)

/-- The link selector of SET DRIFT LIMITS: one link, or `none` for ALL. -/
def driftSelectorOf (v : Nat) : Option (Option Link) :=
  if v = 255 then some none else (linkOf v).map some

/-- The limits a SET DRIFT LIMITS carries. -/
def limitsOf (body : List Byte) : Limits where
  offsetWatch := field body 2 4
  offsetAlarm := field body 6 4
  driftWatch := field body 10 4
  driftAlarm := field body 14 4
  totalWatch := field body 18 4
  totalAlarm := field body 22 4
  k := field body 26 1
  m := field body 27 1

/-- The number of links at which written limits would be held pending (R125, R126). -/
def State.heldPending (s : State) : Nat :=
  (allLinks.filter (fun l => decide ((s.driftOf l).notified = .tracking))).length

/-- SET DRIFT LIMITS (R125, R126). -/
def setDriftLimitsH (body : List Byte) : Handler :=
  withLength 28 body <| withField (driftSelectorOf (field body 0 1)) fun sel =>
    withField (flagField body 1) fun write => fun s =>
      let x := limitsOf body
      match sel, write with
      | some l, false => answer s .done (s.driftBody l)
      | none, false => bare s .malformed
      | some l, true =>
        let s1 := s.setDrift l ((s.driftOf l).writeLimits x.shape)
        answer s1 (clampResult (decide (x.shape ≠ x))) (s1.driftBody l)
      | none, true =>
        let s1 := forLinks (fun l st => st.setDrift l ((st.driftOf l).writeLimits x.shape)) s
        answer s1 (clampResult (decide (x.shape ≠ x)))
          (x.shape.bytes ++ byteOf (40 - s.heldPending) ++ byteOf s.heldPending)

/-! ## Dating, journal and wait-outs (R143, R144, R151, R153) -/

/-- A base as stored, and a limit as stored (R128). -/
def storedBase (b : Nat) : Nat := b / 64 * 64

def storedLimit (b : Nat) : Nat := b / 64 * 64 + 63

/-- SET SOURCE WINDOW (R128, R143). -/
def setSourceWindowH (body : List Byte) : Handler :=
  withLength 7 body <| withField (windowOf (field body 0 1)) fun w =>
    withField (flagField body 1) fun enable => withField (classOf (field body 6 1)) fun c => fun s =>
      let b := storedBase (field body 2 2)
      let t := storedLimit (field body 4 2)
      match s.mgp.mode with
      | .serving => answer s .wrongMode (s.windowBody w)
      | .setup =>
        if t < b then answer s .range (s.windowBody w)
        else
          let s1 := s.setSdu { s.sdu with windows := s.sdu.windows.set w ⟨enable, b, t, c⟩ }
          answer s1 .done (s1.windowBody w)

/-- A class's settings replaced; report-degraded off clears STAMP_DEGRADED of the class (R144). -/
def State.writeClass (s : State) (c : Fin 4) (x : StampClass) : State :=
  let s1 := s.setSdu { s.sdu with classes := s.sdu.classes.set c x }
  if x.reportDegraded then s1 else s1.clearCond .stampDegraded (.cls c)

/-- SET CLASS (R144). -/
def setClassH (body : List Byte) : Handler :=
  withLength 7 body <| withField (classOf (field body 0 1)) fun c =>
    withField (flagField body 1) fun write => withField (flagField body 6) fun report => fun s =>
      if write then
        finish s (s.writeClass c ⟨field body 2 4, report⟩) .done (fun t => t.classBody c)
      else answer s .done (s.classBody c)

/-- READ STAMPS (R150, R151). -/
def readStampsH (body : List Byte) : Handler :=
  withLength 1 body fun s =>
    let asked := field body 0 1
    let n := clampRange 1 6 asked
    let taken := s.sdu.journal.take n
    let s1 := (s.setSdu (s.sdu.drain n)).settleJournal
    finish s s1 (clampResult (decide (n ≠ asked)))
      (fun t => stampsBody taken t.sdu.journal.length)

/-- WAIT UNTIL (R153). -/
def waitUntilH (p : Port) (tag : Byte) (body : List Byte) : Handler :=
  withLength 10 body (State.waitUntil p tag (field body 0 8) (field body 8 2))

/-! ## Conditions (R164, R169 to R172) -/

/-- TAKE CONDITION (R164). -/
def takeConditionH (p : Port) (body : List Byte) : Handler :=
  withLength 0 body fun s =>
    let x := s.cru.take p s.osc
    finish s (s.setCru x.2) .done (fun t => conditionBody x.1 (t.cru.deliverableCount p))

/-- A class mask: bit 7 names no class (R170, R186). -/
def classMaskOf (v : Nat) : Option (BitVec 7) := if v < 128 then some (BitVec.ofNat 7 v) else none

/-- The pending flag of a repressible broadcast record whose class is off for a port is cleared
(R170). -/
def Cru.dropPending (c : Cru) (p : Port) (r : CondRecord) : CondRecord :=
  if c.wants p r.kind then r
  else
    match r.pend, p with
    | .broadcast _ forB, .a => { r with pend := .broadcast false forB }
    | .broadcast forA _, .b => { r with pend := .broadcast forA false }
    | .floating _, _ => r

/-- A class mask replaced, and what turning classes off does to the records (R170). -/
def Cru.setMask (c : Cru) (p : Port) (mask : BitVec 7) : Cru :=
  let c1 := match p with
    | .a => { c with maskA := mask }
    | .b => { c with maskB := mask }
  { c1 with list := (c1.list.map (c1.dropPending p)).filter c1.needed
            reserved := (c1.reserved.map (c1.dropPending p)).filter c1.needed }

/-- SET REPORTING (R170). -/
def setReportingH (body : List Byte) : Handler :=
  withLength 2 body <| withField (portOf (field body 0 1)) fun p =>
    withField (classMaskOf (field body 1 1)) fun mask => fun s =>
      finish s (s.setCru (s.cru.setMask p mask)) .done
        (fun t => byteOf (t.cru.mask p).toNat ++ byteOf (t.cru.deliverableCount p))

/-- The scopes under which a kind is active. -/
def Cru.activeScopes (c : Cru) (k : CondKind) : List Scope :=
  (c.active.filter (fun x => decide (x.1 = k))).map (fun x => x.2)

/-- A recording switch stored; off clears every active pair of the kind (R169). -/
def Cru.setRecording (c : Cru) (k : CondKind) (on : Bool) : Cru :=
  if on then { c with recordingOff := c.recordingOff.filter (fun x => decide (x ≠ k)) }
  else
    let c1 := (c.activeScopes k).foldl (fun d sc => d.clear k sc) c
    if c1.recordingOff.contains k then c1 else { c1 with recordingOff := c1.recordingOff ++ [k] }

/-- SET RECORDING (R169). -/
def setRecordingH (body : List Byte) : Handler :=
  withLength 2 body <| withField (CondKind.ofCode (field body 0 1)) fun k =>
    withField (flagField body 1) fun on => fun s =>
      if k.isExigent then answer s (clampResult (!on)) (byteOf k.code ++ [1#8])
      else
        finish s (s.setCru (s.cru.setRecording k on)) .done
          (fun _ => byteOf k.code ++ [flagByte on])

/-- The group selector of SET ACTION: one group, or `none` for ALL. -/
def groupSelectorOf (v : Nat) : Option (Option (Fin 5)) :=
  if v = 255 then some none else (groupOf v).map some

/-- The kind SET ACTION names: true for DRIFT_ALARM, false for LINK_ERROR_RATE (R171). -/
def actionKindOf (v : Nat) : Option Bool :=
  if v = 19 then some true else if v = 9 then some false else none

/-- One action of a group replaced. -/
def GroupActions.write (g : GroupActions) (drift : Bool) (a : Action) : GroupActions :=
  if drift then { g with driftAlarm := a } else { g with linkErrorRate := a }

/-- The action stored for one group or for all five (R171). -/
def Cru.setAction (c : Cru) (sel : Option (Fin 5)) (drift : Bool) (a : Action) : Cru :=
  match sel with
  | some g => { c with actions := c.actions.set g (c.actions[g].write drift a) }
  | none => { c with actions := c.actions.map (fun x => x.write drift a) }

/-- SET ACTION (R171). -/
def setActionH (body : List Byte) : Handler :=
  withLength 3 body <| withField (groupSelectorOf (field body 0 1)) fun sel =>
    withField (actionKindOf (field body 1 1)) fun drift =>
      withField (actionOf (field body 2 1)) fun a => fun s =>
        finish s (s.setCru (s.cru.setAction sel drift a)) .done State.actionsBody

/-- The repost due of a record under a new interval (R172). -/
def CondRecord.redue (interval : Nat) (r : CondRecord) : CondRecord :=
  if interval = 0 then { r with repostDue := none }
  else if r.active && r.taken then
    { r with repostDue := r.lastTake.map (fun o => o + interval * second) }
  else r

/-- A new repost interval, with the reposts it makes due, in list order (R166, R172). -/
def Cru.setRepost (c : Cru) (interval now : Nat) : Cru :=
  let c1 := { c with repostInterval := interval }
  let l := c.list.map (CondRecord.redue interval)
  let kept := l.filter (fun r => !r.repostReached now)
  let due := l.filter (fun r => r.repostReached now)
  let slot := (c.reserved.map (CondRecord.redue interval)).map
    (fun r => if r.repostReached now then c1.reposted r else r)
  { c1 with list := kept ++ due.map c1.reposted, reserved := slot }

/-- SET REPOST (R172). -/
def setRepostH (body : List Byte) : Handler :=
  withLength 2 body fun s =>
    let asked := field body 0 2
    let interval := clampRange 0 3600 asked
    finish s (s.setCru (s.cru.setRepost interval s.osc)) (clampResult (decide (interval ≠ asked)))
      (fun _ => beBytes 2 interval)

/-! ## The request list (11.5) -/

/-- The handler of a kind byte; a kind that is no request kind is answered UNKNOWN (R177). -/
def handlerOf (p : Port) (kind tag : Byte) (body : List Byte) : Handler :=
  match kind.toNat with
  | 0x01 => readSummaryH body
  | 0x02 => serveH body
  | 0x03 => haltH body
  | 0x04 => restartH body
  | 0x10 => readTimeH body
  | 0x11 => setRateH body
  | 0x12 => stepTimeH body
  | 0x13 => setTimescaleH body
  | 0x14 => setReferenceH body
  | 0x20 => setEpochH body
  | 0x21 => startEpochH body
  | 0x22 => stopEpochH body
  | 0x30 => setDomainH body
  | 0x31 => setLinkH body
  | 0x32 => setLinkRangeH body
  | 0x33 => resetLinkH body
  | 0x34 => readRackH body
  | 0x35 => readWindowH body
  | 0x36 => clearQuarantineH body
  | 0x37 => setDriftLimitsH body
  | 0x40 => setSourceWindowH body
  | 0x41 => setClassH body
  | 0x42 => readStampsH body
  | 0x43 => waitUntilH p tag body
  | 0x50 => takeConditionH p body
  | 0x51 => setReportingH body
  | 0x52 => setRecordingH body
  | 0x53 => setActionH body
  | 0x54 => setRepostH body
  | _ => unknownHandler

end Sys2Proof.Machine
end

