-- ==== Sys2Proof/Machine/Resets.lean ====
section
/-!
DEFINITION. The two resets, the management receivers and the ends of replies: COLD_RESET,
WARM_RESTART, REQUEST_FRAME_CHECK_FAIL, MANAGEMENT_FRAME_ABANDONED, UNKNOWN_REQUEST,
REPLY_TRANSMISSION_END and MANAGEMENT_PORT_BYTE.
-/

namespace Sys2Proof.Machine

/-! ## Cold reset (R40, R51, R73, R96, R115, R127, R157, R173, R185) -/

/-- The line rate of the strap levels BAUD1 and BAUD0, in bit/s; true is high (00_scope, R174). -/
def strapRate (baud1 baud0 : Bool) : Nat :=
  match baud1, baud0 with
  | false, false => 115200
  | false, true => 921600
  | true, _ => 3000000

/-- Every block at its cold values, with the straps sampled; the waiting commands and the model's
counter of choices are no part of the part and stand. -/
def State.coldReset (s : State) (baud1 baud0 : Bool) : State :=
  { State.reset with
    mgp := { Mgp.cold with lineRate := strapRate baud1 baud0 }
    choices := s.choices
    pending := s.pending }

/-! ## Warm restart (R182) -/

/-- The port on which the RESTART reply is in transmission while a restart is pending. -/
def PortState.sendsRestart (x : PortState) : Bool :=
  match x.inTx with
  | some r => decide (r.kind = replyKind 0x04#8) && decide (r.body = [Result.done.code])
  | none => false

def State.restartPort (s : State) : Option Port :=
  if s.mgp.restartPending then
    if s.mgp.portA.sendsRestart then some .a
    else if s.mgp.portB.sendsRestart then some .b else none
  else none

/-- A port at warm restart; a reply in transmission on the other port is completed (R182). -/
def PortState.warm (x : PortState) (keepTx : Bool) : PortState where
  receiver := .hunting
  held := none
  queue := []
  inTx := if keepTx then x.inTx else none
  dropped := 0

/-- The management ports at warm restart (R182). -/
def Mgp.warm (m : Mgp) (p : Port) : Mgp :=
  { m with
    mode := .setup
    restartPending := false
    portA := m.portA.warm (decide (p ≠ .a))
    portB := m.portB.warm (decide (p ≠ .b)) }

/-- A reference at warm restart (R20, R41). -/
def Reference.warm (x : Reference) : Reference :=
  if x.state = .off then x
  else
    { x with state := .waiting, previousMark := none, heldLabel := none, missingDeadline := none,
             goodRun := 0, badRun := 0, outlierRun := 0, receiver := .hunting }

/-- The timescale state after a warm restart (R41). -/
def TsState.warm : TsState → TsState
  | .locked => .holdover
  | .holdover => .holdover
  | .acquiring => .free
  | .free => .free
  | .failed => .free

/-- The holdover start after a warm restart (R41). -/
def Rdu.warmStart (r : Rdu) (now : Nat) : Option Nat :=
  match r.tsState with
  | .locked => some now
  | .holdover => r.holdoverStart
  | .acquiring => none
  | .free => none
  | .failed => none

/-- The RDU at warm restart (R41). -/
def Rdu.warm (r : Rdu) (now : Nat) : Rdu :=
  { r with
    refA := r.refA.warm
    refB := r.refB.warm
    selected := none
    candidate := none
    lockCount := 0
    unlockCount := 0
    clampCount := 0
    tsState := r.tsState.warm
    holdoverStart := r.warmStart now }

/-- A link record at warm restart (R73). -/
def LinkRecord.warm (r : LinkRecord) (now : Nat) : LinkRecord :=
  let r1 : LinkRecord :=
    { r with errorTimes := [], errorFlag := false, clearInstant := none, checkRun := 0,
             readySent := false, readyReceived := false, trainRun := 0, txQueue := [],
             inTx := none }
  if r.enable then r1.enterDown now else r1.enterDisabled

/-- A rack entry at warm restart (R96). -/
def RackEntry.warm (e : RackEntry) : RackEntry :=
  { e.toIdle false with degrade := false, isolate := false }

/-- A drift record at warm restart (R127). -/
def DriftRecord.warm (d : DriftRecord) : DriftRecord := { d.reset with notified := .idle }

/-- The CRU emptied at warm restart (R173). -/
def Cru.warm (c : Cru) : Cru :=
  { c with list := [], reserved := none, active := [],
           lastLinkDown := Vector.replicate 40 none, listFullRefusals := 0 }

/-- The journal at warm restart (R157). -/
def Sdu.warm (d : Sdu) : Sdu :=
  { d with journal := [], nextSequence := 0, journalFull := false, fullRefusals := 0 }

/-- Every block but the wait-outs and the RESTARTED posting. -/
def State.warmBlocks (s : State) (p : Port) : State :=
  { s with
    mgp := s.mgp.warm p
    rdu := s.rdu.warm s.osc
    epg := s.epg.timescaleChanged s.rdu.tsState.warm
    links := s.links.map (fun r => r.warm s.osc)
    entries := s.entries.map RackEntry.warm
    drift := s.drift.map DriftRecord.warm
    cru := s.cru.warm
    sdu := s.sdu.warm }

/-- The warm restart, as the RESTART reply of a port ends: the blocks, the ABORTED completions and
RESTARTED (R157, R173, R182). -/
def State.warmRestart (s : State) (p : Port) : State :=
  let s1 := (s.warmBlocks p).abortWaits
  (s1.raise .restarted .part { era := some s1.tsu.era }).settleCru

/-! ## The management receiver (R174, R175) -/

/-- The number of bytes after the marker of a complete frame with a length byte. -/
def frameBytes (length : Byte) : Nat := 1 + length.toNat + 2

/-- A complete frame: discarded when its check does not match, otherwise dispatched (R175). -/
def State.frameComplete (s : State) (p : Port) (bytes : List Byte) : State :=
  let content := bytes.take (bytes.length - 2)
  if natOfBytes (bytes.drop (bytes.length - 2)) = (managementCheck content).toNat then
    let kind := BitVec.ofNat 8 (field content 1 1)
    let tag := BitVec.ofNat 8 (field content 2 1)
    let body := content.drop 3
    s.request p kind tag (handlerOf p kind tag body)
  else s.hunt p

/-- A byte in ASSEMBLING (R174). -/
def State.assemble (s : State) (p : Port) (bytes : List Byte) : State :=
  match bytes with
  | [] => s
  | length :: _ =>
    if length.toNat < 2 ∨ 242 < length.toNat then s.hunt p
    else if bytes.length < frameBytes length then
      s.setPort p { s.port p with receiver := .assembling bytes s.osc }
    else s.frameComplete p bytes

/-- A byte taken on a port's receive line (R174). -/
def State.portByte (s : State) (p : Port) (b : Byte) : State :=
  match (s.port p).receiver with
  | .hunting =>
    if b = 0xB5#8 then s.setPort p { s.port p with receiver := .assembling [] s.osc } else s
  | .assembling bytes _ => s.assemble p (bytes ++ [b])

/-- A frame in assembly abandoned (R174). -/
def State.abandonFrame (s : State) (p : Port) (cause : AbandonCause) : State :=
  match (s.port p).receiver, cause with
  | .assembling _ _, .stopBitLow => s.hunt p
  | .assembling _ last, .silence => if silentSince last s.osc then s.hunt p else s
  | .assembling [] _, .badLength => s.hunt p
  | .assembling (_ :: _) _, .badLength => s
  | .hunting, _ => s

/-- The last byte of the reply in transmission has been sent (R178, R182). -/
def State.replyEnds (s : State) (p : Port) : State :=
  match (s.port p).inTx with
  | none => s
  | some _ =>
    if s.restartPort = some p then s.warmRestart p
    else s.setPort p ({ s.port p with inTx := none }).beginNext

/-! ## Meanings -/

/-- COLD_RESET. -/
def execColdReset (baud1 baud0 : Bool) (s : State) : Host.Outcome State Fault Refusal :=
  .next (s.coldReset baud1 baud0)

/-- WARM_RESTART (R182): nothing without a pending restart whose reply is in transmission. -/
def execWarmRestart (s : State) : Host.Outcome State Fault Refusal :=
  .next (match s.restartPort with
    | some p => s.warmRestart p
    | none => s)

/-- REQUEST_FRAME_CHECK_FAIL (R175). -/
def execRequestFrameCheckFail (p : Port) (s : State) : Host.Outcome State Fault Refusal :=
  .next (s.hunt p)

/-- MANAGEMENT_FRAME_ABANDONED (R174). -/
def execManagementFrameAbandoned (p : Port) (cause : AbandonCause) (s : State) :
    Host.Outcome State Fault Refusal :=
  .next (s.abandonFrame p cause)

/-- UNKNOWN_REQUEST (R177, R178). -/
def execUnknownRequest (p : Port) (kind tag : Byte) (_body : List Byte) (s : State) :
    Host.Outcome State Fault Refusal :=
  .next (s.request p kind tag unknownHandler)

/-- REPLY_TRANSMISSION_END (R178, R182). -/
def execReplyTransmissionEnd (p : Port) (s : State) : Host.Outcome State Fault Refusal :=
  .next (s.replyEnds p)

/-- MANAGEMENT_PORT_BYTE (R174, R175). -/
def execManagementPortByte (p : Port) (byte : Byte) (s : State) :
    Host.Outcome State Fault Refusal :=
  .next (s.portByte p byte)

end Sys2Proof.Machine
end

