-- ==== Sys2Proof/Machine/TimeEvents.lean ====
section
/-!
DEFINITION. The meanings of the events of hall time (chapter 1), the references (chapter 2) and the
epoch outputs (chapter 3).
-/

namespace Sys2Proof.Machine

/-- The outcome of an event that may touch the condition list: the state at its end (R162, R165,
R168). -/
def ended (before after : State) : Host.Outcome State Fault Refusal :=
  .next (State.endEvent before after)

/-! ## Hall time -/

/-- The rate boundary opens if its instant has been reached (R7). -/
def State.openBoundary (s : State) : State := s.setTsu (s.tsu.settledTo s.osc)

/-- The RTM takes the oldest step notice given to it (R12, R112). -/
def State.takeRtmNotice (s : State) : State :=
  match s.tsu.rtmNotices with
  | [] => s
  | n :: rest => (s.setTsu { s.tsu with rtmNotices := rest }).rtmStep n

/-- The SDU takes the oldest step notice given to it (R12, R155). -/
def State.takeSduNotice (s : State) : State :=
  match s.tsu.sduNotices with
  | [] => s
  | n :: rest => (s.setTsu { s.tsu with sduNotices := rest }).stepWaits n

/-- The EPG takes the oldest step notice given to it (R12, R50). -/
def State.takeEpgNotice (s : State) : State :=
  match s.tsu.epgNotices with
  | [] => s
  | n :: rest =>
    let s1 := s.setTsu { s.tsu with epgNotices := rest }
    s1.setEpg (s1.epg.takeNotice n s1.tsu.era)

/-- RATE_BOUNDARY (R7). -/
def execRateBoundary (s : State) : Host.Outcome State Fault Refusal := .next s.openBoundary

/-- RTM_STEP_NOTICE (R112). -/
def execRtmStepNotice (s : State) : Host.Outcome State Fault Refusal := ended s s.takeRtmNotice

/-- SDU_STEP_NOTICE (R155). -/
def execSduStepNotice (s : State) : Host.Outcome State Fault Refusal := .next s.takeSduNotice

/-- EPG_STEP_NOTICE (R50). -/
def execEpgStepNotice (s : State) : Host.Outcome State Fault Refusal := .next s.takeEpgNotice

/-- EPG_WRAP (R50). -/
def execEpgWrap (s : State) : Host.Outcome State Fault Refusal :=
  .next (s.setEpg (s.epg.wrapDue s.readNow))

/-- WAIT_OUT_WRAP (R155). -/
def execWaitOutWrap (s : State) : Host.Outcome State Fault Refusal := .next s.waitWrap

/-! ## References -/

/-- MARK_ARRIVAL (R19, R21). -/
def execMarkArrival (r : RefId) (captured : Nat) (s : State) : Host.Outcome State Fault Refusal :=
  ended s (s.markArrival r captured)

/-- LABEL_ARRIVAL (R20): the record is complete, so the receiver is HUNTING. -/
def execLabelArrival (r : RefId) (labelSecond : BitVec 64) (quality : Byte) (s : State) :
    Host.Outcome State Fault Refusal :=
  .next ((s.huntLabel r).holdLabel r labelSecond.toNat quality.toNat)

/-- LABEL_RECORD_ABANDONED (R20). -/
def execLabelRecordAbandoned (r : RefId) (cause : AbandonCause) (s : State) :
    Host.Outcome State Fault Refusal :=
  .next (s.abandonLabel r cause)

/-- LABEL_LINE_BYTE (R20). -/
def execLabelLineByte (r : RefId) (byte : Byte) (s : State) : Host.Outcome State Fault Refusal :=
  .next (s.labelByte r byte)

/-- MISSING_MARK (R22). -/
def execMissingMark (r : RefId) (s : State) : Host.Outcome State Fault Refusal :=
  ended s (s.missingMark r)

/-- HOLDOVER_LIMIT_EXPIRY (R35). -/
def execHoldoverLimitExpiry (s : State) : Host.Outcome State Fault Refusal :=
  ended s s.expireHoldover

/-! ## Epoch outputs -/

/-- EPOCH_BOUNDARY (R43, R48). -/
def execEpochBoundary (s : State) : Host.Outcome State Fault Refusal :=
  .next (s.setEpg (s.epg.boundaryDue s.readNow s.rdu.tsState))

/-- EPA_PULSE_END (R43). -/
def execEpaPulseEnd (s : State) : Host.Outcome State Fault Refusal :=
  .next (s.setEpg (s.epg.epaEndDue s.readNow))

/-- EPB_PULSE_START (R44). -/
def execEpbPulseStart (s : State) : Host.Outcome State Fault Refusal :=
  .next (s.setEpg (s.epg.epbStartDue s.readNow s.rdu.tsState))

/-- EPB_PULSE_END (R44). -/
def execEpbPulseEnd (s : State) : Host.Outcome State Fault Refusal :=
  .next (s.setEpg (s.epg.epbEndDue s.readNow))

end Sys2Proof.Machine
end

