-- ==== Sys2Proof/Machine/LinkEvents.lean ====
section
/-!
DEFINITION. The meanings of the events of the span links (chapter 4), of the frames received on them
and of the rack timers (chapters 5, 6 and 8), and of wait-outs and reposts (chapters 9 and 10).
-/

namespace Sys2Proof.Machine

/-! ## Lanes and training (R54, R56, R57) -/

/-- A loss of block alignment (R54, R56 to R58). -/
def State.loseActivity (s : State) (l : Link) : State :=
  let r := { s.link l with activity := false }
  match (s.link l).state with
  | .disabled => s
  | .down => s.setLink l r
  | .training => s.setLink l (r.enterDown s.osc)
  | .up => (s.setLink l r).linkFalls l

/-- A training block received (R57). -/
def State.takeTrainingBlock (s : State) (l : Link) (ready : Bool) : State :=
  if (s.link l).state = .training then
    let s1 := s.setLink l ((s.link l).trainBlock ready)
    if (s1.link l).readySent && (s1.link l).readyReceived then s1.linkRises l else s1
  else s

/-- The training deadline is reached (R57). -/
def LinkRecord.endTraining (r : LinkRecord) (now : Nat) : LinkRecord :=
  if r.trainingExpired now then r.enterDown now else r

/-- The count of consecutive training blocks restarts (R57). -/
def LinkRecord.restartCount (r : LinkRecord) : LinkRecord :=
  if r.state = .training then { r with trainRun := 0 } else r

/-- LANE_ACTIVITY_GAINED (R54, R56). -/
def execLaneActivityGained (l : Link) (s : State) : Host.Outcome State Fault Refusal :=
  .next (s.setLink l ((s.link l).gainActivity s.osc))

/-- LANE_ACTIVITY_LOST (R54, R58). -/
def execLaneActivityLost (l : Link) (s : State) : Host.Outcome State Fault Refusal :=
  ended s (s.loseActivity l)

/-- SETTLE_DEADLINE (R56). -/
def execSettleDeadline (l : Link) (s : State) : Host.Outcome State Fault Refusal :=
  .next (s.setLink l ((s.link l).settle s.osc))

/-- TRAINING_BLOCK (R57). -/
def execTrainingBlock (l : Link) (ready : Bool) (s : State) : Host.Outcome State Fault Refusal :=
  ended s (s.takeTrainingBlock l ready)

/-- TRAINING_DEADLINE (R57). -/
def execTrainingDeadline (l : Link) (s : State) : Host.Outcome State Fault Refusal :=
  .next (s.setLink l ((s.link l).endTraining s.osc))

/-- TRAINING_COUNT_RESTART (R57). -/
def execTrainingCountRestart (l : Link) (s : State) : Host.Outcome State Fault Refusal :=
  .next (s.setLink l (s.link l).restartCount)

/-! ## Frames taken (R62 to R64) -/

/-- A frame whose check does not match: a link error, and the run that takes the link down at 8
(R63, R64). -/
def State.failCheck (s : State) (l : Link) : State :=
  if s.isUp l then
    let s1 := s.linkError l
    let s2 := s1.setLink l { s1.link l with checkRun := satAdd 8 (s1.link l).checkRun 1 }
    if 8 ≤ (s2.link l).checkRun then s2.linkFalls l else s2
  else s

/-- A frame whose check matches on an UP link sets the check-failure run to 0 and is judged further
(R63); on a link that is not UP nothing is received (R54). -/
def State.goodFrame (s : State) (l : Link) (deliver : State → State) : State :=
  if s.isUp l then deliver (s.setLink l { s.link l with checkRun := 0 }) else s

/-- RECEIVED_FRAME_CHECK_FAILURE (R63, R64). -/
def execReceivedFrameCheckFailure (l : Link) (s : State) : Host.Outcome State Fault Refusal :=
  ended s (s.failCheck l)

/-- UNKNOWN_KIND (R63). -/
def execUnknownKind (l : Link) (s : State) : Host.Outcome State Fault Refusal :=
  ended s (s.goodFrame l (fun t => t.linkError l))

/-- LINK_ERROR_RATE_CLEAR (R66). -/
def execLinkErrorRateClear (l : Link) (s : State) : Host.Outcome State Fault Refusal :=
  ended s (s.errorRateClearDue l)

/-! ## Transmission (R60, R61) -/

/-- The frame in transmission has been sent and is reported DEPARTED (R61). -/
def State.frameDeparts (s : State) (l : Link) : State :=
  match (s.link l).inTx with
  | some x =>
    (s.setLink l { s.link l with inTx := none }).setEntry l ((s.entry l).departed x)
  | none => s

/-- FRAME_TRANSMISSION_BEGINS (R60, R61). -/
def execFrameTransmissionBegins (l : Link) (departure : Nat) (s : State) :
    Host.Outcome State Fault Refusal :=
  .next (s.beginTransmission l departure)

/-- FRAME_DEPARTED (R61). -/
def execFrameDeparted (l : Link) (s : State) : Host.Outcome State Fault Refusal :=
  .next (s.frameDeparts l)

/-! ## Frames delivered (R62, R76, R85, R92, R132) -/

/-- HELLO (R76). -/
def execHello (l : Link) (h : Hello) (s : State) : Host.Outcome State Fault Refusal :=
  ended s (s.goodFrame l (fun t => t.takeHello l h))

/-- ECHO (R85). -/
def execEcho (l : Link) (arrival : Nat) (e : Echo) (s : State) :
    Host.Outcome State Fault Refusal :=
  ended s (s.goodFrame l (fun t => t.takeEcho l e arrival))

/-- TRIM_DONE (R92). -/
def execTrimDone (l : Link) (generation : BitVec 8) (appliedAt : BitVec 64) (s : State) :
    Host.Outcome State Fault Refusal :=
  ended s (s.goodFrame l (fun t => t.takeTrimDone l generation.toNat appliedAt.toNat))

/-- MARK_FRAME (R68, R132): the routing check of the SLC, then the dating unit. -/
def execMarkFrame (l : Link) (m : Mark) (s : State) : Host.Outcome State Fault Refusal :=
  ended s (s.goodFrame l (fun t => (t.routeMark l m).takeMark l m (t.isRouted l m)))

/-! ## Rack timers (R82, R84, R89, R109) -/

/-- The trim timeout is reached (R109). -/
def State.trimTimeout (s : State) (l : Link) : State :=
  if (s.entry l).trimOverdue s.osc then s.loseTrim l false else s

/-- PROBE_DUE (R82). -/
def execProbeDue (l : Link) (s : State) : Host.Outcome State Fault Refusal :=
  ended s (s.probeIfDue l)

/-- EXCHANGE_TIMEOUT (R84). -/
def execExchangeTimeout (l : Link) (s : State) : Host.Outcome State Fault Refusal :=
  ended s (s.exchangeTimeout l)

/-- TRIM_TIMEOUT (R109). -/
def execTrimTimeout (l : Link) (s : State) : Host.Outcome State Fault Refusal :=
  ended s (s.trimTimeout l)

/-- LOSS_DEADLINE (R89). -/
def execLossDeadline (l : Link) (s : State) : Host.Outcome State Fault Refusal :=
  ended s (s.lossDeadline l)

/-! ## Wait-outs and reposts (R154, R166) -/

/-- WAIT_OUT_RELEASE (R154). -/
def execWaitOutRelease (s : State) : Host.Outcome State Fault Refusal := .next s.releaseWaits

/-- REPOST (R166). -/
def execRepost (place : Nat) (s : State) : Host.Outcome State Fault Refusal :=
  ended s (s.setCru (s.cru.repostAt place s.osc))

end Sys2Proof.Machine
end

