-- ==== Sys2Proof/Machine/RequestCommands.lean ====
section
/-!
DEFINITION. The meanings of the requests of 11.5: each is a request frame completed on a port, which
is dispatched (R175, R176) to the handler of its kind.
-/

namespace Sys2Proof.Machine

/-- READ_SUMMARY (R183). -/
def execReadSummary (p : Port) (tag : Byte) (body : List Byte) (s : State) :
    Host.Outcome State Fault Refusal :=
  .next (s.request p 0x01#8 tag (readSummaryH body))

/-- SERVE (R180). -/
def execServe (p : Port) (tag : Byte) (body : List Byte) (s : State) :
    Host.Outcome State Fault Refusal :=
  .next (s.request p 0x02#8 tag (serveH body))

/-- HALT (R181). -/
def execHalt (p : Port) (tag : Byte) (body : List Byte) (s : State) :
    Host.Outcome State Fault Refusal :=
  .next (s.request p 0x03#8 tag (haltH body))

/-- RESTART (R182). -/
def execRestart (p : Port) (tag : Byte) (body : List Byte) (s : State) :
    Host.Outcome State Fault Refusal :=
  .next (s.request p 0x04#8 tag (restartH body))

/-- READ_TIME (R15). -/
def execReadTime (p : Port) (tag : Byte) (body : List Byte) (s : State) :
    Host.Outcome State Fault Refusal :=
  .next (s.request p 0x10#8 tag (readTimeH body))

/-- SET_RATE (R16). -/
def execSetRate (p : Port) (tag : Byte) (body : List Byte) (s : State) :
    Host.Outcome State Fault Refusal :=
  .next (s.request p 0x11#8 tag (setRateH body))

/-- STEP_TIME (R17). -/
def execStepTime (p : Port) (tag : Byte) (body : List Byte) (s : State) :
    Host.Outcome State Fault Refusal :=
  .next (s.request p 0x12#8 tag (stepTimeH body))

/-- SET_TIMESCALE (R39). -/
def execSetTimescale (p : Port) (tag : Byte) (body : List Byte) (s : State) :
    Host.Outcome State Fault Refusal :=
  .next (s.request p 0x13#8 tag (setTimescaleH body))

/-- SET_REFERENCE (R38). -/
def execSetReference (p : Port) (tag : Byte) (body : List Byte) (s : State) :
    Host.Outcome State Fault Refusal :=
  .next (s.request p 0x14#8 tag (setReferenceH body))

/-- SET_EPOCH (R47). -/
def execSetEpoch (p : Port) (tag : Byte) (body : List Byte) (s : State) :
    Host.Outcome State Fault Refusal :=
  .next (s.request p 0x20#8 tag (setEpochH body))

/-- START_EPOCH (R45). -/
def execStartEpoch (p : Port) (tag : Byte) (body : List Byte) (s : State) :
    Host.Outcome State Fault Refusal :=
  .next (s.request p 0x21#8 tag (startEpochH body))

/-- STOP_EPOCH (R46). -/
def execStopEpoch (p : Port) (tag : Byte) (body : List Byte) (s : State) :
    Host.Outcome State Fault Refusal :=
  .next (s.request p 0x22#8 tag (stopEpochH body))

/-- SET_DOMAIN (R184). -/
def execSetDomain (p : Port) (tag : Byte) (body : List Byte) (s : State) :
    Host.Outcome State Fault Refusal :=
  .next (s.request p 0x30#8 tag (setDomainH body))

/-- SET_LINK (R70). -/
def execSetLink (p : Port) (tag : Byte) (body : List Byte) (s : State) :
    Host.Outcome State Fault Refusal :=
  .next (s.request p 0x31#8 tag (setLinkH body))

/-- SET_LINK_RANGE (R71). -/
def execSetLinkRange (p : Port) (tag : Byte) (body : List Byte) (s : State) :
    Host.Outcome State Fault Refusal :=
  .next (s.request p 0x32#8 tag (setLinkRangeH body))

/-- RESET_LINK (R72). -/
def execResetLink (p : Port) (tag : Byte) (body : List Byte) (s : State) :
    Host.Outcome State Fault Refusal :=
  .next (s.request p 0x33#8 tag (resetLinkH body))

/-- READ_RACK (R94). -/
def execReadRack (p : Port) (tag : Byte) (body : List Byte) (s : State) :
    Host.Outcome State Fault Refusal :=
  .next (s.request p 0x34#8 tag (readRackH body))

/-- READ_WINDOW (R114). -/
def execReadWindow (p : Port) (tag : Byte) (body : List Byte) (s : State) :
    Host.Outcome State Fault Refusal :=
  .next (s.request p 0x35#8 tag (readWindowH body))

/-- CLEAR_QUARANTINE (R93). -/
def execClearQuarantine (p : Port) (tag : Byte) (body : List Byte) (s : State) :
    Host.Outcome State Fault Refusal :=
  .next (s.request p 0x36#8 tag (clearQuarantineH body))

/-- SET_DRIFT_LIMITS (R125). -/
def execSetDriftLimits (p : Port) (tag : Byte) (body : List Byte) (s : State) :
    Host.Outcome State Fault Refusal :=
  .next (s.request p 0x37#8 tag (setDriftLimitsH body))

/-- SET_SOURCE_WINDOW (R143). -/
def execSetSourceWindow (p : Port) (tag : Byte) (body : List Byte) (s : State) :
    Host.Outcome State Fault Refusal :=
  .next (s.request p 0x40#8 tag (setSourceWindowH body))

/-- SET_CLASS (R144). -/
def execSetClass (p : Port) (tag : Byte) (body : List Byte) (s : State) :
    Host.Outcome State Fault Refusal :=
  .next (s.request p 0x41#8 tag (setClassH body))

/-- READ_STAMPS (R151). -/
def execReadStamps (p : Port) (tag : Byte) (body : List Byte) (s : State) :
    Host.Outcome State Fault Refusal :=
  .next (s.request p 0x42#8 tag (readStampsH body))

/-- WAIT_UNTIL (R153). -/
def execWaitUntil (p : Port) (tag : Byte) (body : List Byte) (s : State) :
    Host.Outcome State Fault Refusal :=
  .next (s.request p 0x43#8 tag (waitUntilH p tag body))

/-- TAKE_CONDITION (R164). -/
def execTakeCondition (p : Port) (tag : Byte) (body : List Byte) (s : State) :
    Host.Outcome State Fault Refusal :=
  .next (s.request p 0x50#8 tag (takeConditionH p body))

/-- SET_REPORTING (R170). -/
def execSetReporting (p : Port) (tag : Byte) (body : List Byte) (s : State) :
    Host.Outcome State Fault Refusal :=
  .next (s.request p 0x51#8 tag (setReportingH body))

/-- SET_RECORDING (R169). -/
def execSetRecording (p : Port) (tag : Byte) (body : List Byte) (s : State) :
    Host.Outcome State Fault Refusal :=
  .next (s.request p 0x52#8 tag (setRecordingH body))

/-- SET_ACTION (R171). -/
def execSetAction (p : Port) (tag : Byte) (body : List Byte) (s : State) :
    Host.Outcome State Fault Refusal :=
  .next (s.request p 0x53#8 tag (setActionH body))

/-- SET_REPOST (R172). -/
def execSetRepost (p : Port) (tag : Byte) (body : List Byte) (s : State) :
    Host.Outcome State Fault Refusal :=
  .next (s.request p 0x54#8 tag (setRepostH body))

end Sys2Proof.Machine
end

