-- ==== Sys2Proof/Machine/Dispatch.lean ====
section
/-! DEFINITION. exec: one arm per command, each a direct call of the command's meaning. -/

namespace Sys2Proof.Machine

def exec (i : Instr) (s : State) : Host.Outcome State Fault Refusal :=
  match i with
  | .coldReset baud1 baud0 => Sys2Proof.Machine.execColdReset baud1 baud0 s
  | .warmRestart => Sys2Proof.Machine.execWarmRestart s
  | .requestFrameCheckFail p => Sys2Proof.Machine.execRequestFrameCheckFail p s
  | .managementFrameAbandoned p cause => Sys2Proof.Machine.execManagementFrameAbandoned p cause s
  | .unknownRequest p kind tag body => Sys2Proof.Machine.execUnknownRequest p kind tag body s
  | .replyTransmissionEnd p => Sys2Proof.Machine.execReplyTransmissionEnd p s
  | .readSummary p tag body => Sys2Proof.Machine.execReadSummary p tag body s
  | .serve p tag body => Sys2Proof.Machine.execServe p tag body s
  | .halt p tag body => Sys2Proof.Machine.execHalt p tag body s
  | .restart p tag body => Sys2Proof.Machine.execRestart p tag body s
  | .readTime p tag body => Sys2Proof.Machine.execReadTime p tag body s
  | .setRate p tag body => Sys2Proof.Machine.execSetRate p tag body s
  | .stepTime p tag body => Sys2Proof.Machine.execStepTime p tag body s
  | .setTimescale p tag body => Sys2Proof.Machine.execSetTimescale p tag body s
  | .setReference p tag body => Sys2Proof.Machine.execSetReference p tag body s
  | .setEpoch p tag body => Sys2Proof.Machine.execSetEpoch p tag body s
  | .startEpoch p tag body => Sys2Proof.Machine.execStartEpoch p tag body s
  | .stopEpoch p tag body => Sys2Proof.Machine.execStopEpoch p tag body s
  | .setDomain p tag body => Sys2Proof.Machine.execSetDomain p tag body s
  | .setLink p tag body => Sys2Proof.Machine.execSetLink p tag body s
  | .setLinkRange p tag body => Sys2Proof.Machine.execSetLinkRange p tag body s
  | .resetLink p tag body => Sys2Proof.Machine.execResetLink p tag body s
  | .readRack p tag body => Sys2Proof.Machine.execReadRack p tag body s
  | .readWindow p tag body => Sys2Proof.Machine.execReadWindow p tag body s
  | .clearQuarantine p tag body => Sys2Proof.Machine.execClearQuarantine p tag body s
  | .setDriftLimits p tag body => Sys2Proof.Machine.execSetDriftLimits p tag body s
  | .setSourceWindow p tag body => Sys2Proof.Machine.execSetSourceWindow p tag body s
  | .setClass p tag body => Sys2Proof.Machine.execSetClass p tag body s
  | .readStamps p tag body => Sys2Proof.Machine.execReadStamps p tag body s
  | .waitUntil p tag body => Sys2Proof.Machine.execWaitUntil p tag body s
  | .takeCondition p tag body => Sys2Proof.Machine.execTakeCondition p tag body s
  | .setReporting p tag body => Sys2Proof.Machine.execSetReporting p tag body s
  | .setRecording p tag body => Sys2Proof.Machine.execSetRecording p tag body s
  | .setAction p tag body => Sys2Proof.Machine.execSetAction p tag body s
  | .setRepost p tag body => Sys2Proof.Machine.execSetRepost p tag body s
  | .rateBoundary => Sys2Proof.Machine.execRateBoundary s
  | .rtmStepNotice => Sys2Proof.Machine.execRtmStepNotice s
  | .sduStepNotice => Sys2Proof.Machine.execSduStepNotice s
  | .epgStepNotice => Sys2Proof.Machine.execEpgStepNotice s
  | .epgWrap => Sys2Proof.Machine.execEpgWrap s
  | .waitOutWrap => Sys2Proof.Machine.execWaitOutWrap s
  | .markArrival r captured => Sys2Proof.Machine.execMarkArrival r captured s
  | .labelArrival r labelSecond quality => Sys2Proof.Machine.execLabelArrival r labelSecond quality s
  | .labelRecordAbandoned r cause => Sys2Proof.Machine.execLabelRecordAbandoned r cause s
  | .missingMark r => Sys2Proof.Machine.execMissingMark r s
  | .holdoverLimitExpiry => Sys2Proof.Machine.execHoldoverLimitExpiry s
  | .epochBoundary => Sys2Proof.Machine.execEpochBoundary s
  | .epaPulseEnd => Sys2Proof.Machine.execEpaPulseEnd s
  | .epbPulseStart => Sys2Proof.Machine.execEpbPulseStart s
  | .epbPulseEnd => Sys2Proof.Machine.execEpbPulseEnd s
  | .laneActivityGained l => Sys2Proof.Machine.execLaneActivityGained l s
  | .laneActivityLost l => Sys2Proof.Machine.execLaneActivityLost l s
  | .settleDeadline l => Sys2Proof.Machine.execSettleDeadline l s
  | .trainingBlock l ready => Sys2Proof.Machine.execTrainingBlock l ready s
  | .trainingDeadline l => Sys2Proof.Machine.execTrainingDeadline l s
  | .receivedFrameCheckFailure l => Sys2Proof.Machine.execReceivedFrameCheckFailure l s
  | .unknownKind l => Sys2Proof.Machine.execUnknownKind l s
  | .linkErrorRateClear l => Sys2Proof.Machine.execLinkErrorRateClear l s
  | .frameDeparted l => Sys2Proof.Machine.execFrameDeparted l s
  | .hello l h => Sys2Proof.Machine.execHello l h s
  | .echo l arrival e => Sys2Proof.Machine.execEcho l arrival e s
  | .trimDone l generation appliedAt => Sys2Proof.Machine.execTrimDone l generation appliedAt s
  | .probeDue l => Sys2Proof.Machine.execProbeDue l s
  | .exchangeTimeout l => Sys2Proof.Machine.execExchangeTimeout l s
  | .trimTimeout l => Sys2Proof.Machine.execTrimTimeout l s
  | .lossDeadline l => Sys2Proof.Machine.execLossDeadline l s
  | .markFrame l m => Sys2Proof.Machine.execMarkFrame l m s
  | .waitOutRelease => Sys2Proof.Machine.execWaitOutRelease s
  | .repost place => Sys2Proof.Machine.execRepost place s
  | .managementPortByte p byte => Sys2Proof.Machine.execManagementPortByte p byte s
  | .labelLineByte r byte => Sys2Proof.Machine.execLabelLineByte r byte s
  | .frameTransmissionBegins l departure => Sys2Proof.Machine.execFrameTransmissionBegins l departure s
  | .trainingCountRestart l => Sys2Proof.Machine.execTrainingCountRestart l s

end Sys2Proof.Machine
end

