-- ==== Sys2Proof/Machine/Step.lean ====
section
/-!
DEFINITION. The step of the part: the command at the front of the queue, or, on an empty queue, an
event of the part itself that is due, or the passing of one oscillator period (log entry 1).
-/

namespace Sys2Proof.Machine

/-- The command a table word spells put at the front of the queue (no word spells one). -/
def State.withFetchWord (s : State) (nbits w : Nat) : State :=
  match decodeTableWord nbits w with
  | some c => { s with pending := c :: s.pending }
  | none => s

/-- A command that stands in a list exactly when a test holds. -/
def dueIf (b : Bool) (c : Instr) : List Instr := if b then [c] else []

/-- Whether a reading of hall time has reached an optional hall time. -/
def reachedBy (h : Nat) (t : Option Nat) : Bool := t.any (fun x => decide (x ≤ h))

/-- The events of hall time and of the references that are due. -/
def State.timeDue (s : State) : List Instr :=
  dueIf (reachedBy s.osc s.tsu.boundaryInstant) .rateBoundary ++
  dueIf (!s.tsu.rtmNotices.isEmpty) .rtmStepNotice ++
  dueIf (!s.tsu.sduNotices.isEmpty) .sduStepNotice ++
  dueIf (!s.tsu.epgNotices.isEmpty) .epgStepNotice ++
  dueIf (s.epg.wrapSeen s.readNow) .epgWrap ++
  dueIf (s.sdu.wrapSeen s.readNow) .waitOutWrap ++
  dueIf (s.missingDue .a) (.missingMark .a) ++
  dueIf (s.missingDue .b) (.missingMark .b) ++
  dueIf s.holdoverExpired .holdoverLimitExpiry

/-- The edges of the epoch outputs that are due. -/
def State.epochDue (s : State) : List Instr :=
  let h := s.readNow.hall
  let g := s.epg
  dueIf (g.misaligned s.readNow || decide (g.nextBoundary ≤ h)) .epochBoundary ++
  dueIf (reachedBy h g.epaPulse) .epaPulseEnd ++
  dueIf (reachedBy h (g.complementDue.map (fun x => x.startHall)) || decide (g.nextSecond ≤ h))
    .epbPulseStart ++
  dueIf (reachedBy h (g.epbPulse.map (fun x => x.endHall)) ||
    reachedBy h (g.epbCarried.map (fun x => x.endHall))) .epbPulseEnd

/-- The timers of one link and its rack entry that are due. -/
def State.linkDue (s : State) (l : Link) : List Instr :=
  dueIf ((s.link l).settleReached s.osc) (.settleDeadline l) ++
  dueIf ((s.link l).trainingExpired s.osc) (.trainingDeadline l) ++
  dueIf ((s.link l).clearReached s.osc) (.linkErrorRateClear l) ++
  dueIf (s.probeCanGo l) (.probeDue l) ++
  dueIf ((s.entry l).exchangeOverdue s.osc) (.exchangeTimeout l) ++
  dueIf ((s.entry l).trimOverdue s.osc) (.trimTimeout l) ++
  dueIf ((s.entry l).lossReached s.osc) (.lossDeadline l)

/-- The reposts that are due, of every place of the list and of the reserved record: R166 gives no order
among them, and the step takes any (log entry 2). -/
def State.repostDue (s : State) : List Instr :=
  ((List.range s.cru.list.length).filter
    (fun i => s.cru.list[i]?.any (CondRecord.repostReached s.osc))).map Instr.repost ++
  dueIf (s.cru.reserved.any (CondRecord.repostReached s.osc)) (.repost 64)

/-- Whether a label receiver has heard no byte of its record for 10 ms (R20). -/
def LabelReceiver.silent (x : LabelReceiver) (now : Nat) : Bool :=
  match x with
  | .assembling _ last => silentSince last now
  | .hunting => false

/-- Whether a port receiver has heard no byte of its frame for 10 ms (R174). -/
def Receiver.silent (x : Receiver) (now : Nat) : Bool :=
  match x with
  | .assembling _ last => silentSince last now
  | .hunting => false

/-- The receivers whose silence abandons what they assemble. -/
def State.silenceDue (s : State) : List Instr :=
  dueIf ((s.ref .a).receiver.silent s.osc) (.labelRecordAbandoned .a .silence) ++
  dueIf ((s.ref .b).receiver.silent s.osc) (.labelRecordAbandoned .b .silence) ++
  dueIf ((s.port .a).receiver.silent s.osc) (.managementFrameAbandoned .a .silence) ++
  dueIf ((s.port .b).receiver.silent s.osc) (.managementFrameAbandoned .b .silence)

/-- Every event of the part itself that is due now. -/
def State.dueEvents (s : State) : List Instr :=
  s.timeDue ++ s.epochDue ++ (allLinks.map s.linkDue).flatten ++
  dueIf (s.sdu.waitOuts.any s.releases) .waitOutRelease ++ s.repostDue ++ s.silenceDue

/-- One period of the oscillator (R1): O advances by 8, and the readings that wraps are judged against
become the readings before it (R50, R155). -/
def State.tick (s : State) : State :=
  { s with
    osc := (s.osc + 8) % two64
    epg := { s.epg with lastReading := s.readNow }
    sdu := { s.sdu with lastReading := s.readNow } }

/-- What the part does on an empty queue (log entries 1 and 2): a due event, the free order of equal
instants deciding which, or one period of the oscillator. -/
def State.idleStep (s : State) : Host.Outcome State Fault Refusal :=
  match s.dueEvents with
  | [] => .next s.tick
  | first :: rest =>
    let place := Config.tieBreak s.choices % (rest.length + 1)
    exec ((first :: rest).getD place first) { s with choices := s.choices + 1 }

/-- The command at the front of the queue is taken and run with the queue's rest; an empty queue is
the part's own. -/
def step (s : State) : Host.Outcome State Fault Refusal :=
  match s.pending with
  | [] => s.idleStep
  | c :: rest => exec c { s with pending := rest }

end Sys2Proof.Machine
end

