-- ==== Sys2Proof/Machine/Lanes.lean ====
section
/-!
DEFINITION. The lanes of a span link (R53, R54, R57, R62, R63; 12, "Span-link blocks"): the blocks of a
frame as sent, and how the blocks received on a lane become the commands of its link.  No row of
spec/opcode_table.json is a block, so a lane receiver is no part of State: it stands before the queue
of commands, as the decoder does (log entry 8).
-/

namespace Sys2Proof.Machine

/-- A 34-bit block: the two header bits in the order sent, and 32 payload bits, first byte first. -/
structure Block where
  header : BitVec 2
  payload : BitVec 32
  deriving DecidableEq, Repr

/-- What a block is (12, "Span-link blocks"). -/
inductive BlockKind where
  | invalid
  | payload
  | idle
  | training (ready : Bool)
  | start
  | frameEnd
  deriving DecidableEq, Repr

/-- The kind of a control block by its first byte; bit 0 of the second byte is READY. -/
def controlKind (payload : BitVec 32) : BlockKind :=
  match (payload >>> 24).toNat with
  | 0x1E => .idle
  | 0x2D => .training (payload.getLsbD 16)
  | 0x78 => .start
  | _ => .invalid

/-- The kind of a block by its header. -/
def Block.kind (b : Block) : BlockKind :=
  match b.header.toNat with
  | 1 => .payload
  | 2 => controlKind b.payload
  | 3 => .frameEnd
  | _ => .invalid

/-! ## Blocks sent -/

def startBlock : Block := ⟨0b10#2, 0x78000000#32⟩

def idleBlock : Block := ⟨0b10#2, 0x1E000000#32⟩

def trainingBlockSent (ready : Bool) : Block :=
  ⟨0b10#2, if ready then 0x2D010000#32 else 0x2D000000#32⟩

/-- The payload blocks of a frame: four bytes each, first byte first. -/
def payloadBlocks : List Byte → List Block
  | a :: b :: c :: d :: rest =>
    ⟨0b01#2, BitVec.ofNat 32 (natOfBytes [a, b, c, d])⟩ :: payloadBlocks rest
  | _ => []

/-- The blocks of a frame whose payload bytes are given, with a check in its END block (R53). -/
def frameBlocks (payload : List Byte) (check : BitVec 32) : List Block :=
  startBlock :: (payloadBlocks payload ++ [⟨0b11#2, check⟩])

/-- The blocks of a frame in transmission (R61, R186). -/
def TxInFlight.blocks (x : TxInFlight) : List Block := frameBlocks x.payload (spanCheck x.payload)

/-- What the transmit lane sends between frames, by the state of the link (R54, R57); nothing in
DISABLED. -/
def LinkRecord.fillBlock (r : LinkRecord) : Option Block :=
  match r.state with
  | .disabled => none
  | .down => some idleBlock
  | .training => some (trainingBlockSent r.readySent)
  | .up => some idleBlock

/-! ## Blocks received -/

/-- A frame under reception: its arrival instant and the payload bytes so far (R62). -/
structure OpenFrame where
  arrival : Nat
  bytes : List Byte
  deriving DecidableEq, Repr

/-- The receiver of a lane: block alignment with the runs that gain and lose it (R53), and the frame
under reception. -/
structure Lane where
  aligned : Bool
  validRun : Nat
  invalidRun : Nat
  frame : Option OpenFrame
  deriving DecidableEq, Repr

/-- A receiver that has heard nothing. -/
def Lane.quiet : Lane := ⟨false, 0, 0, none⟩

/-- A block with a valid header: the 64th in a row gains alignment (R53). -/
def Lane.hearValid (l : Link) (x : Lane) : Lane × List Instr :=
  let run := satAdd 64 x.validRun 1
  let y : Lane := { x with validRun := run, invalidRun := 0 }
  if !x.aligned && decide (run = 64) then ({ y with aligned := true }, [.laneActivityGained l])
  else (y, [])

/-- Alignment lost (R53, R54).  A receiver that is not aligned keeps its run of valid headers, through a
silence of 1 µs too (DESIGN CHOICE, log entry 43). -/
def Lane.lose (l : Link) (x : Lane) : Lane × List Instr :=
  if x.aligned then ({ x with aligned := false, validRun := 0, frame := none }, [.laneActivityLost l])
  else (x, [])

/-- A block with an invalid header: the 16th in a row loses alignment (R53). -/
def Lane.hearInvalid (l : Link) (x : Lane) : Lane × List Instr :=
  let run := satAdd 16 x.invalidRun 1
  let y : Lane := { x with invalidRun := run, validRun := 0 }
  if run = 16 then y.lose l else (y, [])

/-- The bytes of a payload block, first byte first. -/
def Block.bytes (b : Block) : List Byte := beBytes 4 b.payload.toNat

/-- A payload block of the frame under reception; the 64th ends it (R63). -/
def Lane.extend (l : Link) (x : Lane) (f : OpenFrame) (b : Block) : Lane × List Instr :=
  let bytes := f.bytes ++ b.bytes
  if 256 ≤ bytes.length then ({ x with frame := none }, [.receivedFrameCheckFailure l])
  else ({ x with frame := some { f with bytes := bytes } }, [])

/-- A block on an UP link while a frame is open (R62, R63). -/
def Lane.insideFrame (l : Link) (now : Nat) (x : Lane) (f : OpenFrame) (b : Block) : Lane × List Instr :=
  match b.kind with
  | .payload => x.extend l f b
  | .frameEnd => ({ x with frame := none }, [decodeSpanFrame l f.arrival f.bytes b.payload])
  | .start => ({ x with frame := some ⟨now, []⟩ }, [.receivedFrameCheckFailure l])
  | .invalid => ({ x with frame := none }, [.receivedFrameCheckFailure l])
  | .idle => ({ x with frame := none }, [.receivedFrameCheckFailure l])
  | .training _ => ({ x with frame := none }, [.receivedFrameCheckFailure l])

/-- A block on an UP link (R62, R63): with no frame open, all but a start block is ignored. -/
def Lane.onUp (l : Link) (now : Nat) (x : Lane) (b : Block) : Lane × List Instr :=
  match x.frame with
  | some f => x.insideFrame l now f b
  | none => if b.kind = .start then ({ x with frame := some ⟨now, []⟩ }, []) else (x, [])

/-- A block in TRAINING (R57). -/
def trainingCommand (l : Link) (b : Block) : Instr :=
  match b.kind with
  | .training ready => .trainingBlock l ready
  | .invalid => .trainingCountRestart l
  | .payload => .trainingCountRestart l
  | .idle => .trainingCountRestart l
  | .start => .trainingCountRestart l
  | .frameEnd => .trainingCountRestart l

/-- What an aligned receiver makes of a block, by the state of its link (R54, R57, R62, R63). -/
def Lane.judge (l : Link) (st : LinkState) (now : Nat) (x : Lane) (b : Block) : Lane × List Instr :=
  match st with
  | .disabled => (x, [])
  | .down => ({ x with frame := none }, [])
  | .training => ({ x with frame := none }, [trainingCommand l b])
  | .up => x.onUp l now b

/-- A block received at an instant on a link in a state: the receiver after it and the commands it
gives.  A DISABLED link's receiver ignores the lane (R54). -/
def Lane.receive (l : Link) (st : LinkState) (now : Nat) (x : Lane) (b : Block) : Lane × List Instr :=
  if st = .disabled then (Lane.quiet, [])
  else
    let judged := if x.aligned then x.judge l st now b else (x, [])
    let heard := if b.kind = .invalid then judged.1.hearInvalid l else judged.1.hearValid l
    (heard.1, judged.2 ++ heard.2)

/-- The lane shows no transition for 1 µs (R53). -/
def Lane.fallSilent (l : Link) (x : Lane) : Lane × List Instr := x.lose l

/-- The commands of blocks received one after the other, each at its instant, on a link that stays in
one state. -/
def Lane.run (l : Link) (st : LinkState) : List (Nat × Block) → Lane → List Instr
  | [], _ => []
  | (now, b) :: rest, x =>
    let y := x.receive l st now b
    y.2 ++ Lane.run l st rest y.1

end Sys2Proof.Machine
end

