-- ==== Sys2Proof/Safety.lean ====
section
/-!
DEFINITION. What counts as a good state of the part: the bounds the spec puts on its state, and the
runs of the part.
-/

namespace Sys2Proof.Machine

/-! ## Bounds of the state -/

/-- R3: every rate the TSU holds is clamped to ±100,000,000 ppt. -/
def rateInRange (r : Int) : Prop := -100000000 ≤ r ∧ r ≤ 100000000

/-- R3: the segments and the pending rate. -/
def Tsu.ratesInRange (t : Tsu) : Prop :=
  rateInRange t.inForce.rate ∧ (∀ g ∈ t.older, rateInRange g.rate) ∧
    (∀ p, t.pendingRate = some p → rateInRange p.rate)

/-- R4: at most three older segments beside the one in force. -/
def Tsu.historyFits (t : Tsu) : Prop := t.older.length ≤ 3

/-- R145, R146: at most 2,048 entries, whose sequence numbers run up to the next sequence without
gaps, modulo 2^32. -/
def Sdu.journalOrdered (d : Sdu) : Prop :=
  d.journal.length ≤ 2048 ∧ d.nextSequence < 4294967296 ∧
    ∀ i (h : i < d.journal.length),
      (d.journal[i].sequence + (d.journal.length - i)) % 4294967296 = d.nextSequence

/-- R152: at most 16 wait-outs, at most 8 of either port. -/
def Sdu.waitsFit (d : Sdu) : Prop :=
  d.waitOuts.length ≤ 16 ∧ d.share .a ≤ 8 ∧ d.share .b ≤ 8

/-- R162: at most 64 records in the condition list. -/
def Cru.listFits (c : Cru) : Prop := c.list.length ≤ 64

/-- R162: CONDITION_LIST_FULL stands in the reserved slot and nowhere else. -/
structure Cru.SlotApart (c : Cru) : Prop where
  list : ∀ r ∈ c.list, r.kind ≠ .conditionListFull
  slot : ∀ r, c.reserved = some r → r.kind = .conditionListFull ∧ r.scope = .part

/-- R176: at most 16 replies in a port's queue, and a dropped count that saturates at 255. -/
def PortState.fits (x : PortState) : Prop := x.queue.length ≤ 16 ∧ x.dropped ≤ 255

/-- R60, R65: at most 32 frames in a link's transmit queue and 16 error times. -/
def LinkRecord.fits (r : LinkRecord) : Prop :=
  r.txQueue.length ≤ 32 ∧ r.errorTimes.length ≤ 16 ∧ r.checkRun ≤ 8

/-- R98: at most 8 records in a window. -/
def RackEntry.windowFits (e : RackEntry) : Prop := e.window.length ≤ 8

/-- 6.3: the drifts of both estimates lie within ±200,000 ppb. -/
def RackEntry.driftsFit (e : RackEntry) : Prop :=
  ∀ x ∈ e.current.toList ++ e.predecessor.toList, x.rho.natAbs ≤ 200000

/-! ## What an event leaves alone -/

/-- Two states agree on everything that is neither kept per link nor the condition reporting unit. -/
structure SameCore (s t : State) : Prop where
  osc : t.osc = s.osc
  tsu : t.tsu = s.tsu
  rdu : t.rdu = s.rdu
  epg : t.epg = s.epg
  rtmEra : t.rtmEra = s.rtmEra
  sdu : t.sdu = s.sdu
  mgp : t.mgp = s.mgp
  choices : t.choices = s.choices
  pending : t.pending = s.pending

/-- The link record, rack entry, drift record and driving conditions of a link stand. -/
structure SameAt (m : Link) (s t : State) : Prop where
  link : t.link m = s.link m
  entry : t.entry m = s.entry m
  drift : t.driftOf m = s.driftOf m
  driving : t.cru.driving m = s.cru.driving m

/-- Nothing but what belongs to one link, and the condition reporting unit, has changed. -/
structure OnlyLink (l : Link) (s t : State) : Prop where
  core : SameCore s t
  others : ∀ m, m ≠ l → SameAt m s t

/-- The settings the management ports hold stand; replies may have been handed. -/
structure SameSettings (s t : State) : Prop where
  mode : t.mgp.mode = s.mgp.mode
  restartPending : t.mgp.restartPending = s.mgp.restartPending
  domainId : t.mgp.domainId = s.mgp.domainId
  domainInstance : t.mgp.domainInstance = s.mgp.domainInstance
  lineRate : t.mgp.lineRate = s.mgp.lineRate

/-- Only hall time, the references, the epoch outputs, the wait-outs with their replies, and the
condition list have changed: no link, rack entry, drift record, journal entry or setting of the
management ports. -/
structure ClockOnly (s t : State) : Prop where
  osc : t.osc = s.osc
  links : t.links = s.links
  entries : t.entries = s.entries
  drift : t.drift = s.drift
  rtmEra : t.rtmEra = s.rtmEra
  journal : t.sdu.journal = s.sdu.journal
  nextSequence : t.sdu.nextSequence = s.sdu.nextSequence
  choices : t.choices = s.choices
  pending : t.pending = s.pending
  settings : SameSettings s t
  driving : ∀ m, t.cru.driving m = s.cru.driving m

/-! ## Requests -/

/-- A port that takes the request frame that reaches it (R176): no restart is pending, no request is
held on the port, and its reply queue has room. -/
structure Accepts (s : State) (p : Port) : Prop where
  noRestart : s.mgp.restartPending = false
  noHeld : (s.port p).held = none
  room : (s.port p).queue.length < 16

/-- The part as the owning block finds it once a request frame is taken (R175, R176): the receiver is
HUNTING and the frame is the held request. -/
def State.taken (s : State) (p : Port) (kind tag : Byte) : State :=
  s.setPort p { s.port p with receiver := .hunting, held := some (kind, tag) }

/-- The reply of the held request handed to its port (R176, R178). -/
def State.replied (s : State) (p : Port) (kind tag : Byte) (res : Result) (body : List Byte) : State :=
  s.handReply p (mkReply kind tag res body true)

/-- The replies of a port not yet sent whole, oldest first. -/
def PortState.replies (x : PortState) : List Reply := x.inTx.toList ++ x.queue

/-- Nothing but the state of one port has changed. -/
def OnlyPort (p : Port) (s t : State) : Prop := t = s.setPort p (t.port p)

/-- A request frame: its port and its kind, tag and body. -/
structure Request where
  port : Port
  kind : Byte
  tag : Byte
  body : List Byte
  deriving DecidableEq, Repr

/-- The request frame that a command is, if it is one. -/
def requestOf : Instr → Option Request
  | .coldReset _ _ => none
  | .warmRestart => none
  | .requestFrameCheckFail _ => none
  | .managementFrameAbandoned _ _ => none
  | .unknownRequest p kind tag body => some ⟨p, kind, tag, body⟩
  | .replyTransmissionEnd _ => none
  | .readSummary p tag body => some ⟨p, 0x01#8, tag, body⟩
  | .serve p tag body => some ⟨p, 0x02#8, tag, body⟩
  | .halt p tag body => some ⟨p, 0x03#8, tag, body⟩
  | .restart p tag body => some ⟨p, 0x04#8, tag, body⟩
  | .readTime p tag body => some ⟨p, 0x10#8, tag, body⟩
  | .setRate p tag body => some ⟨p, 0x11#8, tag, body⟩
  | .stepTime p tag body => some ⟨p, 0x12#8, tag, body⟩
  | .setTimescale p tag body => some ⟨p, 0x13#8, tag, body⟩
  | .setReference p tag body => some ⟨p, 0x14#8, tag, body⟩
  | .setEpoch p tag body => some ⟨p, 0x20#8, tag, body⟩
  | .startEpoch p tag body => some ⟨p, 0x21#8, tag, body⟩
  | .stopEpoch p tag body => some ⟨p, 0x22#8, tag, body⟩
  | .setDomain p tag body => some ⟨p, 0x30#8, tag, body⟩
  | .setLink p tag body => some ⟨p, 0x31#8, tag, body⟩
  | .setLinkRange p tag body => some ⟨p, 0x32#8, tag, body⟩
  | .resetLink p tag body => some ⟨p, 0x33#8, tag, body⟩
  | .readRack p tag body => some ⟨p, 0x34#8, tag, body⟩
  | .readWindow p tag body => some ⟨p, 0x35#8, tag, body⟩
  | .clearQuarantine p tag body => some ⟨p, 0x36#8, tag, body⟩
  | .setDriftLimits p tag body => some ⟨p, 0x37#8, tag, body⟩
  | .setSourceWindow p tag body => some ⟨p, 0x40#8, tag, body⟩
  | .setClass p tag body => some ⟨p, 0x41#8, tag, body⟩
  | .readStamps p tag body => some ⟨p, 0x42#8, tag, body⟩
  | .waitUntil p tag body => some ⟨p, 0x43#8, tag, body⟩
  | .takeCondition p tag body => some ⟨p, 0x50#8, tag, body⟩
  | .setReporting p tag body => some ⟨p, 0x51#8, tag, body⟩
  | .setRecording p tag body => some ⟨p, 0x52#8, tag, body⟩
  | .setAction p tag body => some ⟨p, 0x53#8, tag, body⟩
  | .setRepost p tag body => some ⟨p, 0x54#8, tag, body⟩
  | .rateBoundary => none
  | .rtmStepNotice => none
  | .sduStepNotice => none
  | .epgStepNotice => none
  | .epgWrap => none
  | .waitOutWrap => none
  | .markArrival _ _ => none
  | .labelArrival _ _ _ => none
  | .labelRecordAbandoned _ _ => none
  | .missingMark _ => none
  | .holdoverLimitExpiry => none
  | .epochBoundary => none
  | .epaPulseEnd => none
  | .epbPulseStart => none
  | .epbPulseEnd => none
  | .laneActivityGained _ => none
  | .laneActivityLost _ => none
  | .settleDeadline _ => none
  | .trainingBlock _ _ => none
  | .trainingDeadline _ => none
  | .receivedFrameCheckFailure _ => none
  | .unknownKind _ => none
  | .linkErrorRateClear _ => none
  | .frameDeparted _ => none
  | .hello _ _ => none
  | .echo _ _ _ => none
  | .trimDone _ _ _ => none
  | .probeDue _ => none
  | .exchangeTimeout _ => none
  | .trimTimeout _ => none
  | .lossDeadline _ => none
  | .markFrame _ _ => none
  | .waitOutRelease => none
  | .repost _ => none
  | .managementPortByte _ _ => none
  | .labelLineByte _ _ => none
  | .frameTransmissionBegins _ _ => none
  | .trainingCountRestart _ => none

/-- The fixed body length of a request kind (12; check 2 of R177). -/
def requestLength (kind : Byte) : Option Nat :=
  match kind.toNat with
  | 0x01 => some 0
  | 0x02 => some 0
  | 0x03 => some 0
  | 0x04 => some 0
  | 0x10 => some 0
  | 0x11 => some 4
  | 0x12 => some 8
  | 0x13 => some 36
  | 0x14 => some 3
  | 0x20 => some 18
  | 0x21 => some 0
  | 0x22 => some 0
  | 0x30 => some 6
  | 0x31 => some 32
  | 0x32 => some 5
  | 0x33 => some 1
  | 0x34 => some 1
  | 0x35 => some 2
  | 0x36 => some 1
  | 0x37 => some 28
  | 0x40 => some 7
  | 0x41 => some 7
  | 0x42 => some 1
  | 0x43 => some 10
  | 0x50 => some 0
  | 0x51 => some 2
  | 0x52 => some 2
  | 0x53 => some 3
  | 0x54 => some 2
  | _ => none

/-- Whether the first byte of a request's body names a thing of the set its kind names it from
(check 3 of R177, Table 12-1); true for a kind whose body does not begin with such a field. -/
def namesThing (kind : Byte) (v : Nat) : Bool :=
  match kind.toNat with
  | 0x14 => decide (v ≤ 1)
  | 0x31 => decide (v ≤ 39)
  | 0x32 => decide (v ≤ 39)
  | 0x33 => decide (v ≤ 39)
  | 0x34 => decide (v ≤ 39)
  | 0x35 => decide (v ≤ 39)
  | 0x36 => decide (v ≤ 39)
  | 0x37 => decide (v ≤ 39 ∨ v = 255)
  | 0x40 => decide (v ≤ 7)
  | 0x41 => decide (v ≤ 3)
  | 0x51 => decide (v ≤ 1)
  | 0x52 => decide (1 ≤ v ∧ v ≤ 24)
  | 0x53 => decide (v ≤ 4 ∨ v = 255)
  | _ => true

/-- The bytes of a request frame (12, "Management frame"): marker, length, kind, tag, body, check. -/
def Request.frame (r : Request) : List Byte :=
  let content := BitVec.ofNat 8 (r.body.length + 2) :: r.kind :: r.tag :: r.body
  0xB5#8 :: content ++ beBytes 2 (managementCheck content).toNat

/-- The outcome of commands run one after the other. -/
def execAll : List Instr → State → Host.Outcome State Fault Refusal
  | [], s => .next s
  | c :: rest, s =>
    match exec c s with
    | .next t => execAll rest t
    | .fault f => .fault f
    | .refused r => .refused r

/-- The replies that complete the wait-outs of a list on one port, in list order. -/
def waitReplies (q : Port) (res : Result) (body : List Byte) (ws : List WaitOut) : List Reply :=
  (ws.filter (fun w => decide (w.port = q))).map (fun w => mkReply 0x43#8 w.tag res body false)

/-! ## Marks of the selected reference -/

/-- The phase error of a mark with its label second (R27). -/
def phaseError (s : State) (captured labelSecond : Nat) : Int :=
  (labelSecond : Int) * 1000000000 - ((s.tsu.convert captured).hall : Int)

/-- A GOOD mark of the selected QUALIFIED reference that is not stale (R21, R27). -/
structure SelectedGoodMark (s : State) (r : RefId) (captured labelSecond : Nat) : Prop where
  qualified : (s.ref r).state = .qualified
  good : (s.ref r).classify captured = .good labelSecond
  selected : s.rdu.selected = some r
  noCandidate : s.rdu.candidate ≠ some r
  notStale : (s.tsu.convert captured).era = s.tsu.era

/-! ## Selection and the timescale -/

/-- The best reference (R25): QUALIFIED, and of lower priority value than the other where that is
QUALIFIED too, or of the same and REF A. -/
structure IsBest (s : State) (r : RefId) : Prop where
  qualified : (s.ref r).state = .qualified
  first : (s.ref (otherRef r)).state = .qualified →
    (s.ref r).priority < (s.ref (otherRef r)).priority ∨
      ((s.ref r).priority = (s.ref (otherRef r)).priority ∧ r = .a)

/-- The selection re-judged once in an event (R25), with the events "a reference becomes selected" (R29,
R35, R36) and "no qualified reference remains" (R34) that it gives the timescale. -/
structure SelectionJudged (s t : State) : Prop where
  chosen : s.rdu.selected = none → ∀ best, IsBest t best →
    t.rdu.selected = some best ∧ t.rdu.candidate = none ∧
    (s.rdu.tsState = .free ∨ s.rdu.tsState = .holdover →
      t.rdu.tsState = .acquiring ∧ t.rdu.lockCount = 0 ∧ t.rdu.unlockCount = 0) ∧
    (s.rdu.tsState = .holdover → t.rdu.holdoverStart = none) ∧
    (s.rdu.tsState ≠ .free → s.rdu.tsState ≠ .holdover → t.rdu.tsState = s.rdu.tsState)
  none_best : s.rdu.selected = none → (∀ r, (t.ref r).state ≠ .qualified) →
    t.rdu.selected = none ∧ t.rdu.tsState = s.rdu.tsState
  kept : ∀ x, s.rdu.selected = some x → (t.ref x).state = .qualified →
    t.rdu.selected = some x ∧ t.rdu.tsState = s.rdu.tsState ∧
    (IsBest t x → t.rdu.candidate = none) ∧ (¬ IsBest t x → t.rdu.candidate = some (otherRef x))
  replaced : ∀ x, s.rdu.selected = some x → (t.ref x).state ≠ .qualified →
    (t.ref (otherRef x)).state = .qualified →
    t.rdu.selected = some (otherRef x) ∧ t.rdu.candidate = none ∧ t.rdu.tsState = s.rdu.tsState
  lost : ∀ x, s.rdu.selected = some x → (∀ r, (t.ref r).state ≠ .qualified) →
    t.rdu.selected = none ∧ t.rdu.candidate = none ∧
    (s.rdu.tsState = .locked →
      t.rdu.tsState = .holdover ∧ t.rdu.holdoverStart = some s.osc ∧ t.rdu.lockCount = 0 ∧
      t.rdu.unlockCount = 0 ∧ t.tsu = s.tsu.writeRate s.osc s.rdu.integral) ∧
    (s.rdu.tsState = .acquiring →
      t.rdu.tsState = .free ∧ t.tsu = s.tsu ∧ t.rdu.integral = s.rdu.integral ∧
      (t.rdu.lockCount, t.rdu.unlockCount, t.rdu.clampCount) = (0, 0, 0)) ∧
    (s.rdu.tsState ≠ .locked → s.rdu.tsState ≠ .acquiring → t.rdu.tsState = s.rdu.tsState)

/-- The epoch pulse generator after it takes a timescale state (R49): squelched in FREE, ACQUIRING and
FAILED where the schedule asks for it, with both outputs held idle while RUNNING. -/
structure EpgFollows (g : Epg) (x : TsState) (h : Epg) : Prop where
  flag : h.squelched = true ↔ g.schedule.squelch = true ∧ x ≠ .locked ∧ x ≠ .holdover
  runs : g.running = false ∨ h.squelched = false → h = { g with squelched := h.squelched }
  idle : g.running = true → h.squelched = true → h =
    { g with squelched := true, epa := g.schedule.epaIdle, epaPulse := none,
             epb := g.schedule.epbIdle, epbPulse := none, epbCarried := none, complementDue := none }

/-- What an event that may change the timescale state does beyond the discipline: a change posts one
TIMESCALE_STATE (R37), moves the squelch (R49) and, on entry to FREE or FAILED, completes every wait-out
UNTIMED (R156); without one the outputs, the wait-outs and the ports stand. -/
structure TimescaleMoved (s t : State) : Prop where
  stands : t.rdu.tsState = s.rdu.tsState → t.epg = s.epg ∧ t.sdu = s.sdu ∧ t.mgp = s.mgp
  outputs : t.rdu.tsState ≠ s.rdu.tsState → EpgFollows s.epg t.rdu.tsState t.epg
  parked : t.rdu.tsState ≠ s.rdu.tsState → t.rdu.tsState ≠ .free → t.rdu.tsState ≠ .failed →
    t.sdu = s.sdu ∧ t.mgp = s.mgp
  untimed : t.rdu.tsState ≠ s.rdu.tsState → t.rdu.tsState = .free ∨ t.rdu.tsState = .failed →
    t.sdu = { s.sdu with waitOuts := [] } ∧
    ∀ q, (s.port q).queue.length + s.sdu.share q ≤ 16 →
      (t.port q).replies = (s.port q).replies ++
        waitReplies q .untimed (waitReply 0 s.tsu.era 0 t.rdu.tsState) s.sdu.waitOuts
  posted : t.rdu.tsState ≠ s.rdu.tsState → s.cru.records? .timescaleState = true →
    s.cru.wants .a .timescaleState || s.cru.wants .b .timescaleState → s.cru.list.length ≤ 60 →
    ∃ r ∈ t.cru.list, r.kind = .timescaleState ∧ r.scope = .part ∧ r.details =
      { oldState := some s.rdu.tsState.code, newState := some t.rdu.tsState.code,
        era := some t.tsu.era }

/-! ## Links and drift in range -/

/-- The flags of a link's entry are those its driving conditions give (R168). -/
structure FlagsMatch (s : State) (l : Link) : Prop where
  degrade : (s.entry l).degrade = (s.cru.driving l).degrade
  isolate : (s.entry l).isolate = (s.cru.driving l).isolate

/-- No action of the link's group is ISOLATE (R168). -/
structure NoIsolation (s : State) (l : Link) : Prop where
  drift : s.cru.actions[groupIndex l].driftAlarm ≠ .isolate
  errors : s.cru.actions[groupIndex l].linkErrorRate ≠ .isolate

/-- Values that the fields of SET LINK can carry (12). -/
structure LinkSettings.fitsFields (c : LinkSettings) : Prop where
  poll : c.pollInterval < 65536
  gate : c.delayGate < 4294967296
  delay : c.maxDelay < 4294967296
  asymmetry : c.asymmetry < 4294967296
  rate : c.rateUncertainty < 4294967296
  interval : c.trimInterval < 256
  phase : c.phaseLimit < 4294967296
  trim : c.rateTrimLimit < 4294967296

/-- The eight settings lie within their ranges (R95). -/
def LinkSettings.inRange (c : LinkSettings) : Bool :=
  decide (16 ≤ c.pollInterval ∧ c.pollInterval ≤ 4096) && decide (c.delayGate ≤ 100000) &&
  decide (100 ≤ c.maxDelay ∧ c.maxDelay ≤ 1000000) && decide (c.asymmetry ≤ 100000) &&
  decide (c.rateUncertainty ≤ 100000) && decide (1 ≤ c.trimInterval ∧ c.trimInterval ≤ 255) &&
  decide (c.phaseLimit ≤ 1000000) && decide (c.rateTrimLimit ≤ 200000)

/-- Values that the fields of SET DRIFT LIMITS can carry (12). -/
structure Limits.fitsFields (x : Limits) : Prop where
  offsetWatch : x.offsetWatch < 4294967296
  offsetAlarm : x.offsetAlarm < 4294967296
  driftWatch : x.driftWatch < 4294967296
  driftAlarm : x.driftAlarm < 4294967296
  totalWatch : x.totalWatch < 4294967296
  totalAlarm : x.totalAlarm < 4294967296
  k : x.k < 256
  m : x.m < 256

/-- A drift record after a run of evaluations, each an evaluation level and a clear level. -/
def DriftRecord.judgeRun (d : DriftRecord) (run : List (DriftLevel × DriftLevel)) : DriftRecord :=
  run.foldl (fun x v => (x.judge v.1 v.2).record) d

/-! ## Exchanges and dating -/

/-- The record of smallest delay of a window, the newest of those that share it (R100, R101). -/
def NewestLeast (w : List ExchangeRecord) (r : ExchangeRecord) : Prop :=
  ∃ older newer, w = older ++ r :: newer ∧ (∀ y ∈ older, r.delta ≤ y.delta) ∧
    ∀ y ∈ newer, r.delta < y.delta

/-- An ECHO that matches the departed probe of an entry in service on an UP link (R85), with no probe
due in its event (R86), no action of its group ISOLATE and room for a frame. -/
structure MatchingEcho (s : State) (l : Link) (e : Echo) (d : ProbeDeparture) : Prop where
  up : (s.link l).state = .up
  room : (s.link l).txQueue.length < 32
  quiet : NoIsolation s l
  service : s.inService l = true
  probe : (s.entry l).probe = some { number := e.exchange.toNat, departure := some d }
  later : ∃ x, (s.entry l).nextProbeDue = some x ∧ s.osc < x

/-- The eras of t1, of t4 and of the RTM are the same (step 2 of R86, R99). -/
def SameEras (s : State) (arrival : Nat) (d : ProbeDeparture) : Prop :=
  d.era = s.rtmEra ∧ (s.tsu.convert arrival).era = s.rtmEra

/-- The exchange record of an ECHO and the departure of its probe (R97). -/
def measured (s : State) (arrival : Nat) (e : Echo) (d : ProbeDeparture) : ExchangeRecord where
  number := e.exchange.toNat
  t1 := d.t1
  t2 := e.t2.toNat
  t3 := e.t3.toNat
  t4 := (s.tsu.convert arrival).hall
  theta := (((e.t2.toNat : Int) - d.t1) -
    (((s.tsu.convert arrival).hall : Int) - e.t3.toNat)) / 2
  delta := (((s.tsu.convert arrival).hall : Int) - d.t1) - ((e.t3.toNat : Int) - e.t2.toNat)

/-- The last-served domain of a HELLO is the part's under another instance (check 1 of R77). -/
def TwinHello (s : State) (h : Hello) : Prop :=
  h.domainId.toNat = s.mgp.domainId ∧ h.domainInstance.toNat ≠ s.mgp.domainInstance

/-- The identity of a HELLO lies outside the link's rack range (check 2 of R77). -/
def StrayHello (s : State) (l : Link) (h : Hello) : Prop :=
  h.identity.toNat < (s.link l).rangeFirst ∨ (s.link l).rangeLast < h.identity.toNat

/-- The reason of the first of the four checks of R77 that fails, given whether another entry in
service holds the identity (check 3). -/
def FirstFailure (s : State) (l : Link) (h : Hello) (duplicate : Prop) (q : QReason) : Prop :=
  (TwinHello s h ∧ q = .twinDomain) ∨ (¬ TwinHello s h ∧ StrayHello s l h ∧ q = .wrongRack) ∨
  (¬ TwinHello s h ∧ ¬ StrayHello s l h ∧ duplicate ∧ q = .duplicate) ∨
  (¬ TwinHello s h ∧ ¬ StrayHello s l h ∧ ¬ duplicate ∧ (s.entry l).isolate = true ∧ q = .isolated)

/-- What a capture time of a class is dated on a link, in a state, by a chosen estimate (R138 to
R141). -/
def DatedBy (s : State) (l : Link) (c : Fin 4) (y : Estimate) (capture : Nat) (x : Dating) : Prop :=
  let gap : Int := (capture : Int) - y.tau
  let stamp : Int :=
    ((capture : Int) - y.theta - (gap * y.rho).tdiv 1000000000) % 18446744073709551616
  (s.rdu.tsState = .failed → x = .undated .noTime) ∧
  (∀ u, s.uHall = some u →
    (64000000000 < gap.natAbs → x = .undated .stale) ∧
    (gap.natAbs ≤ 64000000000 →
      let bound := min 4294967295 (y.uRack +
        (gap.natAbs * (s.entry l).settings.rateUncertainty + 999999999) / 1000000000 + u)
      let good := (s.entry l).state = .tracking ∧ (s.entry l).degrade = false ∧
        (s.entry l).isolate = false ∧ s.rdu.tsState = .locked ∧
        bound ≤ s.sdu.classes[c].qualityLimit
      (good → x = .good stamp.toNat bound) ∧ (¬ good → x = .degraded stamp.toNat bound)))

/-! ## Conditions -/

/-- The pending flags of a record after a take by a port (R164). -/
def PendFlags.takenBy (p : Port) : PendFlags → PendFlags
  | .broadcast forA forB => .broadcast (forA && decide (p ≠ .a)) (forB && decide (p ≠ .b))
  | .floating _ => .floating false

/-- The pending flags of a repressible record of a class that is off for a port (R170). -/
def PendFlags.droppedFor (p : Port) : PendFlags → PendFlags
  | .broadcast forA forB => .broadcast (forA && decide (p ≠ .a)) (forB && decide (p ≠ .b))
  | .floating owed => .floating owed

/-- The end of an event of the condition reporting unit that reached `u`: CONDITION_LIST_FULL is
cleared where the list holds 48 records or fewer (R162, R163), and each attention line is low exactly
while a record is deliverable to its port (R165). -/
structure ListFullJudged (u c : Cru) : Prop where
  rest : c = { u with active := c.active, reserved := c.reserved,
                      listFullRefusals := c.listFullRefusals, attnA := c.attnA, attnB := c.attnB }
  stands : u.isActive .conditionListFull .part = false ∨ 48 < u.list.length →
    c.active = u.active ∧ c.reserved = u.reserved ∧ c.listFullRefusals = u.listFullRefusals
  clears : u.isActive .conditionListFull .part = true → u.list.length ≤ 48 →
    c.isActive .conditionListFull .part = false ∧ c.listFullRefusals = 0 ∧
    (∀ k sc, (k, sc) ≠ (CondKind.conditionListFull, Scope.part) →
      c.isActive k sc = u.isActive k sc) ∧
    (u.reserved = none → c.reserved = none) ∧
    ∀ r, u.reserved = some r → c.reserved =
      if r.active = true then
        if u.deliverable .a r = true ∨ u.deliverable .b r = true
        then some { r with active := false, repostDue := none } else none
      else some r
  lineA : c.attnA = .low ↔ ∃ x ∈ c.list ++ c.reserved.toList, c.deliverable .a x = true
  lineB : c.attnB = .low ↔ ∃ x ∈ c.list ++ c.reserved.toList, c.deliverable .b x = true

/-! ## Classes of events -/

/-- The link of an event that concerns one link and its rack entry alone. -/
def linkEventOf : Instr → Option Link
  | .laneActivityGained l => some l
  | .laneActivityLost l => some l
  | .settleDeadline l => some l
  | .trainingBlock l _ => some l
  | .trainingDeadline l => some l
  | .trainingCountRestart l => some l
  | .receivedFrameCheckFailure l => some l
  | .unknownKind l => some l
  | .linkErrorRateClear l => some l
  | .frameTransmissionBegins l _ => some l
  | .frameDeparted l => some l
  | .hello l _ => some l
  | .echo l _ _ => some l
  | .trimDone l _ _ => some l
  | .probeDue l => some l
  | .exchangeTimeout l => some l
  | .trimTimeout l => some l
  | .lossDeadline l => some l
  | _ => none

/-- An event of hall time, of a reference, of the epoch outputs or of the wait-outs. -/
def isClockEvent : Instr → Bool
  | .rateBoundary => true
  | .sduStepNotice => true
  | .epgStepNotice => true
  | .epgWrap => true
  | .waitOutWrap => true
  | .waitOutRelease => true
  | .markArrival _ _ => true
  | .labelArrival _ _ _ => true
  | .labelRecordAbandoned _ _ => true
  | .labelLineByte _ _ => true
  | .missingMark _ => true
  | .holdoverLimitExpiry => true
  | .epochBoundary => true
  | .epaPulseEnd => true
  | .epbPulseStart => true
  | .epbPulseEnd => true
  | _ => false

/-! ## Invariants -/

/-- Every table of the part is within its bound. -/
structure InBounds (s : State) : Prop where
  journal : s.sdu.journalOrdered
  conditions : s.cru.listFits
  slot : s.cru.SlotApart
  waits : s.sdu.waitsFit
  ports : ∀ p, (s.port p).fits
  links : ∀ l, (s.link l).fits
  windows : ∀ l, (s.entry l).windowFits
  drifts : ∀ l, (s.entry l).driftsFit
  history : s.tsu.historyFits
  rates : s.tsu.ratesInRange

/-- Rack service: one holder for each identity (R77), service only in SERVING (R75), a probe or a trim
in flight only in service (R79, R89, R96), and the flags those of the driving conditions (R168). -/
structure SoundService (s : State) : Prop where
  oneHolder : ∀ l m id, s.inService l = true → s.inService m = true →
    (s.entry l).identity = some id → (s.entry m).identity = some id → l = m
  serving : ∀ l, s.inService l = true → s.mgp.mode = .serving
  quiet : ∀ l, s.inService l = false → (s.entry l).probe = none ∧ (s.entry l).trim = none
  flags : ∀ l, FlagsMatch s l

/-! ## Runs -/

/-- The outcome of a number of steps. -/
def run : Nat → State → Host.Outcome State Fault Refusal
  | 0, s => .next s
  | n + 1, s =>
    match step s with
    | .next t => run n t
    | .fault f => .fault f
    | .refused r => .refused r

/-- A run is safe when no step of it ends in a fault or a refusal. -/
def SafeFor (n : Nat) (s : State) : Prop := ∃ t, run n s = .next t

end Sys2Proof.Machine
end

