-- ==== Sys2Proof/WellFormed.lean ====
section
/-!
DEFINITION. Which commands can arise: the limits the lines and the frame layouts put on what an event
carries.
-/

namespace Sys2Proof

/-- The request kinds of the table in 11.5. -/
def requestKinds : List Byte :=
  [0x01, 0x02, 0x03, 0x04, 0x10, 0x11, 0x12, 0x13, 0x14, 0x20, 0x21, 0x22, 0x30, 0x31, 0x32, 0x33,
   0x34, 0x35, 0x36, 0x37, 0x40, 0x41, 0x42, 0x43, 0x50, 0x51, 0x52, 0x53, 0x54]

/-- A body holds 0 to 240 bytes (R174: a length byte of 2 to 242). -/
def bodyFits (body : List Byte) : Bool := decide (body.length ≤ 240)

/-- A captured instant is an oscillator time, an unsigned 64-bit count (R1). -/
def isOscillatorTime (o : Nat) : Bool := decide (o < two64)

/-- Whether a command can arise. -/
def Instr.wellFormed : Instr → Bool
  | .coldReset _ _ => true
  | .warmRestart => true
  | .requestFrameCheckFail _ => true
  | .managementFrameAbandoned _ _ => true
  | .unknownRequest _ kind _ body => !requestKinds.contains kind && bodyFits body
  | .replyTransmissionEnd _ => true
  | .readSummary _ _ body => bodyFits body
  | .serve _ _ body => bodyFits body
  | .halt _ _ body => bodyFits body
  | .restart _ _ body => bodyFits body
  | .readTime _ _ body => bodyFits body
  | .setRate _ _ body => bodyFits body
  | .stepTime _ _ body => bodyFits body
  | .setTimescale _ _ body => bodyFits body
  | .setReference _ _ body => bodyFits body
  | .setEpoch _ _ body => bodyFits body
  | .startEpoch _ _ body => bodyFits body
  | .stopEpoch _ _ body => bodyFits body
  | .setDomain _ _ body => bodyFits body
  | .setLink _ _ body => bodyFits body
  | .setLinkRange _ _ body => bodyFits body
  | .resetLink _ _ body => bodyFits body
  | .readRack _ _ body => bodyFits body
  | .readWindow _ _ body => bodyFits body
  | .clearQuarantine _ _ body => bodyFits body
  | .setDriftLimits _ _ body => bodyFits body
  | .setSourceWindow _ _ body => bodyFits body
  | .setClass _ _ body => bodyFits body
  | .readStamps _ _ body => bodyFits body
  | .waitUntil _ _ body => bodyFits body
  | .takeCondition _ _ body => bodyFits body
  | .setReporting _ _ body => bodyFits body
  | .setRecording _ _ body => bodyFits body
  | .setAction _ _ body => bodyFits body
  | .setRepost _ _ body => bodyFits body
  | .rateBoundary => true
  | .rtmStepNotice => true
  | .sduStepNotice => true
  | .epgStepNotice => true
  | .epgWrap => true
  | .waitOutWrap => true
  | .markArrival _ captured => isOscillatorTime captured
  | .labelArrival _ _ _ => true
  | .labelRecordAbandoned _ cause => decide (cause ≠ .badLength)
  | .missingMark _ => true
  | .holdoverLimitExpiry => true
  | .epochBoundary => true
  | .epaPulseEnd => true
  | .epbPulseStart => true
  | .epbPulseEnd => true
  | .laneActivityGained _ => true
  | .laneActivityLost _ => true
  | .settleDeadline _ => true
  | .trainingBlock _ _ => true
  | .trainingDeadline _ => true
  | .receivedFrameCheckFailure _ => true
  | .unknownKind _ => true
  | .linkErrorRateClear _ => true
  | .frameDeparted _ => true
  | .hello _ _ => true
  | .echo _ arrival _ => isOscillatorTime arrival
  | .trimDone _ _ _ => true
  | .probeDue _ => true
  | .exchangeTimeout _ => true
  | .trimTimeout _ => true
  | .lossDeadline _ => true
  | .markFrame _ m => decide (m.eventKind.toNat ≤ 15)
  | .waitOutRelease => true
  | .repost place => decide (place ≤ 64)
  | .managementPortByte _ _ => true
  | .labelLineByte _ _ => true
  | .frameTransmissionBegins _ departure => isOscillatorTime departure
  | .trainingCountRestart _ => true

end Sys2Proof
end

