-- ==== Sys2Proof/Certificates/Slice0/Obligations.lean ====
section
/-!
DEFINITION. The statements about the model, one `Obligations.<Name>` each.  OBLIGATIONS.json says of
each which rule or section of spec/ it formalises.
-/

open Sys2Proof Sys2Proof.Machine

/-! ## The queue of commands -/

/-- The command at the front of the queue is taken and run with the queue's rest. On an empty queue,
by the model's choice (log entries 1 and 2), one of the events that are due runs, and where none is
due one period of the oscillator passes (R1) and nothing else but the readings that wraps are judged
against. -/
def Obligations.StepRunsFrontCommand : Prop :=
  (∀ (c : Instr) (rest : List Instr) (s : State), s.pending = c :: rest →
      step s = exec c { s with pending := rest }) ∧
  (∀ s : State, s.pending = [] →
      (s.dueEvents ≠ [] → ∃ c ∈ s.dueEvents, step s = exec c { s with choices := s.choices + 1 }) ∧
      (s.dueEvents = [] → step s = .next
        { s with osc := (s.osc + 8) % two64
                 epg := { s.epg with lastReading := s.readNow }
                 sdu := { s.sdu with lastReading := s.readNow } }))

/-! ## Management ports (R174 to R178) -/

/-- Replies (R176, R178): one handed to a port is discarded with the dropped count when the queue
holds 16, where it still ends the hold of the request it answers (log entry 46: the model's choice),
joins the end behind a reply in transmission, and begins at once on an idle port, which
ends the hold of the request it answers. At the end of a reply the oldest waiting one begins and
nothing else of the part changes; the end of the RESTART reply is the warm restart (R182). -/
def Obligations.RepliesLeaveInOrder : Prop :=
  (∀ (x : PortState) (r : Reply),
      (16 ≤ x.queue.length → x.handReply r = { x with
        dropped := min 255 (x.dropped + 1), held := if r.endsHold then none else x.held }) ∧
      (x.queue.length < 16 → x.inTx.isSome = true → x.handReply r = { x with queue := x.queue ++ [r] }) ∧
      (x.queue = [] → x.inTx = none →
        x.handReply r = { x with inTx := some r, held := if r.endsHold then none else x.held })) ∧
  (∀ (p : Port) (s : State) (r : Reply), (s.port p).inTx = some r →
      (s.restartPort = some p → exec (.replyTransmissionEnd p) s = exec .warmRestart s) ∧
      (s.restartPort ≠ some p →
        ((s.port p).queue = [] →
          exec (.replyTransmissionEnd p) s = .next (s.setPort p { s.port p with inTx := none })) ∧
        (∀ q rest, (s.port p).queue = q :: rest →
          exec (.replyTransmissionEnd p) s = .next
            (s.setPort p { s.port p with
              queue := rest, inTx := some q,
              held := if q.endsHold then none else (s.port p).held }))))

/-- The management receiver (R174, R175): a frame that fails its check, or is abandoned for one of
the three causes, sends it back to HUNTING and changes nothing else; in HUNTING the marker starts a
frame and any other byte is discarded; a length byte below 2 or above 242 abandons the frame at
once. -/
def Obligations.ManagementReceiver : Prop :=
  (∀ (p : Port) (s : State) (bytes : List Byte) (last : Nat),
      (s.port p).receiver = .assembling bytes last →
      exec (.requestFrameCheckFail p) s =
          .next (s.setPort p { s.port p with receiver := .hunting }) ∧
      exec (.managementFrameAbandoned p .stopBitLow) s =
          .next (s.setPort p { s.port p with receiver := .hunting }) ∧
      (last + 10000000 ≤ s.osc → exec (.managementFrameAbandoned p .silence) s =
          .next (s.setPort p { s.port p with receiver := .hunting })) ∧
      (bytes = [] → exec (.managementFrameAbandoned p .badLength) s =
          .next (s.setPort p { s.port p with receiver := .hunting }))) ∧
  (∀ (p : Port) (s : State) (b : Byte),
      ((s.port p).receiver = .hunting →
        exec (.managementPortByte p b) s = .next
          (if b = 0xB5#8 then s.setPort p { s.port p with receiver := .assembling [] s.osc } else s)) ∧
      (∀ last, (s.port p).receiver = .assembling [] last →
        exec (.managementPortByte p b) s = .next (s.setPort p { s.port p with
          receiver := if 2 ≤ b.toNat ∧ b.toNat ≤ 242 then .assembling [b] s.osc else .hunting })))

/-- The bytes of a request frame taken one after the other on a HUNTING port run the request; with
any other two check bytes the frame is discarded. -/
def Obligations.FrameBytesRunTheRequest : Prop :=
  ∀ (c : Instr) (r : Request) (s : State), requestOf c = some r → c.wellFormed = true →
    (s.port r.port).receiver = .hunting →
    execAll (r.frame.map (Instr.managementPortByte r.port)) s = exec c s ∧
    (∀ x y : Byte, [x, y] ≠ r.frame.drop (r.body.length + 4) →
      execAll ((r.frame.take (r.body.length + 4) ++ [x, y]).map (Instr.managementPortByte r.port)) s
        = .next s)

/-- The first three cases of R176, for every request: BUSY with no other effect while a restart is
pending or a request is held, else discarded without a reply and counted while the queue is full. -/
def Obligations.RequestsNotTaken : Prop :=
  (∀ (c : Instr) (r : Request) (s : State), requestOf c = some r →
      (s.mgp.restartPending = true ∨ (s.port r.port).held ≠ none) →
      exec c s = .next ((s.setPort r.port { s.port r.port with receiver := .hunting }).handReply r.port
        { kind := r.kind ||| 0x80#8, tag := r.tag, body := [8#8], endsHold := false })) ∧
  (∀ (c : Instr) (r : Request) (s : State), requestOf c = some r →
      s.mgp.restartPending = false → (s.port r.port).held = none → 16 ≤ (s.port r.port).queue.length →
      exec c s = .next (s.setPort r.port { s.port r.port with
        receiver := .hunting, dropped := min 255 ((s.port r.port).dropped + 1) }))

/-- Checks 1 to 3 of R177, for every request kind: a kind that is none is answered UNKNOWN, another
body length MALFORMED, and a first field that names no thing MALFORMED, each with the result byte
alone and the kind's top bit set; nothing else changes. -/
def Obligations.StructureOfRequestsChecked : Prop :=
  (∀ (c : Instr) (r : Request) (n : Nat) (s : State), requestOf c = some r → c.wellFormed = true →
      Accepts s r.port → requestLength r.kind = some n → r.body.length ≠ n →
      exec c s = .next ((s.taken r.port r.kind r.tag).handReply r.port
        { kind := r.kind ||| 0x80#8, tag := r.tag, body := [3#8], endsHold := true })) ∧
  (∀ (c : Instr) (r : Request) (s : State), requestOf c = some r → c.wellFormed = true →
      Accepts s r.port → requestLength r.kind = some r.body.length →
      namesThing r.kind (field r.body 0 1) = false →
      exec c s = .next ((s.taken r.port r.kind r.tag).handReply r.port
        { kind := r.kind ||| 0x80#8, tag := r.tag, body := [3#8], endsHold := true })) ∧
  (∀ (p : Port) (kind tag : Byte) (body : List Byte) (s : State), Accepts s p →
      exec (.unknownRequest p kind tag body) s = .next ((s.taken p kind tag).handReply p
        { kind := kind ||| 0x80#8, tag := tag, body := [2#8], endsHold := true }))

/-! ## The part: modes, summary, domain, resets -/

/-- READ SUMMARY (R183), READ RACK (R94) and READ WINDOW (R114) are answered DONE with the part
summary, the rack snapshot and the window reply, and change nothing else; the seven counts of rack
states of the summary sum to 40. -/
def Obligations.ReadsOfThePart : Prop :=
  (∀ (p : Port) (tag : Byte) (s : State), Accepts s p →
      s.tsu.era < 65536 → s.sdu.journal.length ≤ 2048 → s.cru.list.length ≤ 64 →
      s.sdu.waitOuts.length ≤ 16 → s.mgp.portA.dropped ≤ 255 → s.mgp.portB.dropped ≤ 255 →
      ∃ b : List Byte,
        exec (.readSummary p tag []) s =
          .next ((s.taken p 0x01#8 tag).replied p 0x01#8 tag .done b) ∧
        b.length = 21 ∧ field b 0 1 = s.mgp.mode.code ∧ field b 1 1 = s.rdu.tsState.code ∧
        field b 2 2 = s.tsu.era ∧
        (∀ x : RackState, field b (4 + x.code) 1 =
          (allLinks.filter (fun l => decide ((s.entry l).state = x))).length) ∧
        field b 4 1 + field b 5 1 + field b 6 1 + field b 7 1 + field b 8 1 + field b 9 1 +
          field b 10 1 = 40 ∧
        field b 11 2 = s.sdu.journal.length ∧ field b 13 1 = s.sdu.journalFull.toNat ∧
        field b 14 1 = s.cru.list.length ∧ field b 15 1 = s.cru.reserved.isSome.toNat ∧
        field b 16 1 = s.sdu.waitOuts.length ∧ field b 17 1 = s.sdu.share .a ∧
        field b 18 1 = s.sdu.share .b ∧ field b 19 1 = s.mgp.portA.dropped ∧
        field b 20 1 = s.mgp.portB.dropped) ∧
  (∀ (p : Port) (tag : Byte) (l : Link) (first : Fin 8) (s : State), Accepts s p →
    (exec (.readRack p tag (byteOf l.val)) s =
        .next ((s.taken p 0x34#8 tag).replied p 0x34#8 tag .done (s.rackSnapshot l)) ∧
      (s.rackSnapshot l).length = 113 ∧ field (s.rackSnapshot l) 0 1 = l.val ∧
      field (s.rackSnapshot l) 1 1 = (s.link l).state.code ∧
      field (s.rackSnapshot l) 2 1 = (s.entry l).state.code) ∧
    exec (.readWindow p tag (byteOf l.val ++ byteOf first.val)) s =
      .next ((s.taken p 0x35#8 tag).replied p 0x35#8 tag .done (s.windowReply l first.val)) ∧
    (s.windowReply l first.val).length = 239 ∧ field (s.windowReply l first.val) 0 1 = l.val ∧
    (s.rtmEra < 65536 → field (s.windowReply l first.val) 3 2 = s.rtmEra) ∧
    ((s.entry l).window.length ≤ 8 →
      field (s.windowReply l first.val) 5 1 = (s.entry l).window.length))

/-- SERVE (R80, R180): the mode becomes SERVING; a link with no held HELLO, or that is not UP, is left
as it was; SERVE in SERVING leaves every link, entry and setting as it was. From SETUP, with every
entry IDLE, the held HELLO of each UP link is judged by the four checks in order (R77), in increasing
link number: an identity that a lower-numbered link has just taken makes it a duplicate, the first
failing check quarantines it with a DISMISS, and one that passes attaches with a WELCOME and a
PROBE. -/
def Obligations.ServeRequest : Prop :=
  (∀ (p : Port) (tag : Byte) (s : State), Accepts s p → ∃ t : State,
    exec (.serve p tag []) s = .next (t.replied p 0x02#8 tag .done t.partSummary) ∧
    SameCore { s.taken p 0x02#8 tag with
      mgp := { (s.taken p 0x02#8 tag).mgp with mode := .serving } } t ∧
    (∀ l, s.mgp.mode = .serving ∨ (s.link l).state ≠ .up ∨ (s.entry l).heldHello = none →
      SameAt l s t)) ∧
  (∀ (p : Port) (tag : Byte) (s : State), Accepts s p → s.mgp.mode = .setup →
    (∀ l, (s.entry l).state = .idle ∧ FlagsMatch s l ∧ (s.link l).txQueue.length ≤ 30) →
    ∃ t : State, exec (.serve p tag []) s = .next (t.replied p 0x02#8 tag .done t.partSummary) ∧
    ∀ (l : Link) (h : Hello), (s.link l).state = .up → (s.entry l).heldHello = some h →
      let id := h.identity.toNat
      let duplicate := ∃ m : Link, m.val < l.val ∧ (t.entry m).state = .attaching ∧
        (t.entry m).identity = some id
      (t.entry l).heldHello = some h ∧
      (∀ q, FirstFailure s l h duplicate q →
        (t.entry l).state = .quarantined ∧ (t.entry l).quarantineReason = some q ∧
        (t.entry l).claimed = some id ∧ (t.entry l).identity = none ∧
        (t.link l).txQueue = (s.link l).txQueue ++ [.dismiss q]) ∧
      (¬ TwinHello s h → ¬ StrayHello s l h → ¬ duplicate → (s.entry l).isolate = false →
        (t.entry l).state = .attaching ∧ (t.entry l).identity = some id ∧
        (t.entry l).trimGeneration = h.generation.toNat ∧ (t.entry l).welcomeOwed = true ∧
        (t.entry l).current = none ∧ (t.entry l).window = [] ∧
        (t.entry l).lastAccepted = some s.osc ∧
        (t.entry l).probe = some { number := 0, departure := none } ∧
        (t.link l).txQueue = (s.link l).txQueue ++
          [.welcome s.mgp.domainId s.mgp.domainInstance s.tsu.era h.generation.toNat, .probe 0]))

/-- HALT (R181): the mode becomes SETUP; from SERVING every entry is IDLE with no probe and no trim
in flight and its held HELLO and settings kept, and every drift record is reset. Its active drift
conditions and the RACK conditions of the state it leaves are cleared (log entry 37: the model's
reading). -/
def Obligations.HaltRequest : Prop :=
  ∀ (p : Port) (tag : Byte) (s : State), Accepts s p → ∃ t : State,
    exec (.halt p tag []) s = .next (t.replied p 0x03#8 tag .done t.partSummary) ∧
    SameCore { s.taken p 0x03#8 tag with
      mgp := { (s.taken p 0x03#8 tag).mgp with mode := .setup } } t ∧
    (s.mgp.mode = .setup → ∀ l, SameAt l s t) ∧
    (s.mgp.mode = .serving → ∀ l,
      t.link l = s.link l ∧ (t.entry l).state = .idle ∧ (t.entry l).identity = none ∧
      (t.entry l).probe = none ∧ (t.entry l).trim = none ∧ (t.entry l).window = [] ∧
      (t.entry l).current = none ∧ (t.entry l).heldHello = (s.entry l).heldHello ∧
      (t.entry l).settings = (s.entry l).settings ∧
      (t.driftOf l).level = .normal ∧ (t.driftOf l).notified = .idle ∧
      t.cru.isActive .driftWatch (.link l) = false ∧ t.cru.isActive .driftAlarm (.link l) = false ∧
      ((s.entry l).state = .coasting → t.cru.isActive .rackCoasting (.link l) = false) ∧
      ((s.entry l).state = .lost → t.cru.isActive .rackLost (.link l) = false))

/-- SET DOMAIN (R184): the two values replaced in SETUP and refused WRONG_MODE in SERVING, with the
values in force in the reply; where the domain is read, each WELCOME and the twin-domain check; 0 at
cold reset; kept by warm restart, HALT and SERVE. -/
def Obligations.DomainRequest : Prop :=
  (∀ (p : Port) (tag : Byte) (id inst : Nat) (s : State), Accepts s p → id < 65536 →
      inst < 4294967296 →
      (s.mgp.mode = .setup →
        exec (.setDomain p tag (beBytes 2 id ++ beBytes 4 inst)) s = .next
          (((s.taken p 0x30#8 tag).setMgp { (s.taken p 0x30#8 tag).mgp with
              domainId := id, domainInstance := inst }).replied p 0x30#8 tag .done
            (beBytes 2 id ++ beBytes 4 inst))) ∧
      (s.mgp.mode = .serving →
        exec (.setDomain p tag (beBytes 2 id ++ beBytes 4 inst)) s = .next
          ((s.taken p 0x30#8 tag).replied p 0x30#8 tag .wrongMode
            (beBytes 2 s.mgp.domainId ++ beBytes 4 s.mgp.domainInstance)))) ∧
  (∀ (l : Link) (h : Hello) (s : State),
      s.handWelcome l = s.handFrame l (.welcome s.mgp.domainId s.mgp.domainInstance s.tsu.era
        (s.entry l).trimGeneration) ∧
      (s.helloFailure l h = some .twinDomain ↔ TwinHello s h)) ∧
  (∀ (p : Port) (tag : Byte) (s t : State),
      (∀ x y, exec (.coldReset x y) s = .next t →
        t.mgp.domainId = 0 ∧ t.mgp.domainInstance = 0) ∧
      (exec .warmRestart s = .next t ∨ exec (.serve p tag []) s = .next t ∨
          exec (.halt p tag []) s = .next t →
        t.mgp.domainId = s.mgp.domainId ∧ t.mgp.domainInstance = s.mgp.domainInstance))

/-- RESTART (R182) makes restart pending, is answered DONE with no body and changes nothing else. Warm
restart as that reply ends (R182, R41, R52, R73, R96, R127, R157, R173): what each block holds after
it, the step notices not yet taken among it, which the model keeps (log entry 21: its own reading);
the epoch outputs run on, and only a schedule squelched in the new timescale state holds both idle;
and every parked wait-out ends ABORTED, in list order, on the port that sent it, with a reply in
transmission on the other port completed and nothing else left to send. -/
def Obligations.WarmRestartTaken : Prop :=
  (∀ (p : Port) (tag : Byte) (s : State), Accepts s p →
      exec (.restart p tag []) s = .next
        (((s.taken p 0x04#8 tag).setMgp
            { (s.taken p 0x04#8 tag).mgp with restartPending := true }).replied p 0x04#8 tag .done
          [])) ∧
  (∀ (s : State) (p : Port), s.restartPort = some p → ∃ t : State,
      exec .warmRestart s = .next t ∧
      t.osc = s.osc ∧ t.tsu = s.tsu ∧ t.rtmEra = s.rtmEra ∧
      EpgFollows s.epg t.rdu.tsState t.epg ∧
      t.mgp.mode = .setup ∧ t.mgp.restartPending = false ∧ t.mgp.domainId = s.mgp.domainId ∧
      t.mgp.domainInstance = s.mgp.domainInstance ∧ t.mgp.lineRate = s.mgp.lineRate ∧
      t.rdu.tsState = s.rdu.tsState.warm ∧ t.rdu.integral = s.rdu.integral ∧
      t.rdu.selected = none ∧ t.rdu.candidate = none ∧ t.rdu.settings = s.rdu.settings ∧
      (t.rdu.lockCount, t.rdu.unlockCount, t.rdu.clampCount) = (0, 0, 0) ∧
      (s.rdu.tsState = .locked → t.rdu.holdoverStart = some s.osc) ∧
      (∀ r, (t.ref r).enable = (s.ref r).enable ∧ (t.ref r).priority = (s.ref r).priority ∧
        ((s.ref r).state ≠ .off → (t.ref r).state = .waiting ∧ (t.ref r).previousMark = none ∧
          (t.ref r).heldLabel = none ∧ (t.ref r).missingDeadline = none)) ∧
      (∀ l, (t.link l).enable = (s.link l).enable ∧
        (t.link l).state = (if (s.link l).enable then .down else .disabled) ∧
        (t.link l).txQueue = [] ∧ (t.link l).inTx = none ∧ (t.link l).errorTimes = [] ∧
        (t.link l).errorFlag = false ∧
        (t.entry l).state = .idle ∧ (t.entry l).heldHello = none ∧
        (t.entry l).degrade = false ∧ (t.entry l).isolate = false ∧
        (t.entry l).settings = (s.entry l).settings ∧
        (t.driftOf l).level = .normal ∧ (t.driftOf l).notified = .idle) ∧
      t.sdu.journal = [] ∧ t.sdu.nextSequence = 0 ∧ t.sdu.journalFull = false ∧ t.sdu.waitOuts = [] ∧
      t.sdu.windows = s.sdu.windows ∧ t.sdu.classes = s.sdu.classes ∧
      (∃ r, t.cru.list = [r] ∧ r.kind = .restarted ∧ r.details.era = some s.tsu.era) ∧
      t.cru.reserved = none ∧ t.cru.active = [] ∧ t.cru.actions = s.cru.actions ∧
      t.cru.maskA = s.cru.maskA ∧ t.cru.maskB = s.cru.maskB ∧
      t.cru.attnA = .low ∧ t.cru.attnB = .low) ∧
  (∀ (s : State) (p : Port), s.restartPort = some p → s.sdu.waitsFit → ∃ t : State,
      exec .warmRestart s = .next t ∧
      ∀ q : Port, (t.port q).receiver = .hunting ∧ (t.port q).held = none ∧ (t.port q).dropped = 0 ∧
        (t.port q).replies = (if q = p then [] else (s.port q).inTx.toList) ++
          (s.sdu.waitOuts.filter (fun w => decide (w.port = q))).map (fun w =>
            { kind := 0xC3#8, tag := w.tag, body := 11#8 :: List.replicate 15 0#8, endsHold := false }))

/-- Cold reset on the reference discipline unit (R40): both references and every counter, and the
default settings. -/
def Obligations.ColdResetOfTheDiscipline : Prop :=
  ∀ (baud1 baud0 : Bool) (s : State), ∃ t : State, exec (.coldReset baud1 baud0) s = .next t ∧
    (∀ r, (t.ref r).state = .off ∧ (t.ref r).enable = false ∧ (t.ref r).priority = 0 ∧
      (t.ref r).previousMark = none ∧ (t.ref r).heldLabel = none ∧
      (t.ref r).missingDeadline = none ∧
      ((t.ref r).goodRun, (t.ref r).badRun, (t.ref r).outlierRun) = (0, 0, 0)) ∧
    t.rdu.selected = none ∧ t.rdu.candidate = none ∧ t.rdu.integral = 0 ∧
    (t.rdu.lockCount, t.rdu.unlockCount, t.rdu.clampCount) = (0, 0, 0) ∧
    t.rdu.holdoverStart = none ∧ t.rdu.tsState = .free ∧
    t.rdu.settings = { p := 400, q := 20, stepThreshold := 100000, lockWindow := 1000,
                       outlierGate := 10000, holdoverLimit := 14400 } ∧
    t.tsu.uLock = 100 ∧ t.tsu.holdoverBound = 50 ∧ t.cru.list = [] ∧ t.cru.reserved = none

/-- Cold reset of the other blocks (R2, R51, R73, R96, R115, R127, R157, R173, R185): what the part
holds after it, whatever it held before. Four points of that state are the model's choice: lane
activity absent on every link (log entry 27), the values of the model's own fields (log entry 26), and
the queue of commands and the counter of choices kept (log entries 1 and 2). -/
def Obligations.ColdResetOfThePart : Prop :=
  ∀ (baud1 baud0 : Bool) (s : State), ∃ t : State, exec (.coldReset baud1 baud0) s = .next t ∧
    t = { State.reset with
            mgp := { Mgp.cold with lineRate := t.mgp.lineRate }
            choices := s.choices, pending := s.pending } ∧
    t.mgp.lineRate =
      (if baud1 then 3000000 else if baud0 then 921600 else 115200) ∧
    t.osc = 0 ∧ t.tsu.inForce = { anchorO := 0, anchorH := 0, rate := 0, era := 0 } ∧
    t.tsu.older = [] ∧ t.tsu.pendingRate = none ∧ t.epg.running = false ∧ t.epg.squelched = true ∧
    t.epg.nextBoundary = 1000000000 ∧ t.epg.epa = .low ∧ t.epg.epb = .low ∧
    (∀ l, (t.link l).state = .disabled ∧ (t.link l).rangeFirst = l.val ∧
      (t.link l).rangeLast = l.val ∧ (t.entry l).state = .idle ∧ (t.driftOf l).level = .normal) ∧
    t.sdu.journal = [] ∧ t.sdu.waitOuts = [] ∧ t.cru.active = [] ∧ t.cru.repostInterval = 60 ∧
    t.cru.attnA = .high ∧ t.cru.attnB = .high ∧ t.mgp.mode = .setup ∧
    t.mgp.domainId = 0 ∧ t.mgp.domainInstance = 0 ∧
    (∀ p, (t.port p).replies = [] ∧ (t.port p).held = none ∧ (t.port p).dropped = 0 ∧
      (t.port p).receiver = .hunting)

/-! ## Hall time (chapter 1) -/

/-- R2: within one segment hall time advances by 0, 1 or 2 ns for each nanosecond of O and does not
decrease, for every rate in range (R3). R6: the target second is the least multiple of 1,000,000,000
strictly above the hall time of the write, or the wrap where no such multiple is left below 2^64, which
is held as 2^64 itself (log entry 6: the model's reading). -/
def Obligations.HallTimeAndTargetSecond : Prop :=
  (∀ (g : Segment) (o : Nat), rateInRange g.rate →
      g.raw o ≤ g.raw (o + 1) ∧ g.raw (o + 1) ≤ g.raw o + 2) ∧
  (∀ h : Nat, h < 18446744073709551616 →
      h < nextSecondGoal h ∧
      (∀ m, h < m → m % 1000000000 = 0 → m < 18446744073709551616 → nextSecondGoal h ≤ m) ∧
      ((nextSecondGoal h % 1000000000 = 0 ∧ nextSecondGoal h < 18446744073709551616) ∨
        (nextSecondGoal h = 18446744073709551616 ∧ 18446744073000000000 ≤ h)))

/-- R7: the boundary instant is the least oscillator nanosecond at or after the anchor at which the
hall time of the segment, before the modulo of R18, is at or above the target second. There the
pending rate opens a segment anchored at the target second, the old segment is retired, the era
stands, and nothing else changes. The command presented before it changes nothing (log entry 10), and
the target second is held without the modulo (log entry 6): both the model's choice. -/
def Obligations.RateBoundary : Prop :=
  (∀ (g : Segment) (goal : Nat), rateInRange g.rate → g.anchorH ≤ goal →
      g.anchorO ≤ g.firstReach goal ∧ (goal : Int) ≤ g.raw (g.firstReach goal) ∧
      ∀ o, g.anchorO ≤ o → (goal : Int) ≤ g.raw o → g.firstReach goal ≤ o) ∧
  (∀ (s : State) (x : PendingRate), s.tsu.pendingRate = some x →
      (s.osc < s.tsu.inForce.firstReach x.goal → exec .rateBoundary s = .next s) ∧
      (s.tsu.inForce.firstReach x.goal ≤ s.osc → exec .rateBoundary s = .next
        { s with tsu := { s.tsu with
            inForce :=
              { anchorO := s.tsu.inForce.firstReach x.goal
                anchorH := x.goal % 18446744073709551616
                rate := x.rate
                era := s.tsu.era }
            older := (s.tsu.inForce :: s.tsu.older).take 3
            pendingRate := none } }))

/-- The hall uncertainty by timescale state (R13, R14), and READ TIME (R15): one snapshot, answered
DONE in every state, and nothing else changes. At or after a boundary instant whose event is not yet
taken the hall time is that of the segment it opens; the rate in force and the pending rate shown at the
boundary instant itself are those before it, as the READ TIME is taken first (log entry 31: the model's
readings). -/
def Obligations.ReadTimeAndUncertainty : Prop :=
  (∀ s : State,
      (s.rdu.tsState = .locked → s.uHall = some s.tsu.uLock) ∧
      (s.rdu.tsState = .free ∨ s.rdu.tsState = .acquiring → s.uHall = some 4294967295) ∧
      (s.rdu.tsState = .failed → s.uHall = none) ∧
      (∀ start, s.rdu.tsState = .holdover → s.rdu.holdoverStart = some start → start ≤ s.osc →
        s.uHall = some (min 4294967295
          (s.tsu.uLock + ((s.osc - start) * s.tsu.holdoverBound + 999999999) / 1000000000)))) ∧
  (∀ (p : Port) (tag : Byte) (s : State), Accepts s p → s.tsu.ratesInRange →
      s.osc < 18446744073709551616 → s.readNow.era < 65536 → ∃ b : List Byte,
      exec (.readTime p tag []) s = .next ((s.taken p 0x10#8 tag).replied p 0x10#8 tag .done b) ∧
      b.length = 32 ∧ field b 0 8 = s.osc ∧ field b 8 8 = s.readNow.hall ∧
      field b 16 2 = s.readNow.era ∧ field b 18 1 = s.rdu.tsState.code ∧
      field b 19 1 = s.shownUHall.isSome.toNat +
        2 * (s.tsu.settledBefore s.osc).pendingRate.isSome.toNat ∧
      field b 20 4 = s.shownUHall.getD 0 ∧
      fieldInt b 24 4 = (s.tsu.settledBefore s.osc).inForce.rate ∧
      fieldInt b 28 4 = (((s.tsu.settledBefore s.osc).pendingRate.map (fun x => x.rate)).getD 0) ∧
      (s.shownUHall = if s.declaresTime then s.uHall.filter (fun u => decide (u < 4294967295))
        else none))

/-- SET RATE (R16): in FREE the clamped value becomes the pending rate with its target second (R6),
and the segment in force stands; in any other state it is refused and changes nothing. Two points are
the model's choice: a boundary whose instant has been reached and whose event has not been taken is
opened first (log entry 31), and the target second is held without the modulo (log entry 6). -/
def Obligations.SetRateRequest : Prop :=
  ∀ (p : Port) (tag : Byte) (v : Int) (s : State), Accepts s p →
    -2147483648 ≤ v → v < 2147483648 →
    (s.rdu.tsState = .free →
      exec (.setRate p tag (beInt 4 v)) s = .next
        (((s.taken p 0x11#8 tag).setTsu { s.tsu.settledTo s.osc with
            pendingRate := some
              { rate := max (-100000000) (min 100000000 v)
                goal := nextSecondGoal ((s.tsu.settledTo s.osc).inForce.raw s.osc).toNat } }).replied
          p 0x11#8 tag (if -100000000 ≤ v ∧ v ≤ 100000000 then .done else .doneClamped)
          (beInt 4 (max (-100000000) (min 100000000 v))))) ∧
    (s.rdu.tsState ≠ .free →
      exec (.setRate p tag (beInt 4 v)) s = .next
        ((s.taken p 0x11#8 tag).replied p 0x11#8 tag .wrongState [0#8, 0#8, 0#8, 0#8]))

/-- STEP TIME (R17, R9 to R12): in FREE, and with a result within 0 to 2^64 − 1, a new segment opens
now at H_now + S with the rate in force, the era rises by one, a pending rate gets a new target
second, the three notices are given and HALL_STEP is posted; otherwise it is refused with a zero
body and changes nothing. A boundary whose instant has passed is opened first, one at the very instant is
not (log entry 31), and the target second is held without the modulo (log entry 6): the model's
readings. -/
def Obligations.StepTimeRequest : Prop :=
  ∀ (p : Port) (tag : Byte) (step : Int) (s : State), Accepts s p →
    -9223372036854775808 ≤ step → step < 9223372036854775808 →
    let before := s.tsu.settledBefore s.osc
    let target : Int := (before.inForce.hall s.osc : Int) + step
    (s.rdu.tsState = .free → 0 ≤ target → target < 18446744073709551616 →
      ∃ t : State,
        exec (.stepTime p tag (beInt 8 step)) s = .next
          (t.replied p 0x12#8 tag .done (beBytes 2 t.tsu.era ++ beBytes 8 target.toNat)) ∧
        t.tsu.era = (s.tsu.era + 1) % 65536 ∧
        t.tsu.inForce = { anchorO := s.osc, anchorH := target.toNat, rate := before.inForce.rate,
                          era := (s.tsu.era + 1) % 65536 } ∧
        t.tsu.older = (before.inForce :: before.older).take 3 ∧
        t.tsu.pendingRate = before.pendingRate.map (fun x =>
          { rate := x.rate, goal := nextSecondGoal target.toNat }) ∧
        (∃ n : StepNotice, n.step = step ∧ n.era = t.tsu.era ∧ n.takenAt = s.osc ∧
          (n.anchorH : Int) = target ∧ t.tsu.rtmNotices = s.tsu.rtmNotices ++ [n] ∧
          t.tsu.sduNotices = s.tsu.sduNotices ++ [n] ∧ t.tsu.epgNotices = s.tsu.epgNotices ++ [n]) ∧
        (s.cru.list.length < 64 → ∃ r ∈ t.cru.list, r.kind = .hallStep ∧
          r.details.step = some step ∧ r.details.era = some t.tsu.era ∧ r.posted.era = t.tsu.era) ∧
        t.rdu = s.rdu ∧ t.epg = s.epg ∧ t.sdu = s.sdu ∧ t.mgp = (s.taken p 0x12#8 tag).mgp ∧
        ClockOnly (s.taken p 0x12#8 tag) t) ∧
    (s.rdu.tsState = .free → (target < 0 ∨ 18446744073709551616 ≤ target) →
      exec (.stepTime p tag (beInt 8 step)) s = .next
        ((s.taken p 0x12#8 tag).replied p 0x12#8 tag .range (List.replicate 10 0#8))) ∧
    (s.rdu.tsState ≠ .free →
      exec (.stepTime p tag (beInt 8 step)) s = .next
        ((s.taken p 0x12#8 tag).replied p 0x12#8 tag .wrongState (List.replicate 10 0#8)))

/-- The step notice taken by the rack time manager (R112): the RTM era, and for every entry in
service the offsets of both estimates less S, an empty window and S added to the step owed, where a sum
of 0 stays owed (log entry 18: the model's reading); a step of zero changes no step owed; the other
entries stand. -/
def Obligations.RtmTakesStepNotice : Prop :=
  ∀ (s : State) (n : StepNotice) (rest : List StepNotice), s.tsu.rtmNotices = n :: rest →
    (∀ l, (s.link l).txQueue.length < 32) →
    ∃ t : State, exec .rtmStepNotice s = .next t ∧
      t.rtmEra = n.era ∧ t.tsu = { s.tsu with rtmNotices := rest } ∧ t.rdu = s.rdu ∧
      t.epg = s.epg ∧ t.sdu = s.sdu ∧ t.mgp = s.mgp ∧
      ∀ l, (s.inService l = false → SameAt l s t) ∧
        (s.inService l = true →
          (t.entry l).state = (s.entry l).state ∧ (t.entry l).identity = (s.entry l).identity ∧
          (t.entry l).trimGeneration = (s.entry l).trimGeneration ∧ (t.entry l).window = [] ∧
          (t.entry l).current = (s.entry l).current.map (fun x =>
            { x with theta := x.theta - n.step }) ∧
          (t.entry l).predecessor = (s.entry l).predecessor.map (fun x =>
            { x with theta := x.theta - n.step }) ∧
          (n.step = 0 → (t.entry l).stepOwed = (s.entry l).stepOwed) ∧
          (∀ x, n.step ≠ 0 → (s.entry l).stepOwed = some x → (t.entry l).stepOwed =
            some (max (-4611686018427387904) (min 4611686018427387904 (x + n.step)))) ∧
          (n.step ≠ 0 → (s.entry l).stepOwed = none → (t.entry l).stepOwed = some n.step))

/-- The step notice taken by the stamp dating unit (R155): every wait-out of another era leaves the
list, in list order, with a STEPPED reply. And by the epoch pulse generator (R50): pulses end, both
outputs are idle, and the next boundary and next second are reckoned from the new anchor in the new
era; nothing changes when the reading of that era has already been taken as the step. A wrap of hall
time (R50, R155), a reading lower than the one before it in the same era, ends the pulses and
reckons the edges afresh, and completes every wait-out STEPPED. The timescale state of a STEPPED reply
(log entry 39) and the reading that wraps are judged against (log entry 26) are the model's own. -/
def Obligations.StepNoticesAndWrapsTaken : Prop :=
  ((∀ (s : State) (n : StepNotice) (rest : List StepNotice), s.tsu.sduNotices = n :: rest →
        ∃ t : State, exec .sduStepNotice s = .next t ∧
          t.tsu = { s.tsu with sduNotices := rest } ∧
          t.sdu = { s.sdu with waitOuts := s.sdu.waitOuts.filter (fun w => decide (w.era = n.era)) } ∧
          t.rdu = s.rdu ∧ t.epg = s.epg ∧ t.cru = s.cru ∧ ClockOnly s t ∧
          ∀ q, (s.port q).queue.length + s.sdu.share q ≤ 16 →
            (t.port q).replies = (s.port q).replies ++ waitReplies q .stepped
              (waitReply n.anchorH n.era 0 s.rdu.tsState)
              (s.sdu.waitOuts.filter (fun w => decide (w.era ≠ n.era)))) ∧
    (∀ (s : State) (n : StepNotice) (rest : List StepNotice), s.tsu.epgNotices = n :: rest →
        ∃ t : State, exec .epgStepNotice s = .next t ∧
          t = { s with tsu := { s.tsu with epgNotices := rest }, epg := t.epg } ∧
          (s.epg.alignEra ≠ n.era → s.epg.alignEra ≠ s.tsu.era →
            t.epg = { s.epg with
              epa := s.epg.schedule.epaIdle, epb := s.epg.schedule.epbIdle, epaPulse := none,
              epbPulse := none, epbCarried := none, complementDue := none, alignEra := n.era,
              nextBoundary := s.epg.schedule.firstBoundary n.anchorH,
              nextSecond := firstSecond n.anchorH }) ∧
          (s.epg.alignEra = n.era → t.epg = s.epg))) ∧
  (∀ s : State,
      (s.readNow.era = s.epg.alignEra → s.readNow.era = s.epg.lastReading.era →
        s.readNow.hall < s.epg.lastReading.hall →
        exec .epgWrap s = .next (s.setEpg { s.epg with
          epa := s.epg.schedule.epaIdle, epb := s.epg.schedule.epbIdle, epaPulse := none,
          epbPulse := none, epbCarried := none, complementDue := none,
          nextBoundary := s.epg.schedule.firstBoundary s.readNow.hall,
          nextSecond := firstSecond s.readNow.hall, lastReading := s.readNow })) ∧
      (s.readNow.era = s.sdu.lastReading.era → s.readNow.hall < s.sdu.lastReading.hall →
        ∃ t : State, exec .waitOutWrap s = .next t ∧
          t.sdu = { s.sdu with waitOuts := [], lastReading := s.readNow } ∧ t.tsu = s.tsu ∧
          t.rdu = s.rdu ∧ t.epg = s.epg ∧ t.cru = s.cru ∧ ClockOnly s t ∧
          ∀ q, (s.port q).queue.length + s.sdu.share q ≤ 16 →
            (t.port q).replies = (s.port q).replies ++ waitReplies q .stepped
              (waitReply s.readNow.hall s.readNow.era 0 s.rdu.tsState) s.sdu.waitOuts))

/-! ## References and discipline (chapter 2) -/

/-- A mark arrival (R19, R21, R23, R24), whatever its class: an OFF reference ignores it; otherwise
the previous mark, the missing deadline and the held label are set, and the other reference's record
stands; what a change of timescale state does to the epoch outputs, the wait-outs (log entry 40) and the
list follows (R37, R49, R156). Then the runs and states of the reference, for one that is not QUALIFIED
and for BAD marks of one that is, and the selection judged as it enters or leaves QUALIFIED (R25), with
the move of the timescale that follows (R29, R34, R35). -/
def Obligations.MarkArrivals : Prop :=
  (∀ (r : RefId) (captured : Nat) (s : State), ∃ t : State,
      exec (.markArrival r captured) s = .next t ∧ ClockOnly s t ∧ TimescaleMoved s t ∧
      t.ref (otherRef r) = s.ref (otherRef r) ∧
      ((s.ref r).state = .off →
        t.rdu = s.rdu ∧ t.tsu = s.tsu ∧ t.epg = s.epg ∧ t.sdu = s.sdu ∧ t.mgp = s.mgp) ∧
      ((s.ref r).state ≠ .off →
        (t.ref r).previousMark = some captured ∧ (t.ref r).heldLabel = none ∧
        (t.ref r).missingDeadline = some (captured + 1500000000))) ∧
  (∀ (r : RefId) (captured : Nat) (s : State), ∃ t : State,
      exec (.markArrival r captured) s = .next t ∧
      ((s.ref r).classify captured = .opening →
        (t.ref r).state = (s.ref r).state ∧ (t.ref r).goodRun = (s.ref r).goodRun ∧
        (t.ref r).badRun = (s.ref r).badRun) ∧
      (∀ second, (s.ref r).classify captured = .good second →
        ((s.ref r).state = .waiting → (t.ref r).state = .qualifying ∧ (t.ref r).goodRun = 1) ∧
        ((s.ref r).state = .qualifying → (s.ref r).goodRun < 3 →
          (t.ref r).state = .qualifying ∧ (t.ref r).goodRun = (s.ref r).goodRun + 1) ∧
        ((s.ref r).state = .qualifying → 3 ≤ (s.ref r).goodRun →
          (t.ref r).state = .qualified ∧ (t.ref r).badRun = 0 ∧ SelectionJudged s t)) ∧
      ((s.ref r).classify captured = .bad →
        ((s.ref r).state = .waiting → (t.ref r).state = .waiting) ∧
        ((s.ref r).state = .qualifying → (t.ref r).state = .waiting ∧ (t.ref r).goodRun = 0) ∧
        ((s.ref r).state = .qualified → (s.ref r).badRun < 2 →
          (t.ref r).state = .qualified ∧ (t.ref r).badRun = (s.ref r).badRun + 1) ∧
        ((s.ref r).state = .qualified → 2 ≤ (s.ref r).badRun →
          (t.ref r).state = .waiting ∧
          ((t.ref r).goodRun, (t.ref r).badRun, (t.ref r).outlierRun) = (0, 0, 0) ∧
          SelectionJudged s t)))

/-- The servo run on a GOOD, non-stale mark of the selected reference (R27, R28, R30, R32): the
integral term, the rate written to the pending rate, the three counters and the runs, the move to
FAILED, LOCKED or ACQUIRING that follows, and what that move does to the epoch outputs and the wait-outs
(R37, R49, R156). FAILED is entered too where the unlock counter reaches 8 in the same run (log entry
33), a run in ACQUIRING leaves the outlier run (log entry 34), and the UNTIMED replies carry a u_hall of 0
(log entry 40): the model's choices. A GOOD mark of the candidate (R26) is acted on as a mark of the
selected reference, which the candidate becomes first. -/
def Obligations.ServoRunOnGoodMark : Prop :=
  (∀ (r : RefId) (captured second : Nat) (s : State), SelectedGoodMark s r captured second →
    let e := phaseError s captured second
    let d := s.rdu.settings
    let i := max (-100000000) (min 100000000 (s.rdu.integral + e * d.q))
    let clamps := if i = 100000000 ∨ i = -100000000 then s.rdu.clampCount + 1 else 0
    ((s.rdu.tsState = .locked ∧ e.natAbs ≤ d.outlierGate) ∨
      (s.rdu.tsState = .acquiring ∧ (d.stepThreshold = 0 ∨ e.natAbs ≤ d.stepThreshold))) →
    let close := e.natAbs ≤ d.lockWindow
    ∃ t : State, exec (.markArrival r captured) s = .next t ∧ TimescaleMoved s t ∧
      t.rdu.integral = i ∧ t.rdu.clampCount = clamps ∧ (t.ref r).badRun = 0 ∧
      t.tsu = s.tsu.writeRate s.osc (max (-100000000) (min 100000000 (i + e * d.p))) ∧
      (8 ≤ clamps → t.rdu.tsState = .failed ∧ t.rdu.holdoverStart = none) ∧
      (clamps < 8 → s.rdu.tsState = .acquiring →
        (t.rdu.tsState = .locked ↔ e.natAbs ≤ d.lockWindow ∧ 7 ≤ s.rdu.lockCount)) ∧
      (clamps < 8 → s.rdu.tsState = .locked →
        (t.rdu.tsState = .acquiring ↔ d.lockWindow < e.natAbs ∧ 7 ≤ s.rdu.unlockCount)) ∧
      (s.rdu.tsState = .acquiring → (t.ref r).outlierRun = (s.ref r).outlierRun ∧
        (t.rdu.lockCount, t.rdu.unlockCount) = if t.rdu.tsState = .locked then (0, 0)
          else (if close then s.rdu.lockCount + 1 else 0, s.rdu.unlockCount)) ∧
      (s.rdu.tsState = .locked → (t.ref r).outlierRun = 0 ∧
        (t.rdu.lockCount, t.rdu.unlockCount) = if t.rdu.tsState = .acquiring then (0, 0)
          else (s.rdu.lockCount, if close then 0 else s.rdu.unlockCount + 1))) ∧
  (∀ (r : RefId) (captured second : Nat) (s : State), (s.ref r).state = .qualified →
    (s.ref r).classify captured = .good second → s.rdu.candidate = some r →
    exec (.markArrival r captured) s = exec (.markArrival r captured)
      ((s.setRdu { s.rdu with selected := some r, candidate := none }).clearCond .refOutlier
        (.reference (otherRef r))))

/-- A mark beyond the outlier gate in LOCKED is rejected (R32): no servo run, and the bad run rises;
one beyond the step threshold in ACQUIRING steps hall time by its phase error (R30), or is rejected
where the step is refused (R31). The third rejection in a row, or after bad marks, takes the reference
out of QUALIFIED (R24) and the selection is judged (R25, R34). -/
def Obligations.RejectedAndSteppingMarks : Prop :=
  ∀ (r : RefId) (captured second : Nat) (s : State), SelectedGoodMark s r captured second →
    let e := phaseError s captured second
    let d := s.rdu.settings
    ∃ t : State, exec (.markArrival r captured) s = .next t ∧
      (s.rdu.tsState = .locked → d.outlierGate < e.natAbs → (s.ref r).badRun < 2 →
        t.tsu = s.tsu ∧ t.rdu.integral = s.rdu.integral ∧ t.rdu.tsState = .locked ∧
        t.rdu.unlockCount = s.rdu.unlockCount ∧ (t.ref r).badRun = (s.ref r).badRun + 1 ∧
        (t.ref r).outlierRun = min 255 ((s.ref r).outlierRun + 1)) ∧
      (s.rdu.tsState = .locked → d.outlierGate < e.natAbs → 2 ≤ (s.ref r).badRun →
        (t.ref r).state = .waiting ∧ t.rdu.integral = s.rdu.integral ∧
        ((t.ref r).goodRun, (t.ref r).badRun, (t.ref r).outlierRun) = (0, 0, 0) ∧
        SelectionJudged s t) ∧
      (s.rdu.tsState = .acquiring → d.stepThreshold ≠ 0 → d.stepThreshold < e.natAbs →
        (s.tsu.stepInRange s.osc e = true →
          t.tsu = s.tsu.applyStep s.osc e ∧ t.rdu.lockCount = 0 ∧ t.rdu.unlockCount = 0 ∧
          t.rdu.integral = s.rdu.integral ∧ t.rdu.clampCount = s.rdu.clampCount ∧
          (t.ref r).badRun = 0) ∧
        (s.tsu.stepInRange s.osc e = false → (s.ref r).badRun < 2 →
          t.tsu = s.tsu ∧ t.rdu.lockCount = 0 ∧ (t.ref r).badRun = (s.ref r).badRun + 1) ∧
        (s.tsu.stepInRange s.osc e = false → 2 ≤ (s.ref r).badRun →
          (t.ref r).state = .waiting ∧ t.tsu = s.tsu ∧ t.rdu.lockCount = 0 ∧
          ((t.ref r).goodRun, (t.ref r).badRun, (t.ref r).outlierRun) = (0, 0, 0) ∧
          SelectionJudged s t))

/-- Labels (R20): a record's eleven bytes taken one after the other are the arrival of its label,
and one with another check byte changes nothing; the arriving label is held, or ignored in OFF; an
abandoned record leaves the receiver HUNTING. -/
def Obligations.LabelRecords : Prop :=
  ∀ (r : RefId) (second : BitVec 64) (quality : Byte) (s : State),
    (let content := beBytes 8 second.toNat ++ [quality]
     (s.ref r).state ≠ .off → (s.ref r).receiver = .hunting →
      execAll ((0xA7#8 :: content ++ [labelCheck content]).map (Instr.labelLineByte r)) s =
        exec (.labelArrival r second quality) s ∧
      ∀ x, x ≠ labelCheck content →
        execAll ((0xA7#8 :: content ++ [x]).map (Instr.labelLineByte r)) s = .next s) ∧
    ((s.ref r).state ≠ .off → exec (.labelArrival r second quality) s = .next
      (s.setRef r { s.ref r with
        receiver := .hunting
        heldLabel := some { labelSecond := second.toNat, quality := quality.toNat } })) ∧
    ((s.ref r).state = .off →
      exec (.labelArrival r second quality) s =
        .next (s.setRef r { s.ref r with receiver := .hunting }) ∧
      exec (.labelLineByte r quality) s = .next s) ∧
    ((s.ref r).state ≠ .off → (s.ref r).receiver = .hunting →
      exec (.labelLineByte r quality) s = .next (if quality = 0xA7#8
        then s.setRef r { s.ref r with receiver := .assembling [] s.osc } else s)) ∧
    (∀ bytes last, (s.ref r).receiver = .assembling bytes last →
      exec (.labelRecordAbandoned r .stopBitLow) s =
        .next (s.setRef r { s.ref r with receiver := .hunting }) ∧
      (last + 10000000 ≤ s.osc → exec (.labelRecordAbandoned r .silence) s =
        .next (s.setRef r { s.ref r with receiver := .hunting })))

/-- A missing mark (R22): at the deadline it is declared, the deadline advances by one second, the
previous mark and a held label are kept, and it counts as a bad mark. The holdover limit expires
(R35, R156): the timescale enters FREE, the holdover start is removed, the rates stand, and every
wait-out is completed UNTIMED, its u_hall 0 (log entry 40: the model's choice). A loss of the selected
reference in ACQUIRING (R34) enters FREE with the three counters 0. The expiry presented before its
instant leaves the timescale (log entry 10: the model's choice). -/
def Obligations.MissingMarksAndHoldoverLimit : Prop :=
  (∀ (r : RefId) (d : Nat) (s : State), (s.ref r).state ≠ .off →
      (s.ref r).missingDeadline = some d → d ≤ s.osc →
      ∃ t : State, exec (.missingMark r) s = .next t ∧ ClockOnly s t ∧ TimescaleMoved s t ∧
        (t.ref r).missingDeadline = some (d + 1000000000) ∧
        (t.ref r).previousMark = (s.ref r).previousMark ∧
        (t.ref r).heldLabel = (s.ref r).heldLabel ∧ t.ref (otherRef r) = s.ref (otherRef r) ∧
        ((s.ref r).state = .waiting → (t.ref r).state = .waiting) ∧
        ((s.ref r).state = .qualifying → (t.ref r).state = .waiting ∧ (t.ref r).goodRun = 0) ∧
        ((s.ref r).state = .qualified → (s.ref r).badRun < 2 →
          (t.ref r).state = .qualified ∧ (t.ref r).badRun = (s.ref r).badRun + 1 ∧
          t.rdu.tsState = s.rdu.tsState ∧ t.tsu = s.tsu) ∧
        ((s.ref r).state = .qualified → 2 ≤ (s.ref r).badRun →
          (t.ref r).state = .waiting ∧ (t.ref r).badRun = 0 ∧ SelectionJudged s t ∧
          (s.rdu.tsState = .locked → s.rdu.selected = some r →
            (s.ref (otherRef r)).state ≠ .qualified →
            t.rdu.tsState = .holdover ∧ t.rdu.holdoverStart = some s.osc ∧
            t.tsu = s.tsu.writeRate s.osc s.rdu.integral) ∧
          (s.rdu.tsState = .acquiring → s.rdu.selected = some r →
            (s.ref (otherRef r)).state ≠ .qualified →
            t.rdu.tsState = .free ∧ t.tsu = s.tsu ∧ t.rdu.integral = s.rdu.integral ∧
            (t.rdu.lockCount, t.rdu.unlockCount, t.rdu.clampCount) = (0, 0, 0)))) ∧
  (∀ (start : Nat) (s : State), s.rdu.tsState = .holdover → s.rdu.holdoverStart = some start →
      ∃ t : State, exec .holdoverLimitExpiry s = .next t ∧ ClockOnly s t ∧ t.tsu = s.tsu ∧
        TimescaleMoved s t ∧
        (s.osc < start + s.rdu.settings.holdoverLimit * 1000000000 → t.rdu = s.rdu ∧ t.sdu = s.sdu) ∧
        (start + s.rdu.settings.holdoverLimit * 1000000000 ≤ s.osc →
          t.rdu = { s.rdu with tsState := .free, holdoverStart := none } ∧
          t.sdu = { s.sdu with waitOuts := [] } ∧
          ∀ q, (s.port q).queue.length + s.sdu.share q ≤ 16 →
            (t.port q).replies = (s.port q).replies ++
              waitReplies q .untimed (waitReply 0 s.tsu.era 0 .free) s.sdu.waitOuts))

/-- SET TIMESCALE (R39): the eight values, each clamped to its range and the outlier gate raised to
the lock window, come into force; the reply tells whether any value was changed; the counters, the
integral term and the runs stand. Where a lowered holdover limit enters FREE in the event (R35), the
wait-outs are completed UNTIMED (R156; log entry 40) and their replies are handed before the reply of the
request (log entry 41): the model's choice. -/
def Obligations.SetTimescaleRequest : Prop :=
  ∀ (p : Port) (tag : Byte) (body : List Byte) (s : State), Accepts s p → body.length = 36 →
    let asked : List Nat := [field body 0 4, field body 4 4, field body 8 8, field body 16 4,
      field body 20 4, field body 24 4, field body 28 4, field body 32 4]
    let window := max 1 (min 1000000 (field body 16 4))
    let stored : List Nat := [min 100000 (field body 0 4), min 10000 (field body 4 4),
      min 1000000000000 (field body 8 8), window,
      max window (max 1 (min 100000000 (field body 20 4))), min 1000000 (field body 24 4),
      max 1 (min 100000 (field body 28 4)), max 60 (min 86400 (field body 32 4))]
    ∃ t : State,
      exec (.setTimescale p tag body) s = .next (t.replied p 0x13#8 tag
        (if stored = asked then .done else .doneClamped) t.timescaleBody) ∧
      [t.rdu.settings.p, t.rdu.settings.q, t.rdu.settings.stepThreshold, t.rdu.settings.lockWindow,
        t.rdu.settings.outlierGate, t.tsu.uLock, t.tsu.holdoverBound,
        t.rdu.settings.holdoverLimit] = stored ∧
      ClockOnly (s.taken p 0x13#8 tag) t ∧ TimescaleMoved (s.taken p 0x13#8 tag) t ∧
      t.rdu.integral = s.rdu.integral ∧
      (t.rdu.lockCount, t.rdu.unlockCount, t.rdu.clampCount) =
        (s.rdu.lockCount, s.rdu.unlockCount, s.rdu.clampCount) ∧
      (∀ r, t.ref r = s.ref r) ∧ t.rdu.selected = s.rdu.selected ∧
      t.tsu.inForce = s.tsu.inForce ∧ t.tsu.pendingRate = s.tsu.pendingRate ∧
      (s.rdu.tsState ≠ .holdover → t.rdu.tsState = s.rdu.tsState) ∧
      (∀ start, s.rdu.tsState = .holdover → s.rdu.holdoverStart = some start →
        t.rdu.tsState = if start + t.rdu.settings.holdoverLimit * 1000000000 ≤ s.osc then .free
          else .holdover)

/-- SET REFERENCE (R38): enabling an OFF reference, disabling, the priority, the selection judged once
(R25) with the move of the timescale that follows (R29, R34, R35), and the reply. Where FREE is entered in
the event, the UNTIMED replies of the wait-outs (R156; log entry 40) are handed before the reply of the
request (log entry 41): the model's choice. -/
def Obligations.SetReferenceRequest : Prop :=
  ∀ (p : Port) (tag : Byte) (r : RefId) (enable : Bool) (priority : Byte) (s : State), Accepts s p →
    ∃ t : State,
      exec (.setReference p tag (byteOf (RefId.code r) ++ [flagByte enable, priority])) s = .next
        (t.replied p 0x14#8 tag (if priority.toNat ≤ 1 then .done else .doneClamped)
          ([flagByte (t.ref r).enable] ++ byteOf (t.ref r).priority ++ byteOf (t.ref r).state.code ++
            byteOf (refSelCode t.rdu.selected))) ∧
      ClockOnly (s.taken p 0x14#8 tag) t ∧ TimescaleMoved (s.taken p 0x14#8 tag) t ∧
      SelectionJudged s t ∧ t.ref (otherRef r) = s.ref (otherRef r) ∧
      t.rdu.settings = s.rdu.settings ∧ t.rdu.integral = s.rdu.integral ∧
      (t.ref r).enable = enable ∧ (t.ref r).priority = min 1 priority.toNat ∧
      (enable = true → (s.ref r).state = .off →
        (t.ref r).state = .waiting ∧ (t.ref r).previousMark = none ∧ (t.ref r).heldLabel = none) ∧
      (enable = true → (s.ref r).state ≠ .off →
        t.ref r = { s.ref r with enable := true, priority := min 1 priority.toNat }) ∧
      (enable = false →
        (t.ref r).state = .off ∧ (t.ref r).previousMark = none ∧ (t.ref r).heldLabel = none ∧
        (t.ref r).missingDeadline = none ∧ (t.ref r).receiver = .hunting ∧
        ((t.ref r).goodRun, (t.ref r).badRun, (t.ref r).outlierRun) = (0, 0, 0) ∧
        t.rdu.selected ≠ some r ∧
        (s.rdu.selected = some r → (s.ref (otherRef r)).state = .qualified →
          t.rdu.selected = some (otherRef r) ∧ t.rdu.tsState = s.rdu.tsState) ∧
        (s.rdu.selected = some r → (s.ref (otherRef r)).state ≠ .qualified →
          t.rdu.selected = none ∧
          (s.rdu.tsState = .locked → t.rdu.tsState = .holdover ∧
            t.rdu.holdoverStart = some s.osc ∧ t.tsu = s.tsu.writeRate s.osc s.rdu.integral) ∧
          (s.rdu.tsState = .acquiring → t.rdu.tsState = .free ∧ t.tsu = s.tsu ∧
            (t.rdu.lockCount, t.rdu.unlockCount, t.rdu.clampCount) = (0, 0, 0))))

/-! ## Epoch outputs (chapter 3) -/

/-- R43: the next boundary reckoned from a hall time is the first boundary at or after it. A
boundary reached (R43, R48): while RUNNING and not squelched an EPA pulse of the schedule's width
starts there; the next boundary advances by one period whether or not a pulse starts; a pending
schedule comes into force there. The other edges (R43, R44): EPA falls idle at the end of its pulse;
EPB starts at each whole second in SECONDS and d µs after an EPA pulse that ran in COMPLEMENT, and
falls idle at the end of its pulse; a pulse of COMPLEMENT ends d µs before the next boundary. A pulse of
SECONDS carried into a new schedule holds its level to its end (R48), one begun at the application
instant itself too (log entry 42: the model's choice). A reading of another era is taken as the step and
places no edge (R50). A boundary presented before its hall time changes nothing (log entry 10), and
boundaries, seconds and pulse ends are not wrapped (log entry 6): both the model's choice. -/
def Obligations.EpochOutputEdges : Prop :=
  (∀ (c : Schedule) (h : Nat), c.drawable = true →
      h ≤ c.firstBoundary h ∧ c.firstBoundary h % (c.period * 1000000) = c.phase * 1000 ∧
      ∀ b, h ≤ b → b % (c.period * 1000000) = c.phase * 1000 → c.firstBoundary h ≤ b) ∧
  (∀ s : State, s.readNow.era = s.epg.alignEra →
      (s.readNow.hall < s.epg.nextBoundary → exec .epochBoundary s = .next s) ∧
      (s.epg.nextBoundary ≤ s.readNow.hall → ∃ g : Epg,
        exec .epochBoundary s = .next (s.setEpg g) ∧ g.running = s.epg.running ∧
        g.alignEra = s.epg.alignEra ∧ g.nextSecond = s.epg.nextSecond ∧
        (s.epg.running = true → s.epg.squelched = false → s.epg.pendingSchedule = none →
          g.schedule = s.epg.schedule ∧
          g.nextBoundary = s.epg.nextBoundary + s.epg.schedule.period * 1000000 ∧
          g.epaPulse = some (s.epg.nextBoundary + s.epg.schedule.width * 1000) ∧
          g.epa = s.epg.schedule.epaIdle.opposite ∧
          (s.epg.schedule.epbMode = .same → g.epbPulse = some
            { endHall := s.epg.nextBoundary + s.epg.schedule.width * 1000
              idle := s.epg.schedule.epbIdle })) ∧
        (s.epg.running = false ∨ (s.epg.squelched = true ∧ s.epg.pendingSchedule = none) →
          g.schedule = s.epg.schedule ∧ g.pendingSchedule = s.epg.pendingSchedule ∧
          g.nextBoundary = s.epg.nextBoundary + s.epg.schedule.period * 1000000 ∧
          g.epaPulse = s.epg.epaPulse ∧ g.epa = s.epg.epa) ∧
        (∀ c, s.epg.running = true → s.epg.pendingSchedule = some c →
          g.schedule = c ∧ g.pendingSchedule = none ∧
          (c.firstBoundary s.epg.nextBoundary ≠ s.epg.nextBoundary →
            g.nextBoundary = c.firstBoundary s.epg.nextBoundary ∧ g.epaPulse = none ∧
            g.epa = c.epaIdle ∧
            ∀ x, s.epg.schedule.epbMode = .seconds → s.epg.epbCarried = none →
              s.epg.epbPulse = some x → s.epg.nextBoundary < x.endHall →
              c.squelchedIn s.rdu.tsState = false →
              g.epbCarried = some x ∧ g.epbPulse = none ∧ g.epb = x.idle.opposite)))) ∧
  (∀ s : State, s.readNow.era = s.epg.alignEra → s.epg.epbCarried = none →
      (∀ e, s.epg.epaPulse = some e → e ≤ s.readNow.hall → ∃ g : Epg,
        exec .epaPulseEnd s = .next (s.setEpg g) ∧ g.epaPulse = none ∧ g.epa = s.epg.schedule.epaIdle ∧
        g.schedule = s.epg.schedule ∧ g.nextBoundary = s.epg.nextBoundary ∧
        (s.epg.schedule.epbMode = .same → g.epbPulse = none ∧ g.epb = s.epg.schedule.epbIdle) ∧
        (s.epg.schedule.epbMode = .complement → ∃ x, g.complementDue = some x ∧
          x.startHall = e + s.epg.schedule.deadGap * 1000 ∧
          (s.epg.schedule.width * 1000 ≤ e →
            s.epg.schedule.deadGap * 1000 ≤ s.epg.schedule.period * 1000000 →
            x.endHall + s.epg.schedule.deadGap * 1000 =
              e - s.epg.schedule.width * 1000 + s.epg.schedule.period * 1000000))) ∧
      (s.epg.running = true → s.epg.squelched = false → s.epg.pendingSchedule = none →
        s.epg.complementDue = none → s.epg.schedule.epbMode = .seconds →
        s.epg.nextSecond ≤ s.readNow.hall →
        exec .epbPulseStart s = .next (s.setEpg { s.epg with
          nextSecond := s.epg.nextSecond + 1000000000
          epbPulse := some { endHall := s.epg.nextSecond + s.epg.schedule.width * 1000
                             idle := s.epg.schedule.epbIdle }
          epb := s.epg.schedule.epbIdle.opposite })) ∧
      (∀ x, s.epg.running = true → s.epg.squelched = false → s.epg.pendingSchedule = none →
        s.epg.complementDue = some x → s.epg.schedule.epbMode = .complement →
        x.startHall ≤ s.readNow.hall → s.readNow.hall < s.epg.nextSecond →
        exec .epbPulseStart s = .next (s.setEpg { s.epg with
          complementDue := none
          epbPulse := some { endHall := x.endHall, idle := s.epg.schedule.epbIdle }
          epb := s.epg.schedule.epbIdle.opposite })) ∧
      (∀ x, s.epg.epbPulse = some x → x.endHall ≤ s.readNow.hall →
        exec .epbPulseEnd s = .next (s.setEpg { s.epg with
          epbPulse := none, epb := s.epg.schedule.epbIdle }))) ∧
  (∀ (s : State) (x : EpbPulse), s.readNow.era = s.epg.alignEra → s.epg.epbCarried = some x →
      s.epg.epbPulse = none →
      (s.readNow.hall < x.endHall → exec .epbPulseEnd s =
        .next (s.setEpg { s.epg with epb := x.idle.opposite })) ∧
      (x.endHall ≤ s.readNow.hall → exec .epbPulseEnd s =
        .next (s.setEpg { s.epg with epbCarried := none, epb := s.epg.schedule.epbIdle }))) ∧
  (∀ (s : State) (c : Instr), s.readNow.era ≠ s.epg.alignEra →
      c = .epochBoundary ∨ c = .epaPulseEnd ∨ c = .epbPulseStart ∨ c = .epbPulseEnd →
      exec c s = .next (s.setEpg { s.epg with
        epa := s.epg.schedule.epaIdle, epb := s.epg.schedule.epbIdle, epaPulse := none,
        epbPulse := none, epbCarried := none, complementDue := none, alignEra := s.readNow.era,
        nextBoundary := s.epg.schedule.firstBoundary s.readNow.hall,
        nextSecond := firstSecond s.readNow.hall, lastReading := s.readNow }))

/-- SET EPOCH (R42, R47): a schedule that cannot be drawn is refused with RANGE and changes nothing;
one taken while STOPPED is in force at once; one taken while RUNNING is held pending. START EPOCH
and STOP EPOCH (R45, R46): the run state; a stop takes both outputs to their idle levels, cuts the
pulses and discards a pending schedule; in the state already held nothing changes. -/
def Obligations.EpochRequests : Prop :=
  (∀ (p : Port) (tag : Byte) (c : Schedule) (s : State), Accepts s p → c.period < 65536 →
      c.width < 4294967296 → c.phase < 4294967296 → c.deadGap < 4294967296 →
      (c.drawable = true ↔
        (c.period ≠ 0 ∧ c.period ≤ 1000 ∧ 1000 % c.period = 0 ∧ c.width ≠ 0 ∧
          c.width < c.period * 1000 ∧ c.phase < c.period * 1000 ∧ c.deadGap ≤ 999999 ∧
          (c.epbMode = .complement → 2 * c.deadGap < c.period * 1000 - c.width))) ∧
      (c.drawable = false → exec (.setEpoch p tag c.bytes) s = .next
        ((s.taken p 0x20#8 tag).replied p 0x20#8 tag .range s.epochStatus)) ∧
      (c.drawable = true → ∃ g : Epg,
        exec (.setEpoch p tag c.bytes) s = .next
          (((s.taken p 0x20#8 tag).setEpg g).replied p 0x20#8 tag .done
            ((s.taken p 0x20#8 tag).setEpg g).epochStatus) ∧
        (s.epg.running = true → g = { s.epg with pendingSchedule := some c }) ∧
        (s.epg.running = false →
          g.schedule = c ∧ g.running = false ∧ g.epa = c.epaIdle ∧ g.epb = c.epbIdle ∧
          g.nextBoundary = c.firstBoundary s.readNow.hall ∧
          g.nextSecond = firstSecond s.readNow.hall ∧ g.squelched = c.squelchedIn s.rdu.tsState))) ∧
  (∀ (p : Port) (tag : Byte) (s : State), Accepts s p →
      exec (.startEpoch p tag []) s = .next
        (((s.taken p 0x21#8 tag).setEpg { s.epg with running := true }).replied p 0x21#8 tag .done
          (s.setEpg { s.epg with running := true }).epochStatus) ∧
      (s.epg.running = false → exec (.stopEpoch p tag []) s = .next
        ((s.taken p 0x22#8 tag).replied p 0x22#8 tag .done s.epochStatus)) ∧
      (s.epg.running = true → ∃ t : State,
        exec (.stopEpoch p tag []) s = .next (t.replied p 0x22#8 tag .done t.epochStatus) ∧
        t = (s.taken p 0x22#8 tag).setEpg { s.epg with
          running := false, pendingSchedule := none, epa := s.epg.schedule.epaIdle,
          epb := s.epg.schedule.epbIdle, epaPulse := none, epbPulse := none, epbCarried := none,
          complementDue := none }))

/-! ## Span links (chapter 4) -/

/-- Training (R54, R56, R57): what a gain of lane activity, the settle deadline, the training
deadline, a training block and a restart of the count do to a link record, by the state of the link. A
deadline presented before its instant changes nothing (log entry 10: the model's choice). -/
def Obligations.LinkTraining : Prop :=
  ∀ (l : Link) (s : State),
    ((s.link l).state = .disabled → exec (.laneActivityGained l) s = .next s) ∧
    ((s.link l).state = .down → ∀ d, (s.link l).settleDeadline = some d →
      exec (.laneActivityGained l) s = .next (s.setLink l { s.link l with activity := true }) ∧
      (s.osc < d → exec (.settleDeadline l) s = .next s) ∧
      (d ≤ s.osc → (s.link l).activity = false →
        exec (.settleDeadline l) s = .next (s.setLink l { s.link l with settleDeadline := none })) ∧
      (d ≤ s.osc → (s.link l).activity = true →
        exec (.settleDeadline l) s = .next (s.setLink l { s.link l with
          state := .training, settleDeadline := none, trainingDeadline := some (s.osc + 500000000),
          readySent := false, readyReceived := false, trainRun := 0 }))) ∧
    ((s.link l).state = .down → (s.link l).settleDeadline = none →
      exec (.laneActivityGained l) s = .next (s.setLink l { s.link l with
        activity := true, state := .training, trainingDeadline := some (s.osc + 500000000),
        readySent := false, readyReceived := false, trainRun := 0 })) ∧
    ((s.link l).state = .training →
      exec (.trainingCountRestart l) s = .next (s.setLink l { s.link l with trainRun := 0 }) ∧
      (∀ d, (s.link l).trainingDeadline = some d →
        (s.osc < d → exec (.trainingDeadline l) s = .next s) ∧
        (d ≤ s.osc → exec (.trainingDeadline l) s = .next (s.setLink l { s.link l with
          state := .down, settleDeadline := some (s.osc + 10000000), trainingDeadline := none }))) ∧
      (∀ ready : Bool, ∃ t : State, exec (.trainingBlock l ready) s = .next t ∧ OnlyLink l s t ∧
        (((s.link l).readySent = true ∨ (s.link l).trainRun = 15) ∧
            ((s.link l).readyReceived = true ∨ ready = true) →
          (t.link l).state = .up ∧ (t.link l).trainingDeadline = none ∧ (t.link l).checkRun = 0) ∧
        (¬ (((s.link l).readySent = true ∨ (s.link l).trainRun = 15) ∧
            ((s.link l).readyReceived = true ∨ ready = true)) → (s.link l).trainRun < 16 →
          t.entry l = s.entry l ∧ t.link l = { s.link l with
            trainRun := (s.link l).trainRun + 1
            readySent := (s.link l).readySent || decide ((s.link l).trainRun = 15)
            readyReceived := (s.link l).readyReceived || ready })))

/-- A loss of lane activity (R54, R56 to R59, R90): a DOWN link notes it, a link in TRAINING goes
DOWN, and an UP link goes DOWN with its frames withdrawn, its error times kept and its rack entry
moved by the link notice. -/
def Obligations.LaneActivityLost : Prop :=
  ∀ (l : Link) (s : State), ∃ t : State, exec (.laneActivityLost l) s = .next t ∧ OnlyLink l s t ∧
    ((s.link l).state = .disabled → t.link l = s.link l ∧ t.entry l = s.entry l) ∧
    ((s.link l).state = .down →
      t.link l = { s.link l with activity := false } ∧ t.entry l = s.entry l) ∧
    ((s.link l).state = .training → t.entry l = s.entry l ∧ t.link l = { s.link l with
      activity := false, state := .down, settleDeadline := some (s.osc + 10000000),
      trainingDeadline := none }) ∧
    ((s.link l).state = .up →
      t.link l = { s.link l with
        activity := false, state := .down, settleDeadline := some (s.osc + 10000000),
        trainingDeadline := none, txQueue := [], inTx := none } ∧
      (t.entry l).heldHello = none ∧ (t.entry l).probe = none ∧
      ((s.entry l).state = .tracking → (s.entry l).trim = none →
        (t.entry l).state = .coasting ∧ (t.entry l).coastCause = some .link ∧
        (t.entry l).window = (s.entry l).window ∧ (t.entry l).current = (s.entry l).current) ∧
      ((s.entry l).state = .coasting → (s.entry l).trim = none →
        (t.entry l).state = .coasting ∧ (t.entry l).coastCause = some .link) ∧
      ((s.inService l = true ∧ (s.entry l).trim ≠ none ∧ (s.entry l).state ≠ .attaching) ∨
          (s.entry l).state = .attaching ∨ (s.entry l).state = .acquiring →
        (t.entry l).state = .lost ∧ (t.entry l).identity = none ∧ (t.entry l).trim = none ∧
        (t.entry l).current = none ∧ (t.entry l).window = []) ∧
      (s.inService l = false → (t.entry l).state = (s.entry l).state))

/-- Frames taken with a wrong check or of an unknown kind, and the clear instant (R63 to R66): the
error time is appended, the check-failure run counts or restarts, the eighth failure takes the link
DOWN, and the error-rate flag follows the test and its clear instant. The clearing presented before
the clear instant leaves the link and its entry (log entry 10: the model's choice). -/
def Obligations.LinkErrorsCounted : Prop :=
  ∀ (l : Link) (s : State), (s.link l).state = .up → (s.link l).errorTimes.length ≤ 16 →
    (s.link l).txQueue.length < 32 → FlagsMatch s l →
    let times := (s.link l).errorTimes ++ [s.osc]
    let kept := times.drop (times.length - 16)
    let passes := ∃ x, kept.reverse[(s.link l).n - 1]? = some x ∧ s.osc ≤ x + (s.link l).w * 1000000000
    (∃ t : State, exec (.receivedFrameCheckFailure l) s = .next t ∧ OnlyLink l s t ∧
      (t.link l).errorTimes = kept ∧
      (t.link l).checkRun = min 8 ((s.link l).checkRun + 1) ∧
      (t.link l).state = (if 7 ≤ (s.link l).checkRun then .down else .up) ∧
      ((t.link l).errorFlag = true ↔ (s.link l).errorFlag = true ∨ passes) ∧
      ((t.link l).errorFlag = true →
        (t.link l).clearInstant = some (s.osc + (s.link l).w * 1000000000))) ∧
    (∃ t : State, exec (.unknownKind l) s = .next t ∧ OnlyLink l s t ∧
      (t.link l).errorTimes = kept ∧ (t.link l).checkRun = 0 ∧ (t.link l).state = .up ∧
      ((t.link l).errorFlag = true ↔ (s.link l).errorFlag = true ∨ passes)) ∧
    (∀ c, (s.link l).errorFlag = true → (s.link l).clearInstant = some c →
      ∃ t : State, exec (.linkErrorRateClear l) s = .next t ∧ OnlyLink l s t ∧
        (s.osc < c → t.link l = s.link l ∧ t.entry l = s.entry l) ∧
        (c ≤ s.osc →
          t.link l = { s.link l with errorFlag := false, clearInstant := none } ∧
          t.cru.isActive .linkErrorRate (.link l) = false))

/-- Transmission (R60, R61, R81, R83, R106): a frame handed to an UP link with room joins the end of
its queue; the oldest frame begins with the stamp of its departure instant; and the frame sent is
reported DEPARTED, by which a PROBE takes its t1 and its next due, a TRIM its sent-at, and a WELCOME
is no longer owed. That any WELCOME of the link ends it, one of an earlier attachment too (log entry 35),
and that a PROBE is matched by its number alone (log entry 44), are the model's choices. -/
def Obligations.FramesTransmitted : Prop :=
  ∀ (l : Link) (s : State),
    (∀ f, (s.link l).state = .up → (s.link l).txQueue.length < 32 →
      s.handFrame l f = s.setLink l { s.link l with txQueue := (s.link l).txQueue ++ [f] }) ∧
    (∀ departure f rest, (s.link l).state = .up → (s.link l).inTx = none →
      (s.link l).txQueue = f :: rest →
      exec (.frameTransmissionBegins l departure) s = .next (s.setLink l { s.link l with
        txQueue := rest
        inTx := some
          { frame := f, departureO := departure, stampHall := (s.tsu.convert departure).hall
            stampEra := (s.tsu.convert departure).era } })) ∧
    (∀ x, (s.link l).inTx = some x → ∃ e : RackEntry,
      exec (.frameDeparted l) s =
        .next ((s.setLink l { s.link l with inTx := none }).setEntry l e) ∧
      (∀ a b c d, x.frame = .welcome a b c d → e = { s.entry l with welcomeOwed := false }) ∧
      (∀ n, x.frame = .probe n →
        (∀ q, (s.entry l).probe = some q → q.number = n → e = { s.entry l with
          probe := some
            { number := n
              departure := some { t1 := x.stampHall, era := x.stampEra, sentAt := x.departureO } }
          nextProbeDue := some (x.departureO + (s.entry l).settings.pollInterval * 1000000)
          probeReckoned := some x.departureO }) ∧
        ((s.entry l).probe = none → e = s.entry l)) ∧
      (∀ g a b c d, x.frame = .trim g a b c d →
        (∀ y, (s.entry l).trim = some y → y.generation = g →
          e = { s.entry l with trim := some { y with sentAt := some x.departureO } }) ∧
        ((s.entry l).trim = none → e = s.entry l)) ∧
      (∀ v n sq, x.frame = .verdict v n sq → e = s.entry l) ∧
      (∀ q, x.frame = .dismiss q → e = s.entry l))

/-- SET LINK (R70, R95): N, W and the eight settings clamped and stored, the enable, and the reply;
no other link is touched. At once a new W moves the clear instant of a set error-rate flag, or clears the
flag (R67), and a new poll interval moves the next probe due of an entry in service, or hands the probe
(R95). -/
def Obligations.SetLinkRequest : Prop :=
  ∀ (p : Port) (tag : Byte) (l : Link) (enable : Bool) (n w : Nat) (c : LinkSettings) (s : State),
    Accepts s p → n < 256 → w < 65536 → c.fitsFields →
    ∃ t : State,
      exec (.setLink p tag (byteOf l.val ++ [flagByte enable] ++ byteOf n ++ beBytes 2 w ++ c.bytes)) s
        = .next (t.replied p 0x31#8 tag
          (if 2 ≤ n ∧ n ≤ 16 ∧ 1 ≤ w ∧ w ≤ 600 ∧ c.inRange then .done else .doneClamped)
          (t.linkSummary l ++ (t.entry l).settings.bytes)) ∧
      OnlyLink l (s.taken p 0x31#8 tag) t ∧
      (t.link l).n = max 2 (min 16 n) ∧ (t.link l).w = max 1 (min 600 w) ∧
      (t.entry l).settings =
        { pollInterval := max 16 (min 4096 c.pollInterval)
          delayGate := min 100000 c.delayGate
          maxDelay := max 100 (min 1000000 c.maxDelay)
          asymmetry := min 100000 c.asymmetry
          rateUncertainty := min 100000 c.rateUncertainty
          trimInterval := max 1 (min 255 c.trimInterval)
          phaseLimit := min 1000000 c.phaseLimit
          rateTrimLimit := min 200000 c.rateTrimLimit } ∧
      (t.link l).rangeFirst = (s.link l).rangeFirst ∧ (t.link l).rangeLast = (s.link l).rangeLast ∧
      (enable = true → (s.link l).state = .disabled →
        (t.link l).state = .down ∧ (t.link l).enable = true ∧
        (t.link l).settleDeadline = some (s.osc + 10000000)) ∧
      (enable = true → (s.link l).state ≠ .disabled →
        (t.link l).state = (s.link l).state ∧ (t.link l).enable = (s.link l).enable) ∧
      (enable = false → (s.link l).state = .disabled → (t.link l).state = .disabled) ∧
      (enable = false → (s.link l).state ≠ .disabled →
        (t.link l).state = .disabled ∧ (t.link l).enable = false ∧ (t.link l).errorTimes = [] ∧
        (t.link l).checkRun = 0 ∧ (t.link l).errorFlag = false ∧
        (t.link l).settleDeadline = none ∧ (t.link l).trainingDeadline = none ∧
        (t.entry l).state = .idle ∧ (t.entry l).heldHello = none ∧ (t.entry l).trimTotal = 0) ∧
      (enable = true → FlagsMatch s l → (s.link l).txQueue.length ≤ 30 →
        (∀ o, (s.link l).errorFlag = true → (s.link l).errorTimes.getLast? = some o →
          let clear := o + max 1 (min 600 w) * 1000000000
          (s.osc < clear → (t.link l).errorFlag = true ∧ (t.link l).clearInstant = some clear) ∧
          (clear ≤ s.osc → (t.link l).errorFlag = false ∧ (t.link l).clearInstant = none ∧
            t.cru.isActive .linkErrorRate (.link l) = false)) ∧
        (s.inService l = false → (t.entry l).nextProbeDue = (s.entry l).nextProbeDue) ∧
        (∀ o, s.inService l = true → (s.entry l).probeReckoned = some o →
          let interval := max 16 (min 4096 c.pollInterval) * 1000000
          (s.osc < o + interval ∨ (s.link l).state ≠ .up ∨ (s.entry l).probe ≠ none ∨
              s.mgp.mode = .setup →
            (t.entry l).nextProbeDue = some (o + interval) ∧
            (t.entry l).probe = (s.entry l).probe) ∧
          (o + interval ≤ s.osc → (s.link l).state = .up → (s.entry l).probe = none →
            s.mgp.mode = .serving →
            (t.entry l).nextProbeDue = some (s.osc + interval) ∧
            (t.entry l).probe =
              some { number := (s.entry l).nextExchange, departure := none })))

/-- SET LINK RANGE (R71) and RESET LINK (R72), with their refusals; no other link is touched. -/
def Obligations.LinkRangeAndReset : Prop :=
  ∀ (p : Port) (tag : Byte) (l : Link) (s : State), Accepts s p →
    (∀ first last : Nat, first < 65536 → last < 65536 →
      let overlaps := ∃ m, m ≠ l ∧ (s.link m).enable = true ∧
        ∃ id, first ≤ id ∧ id ≤ last ∧ (s.link m).rangeFirst ≤ id ∧ id ≤ (s.link m).rangeLast
      let refused (r : Result) :=
        exec (.setLinkRange p tag (byteOf l.val ++ beBytes 2 first ++ beBytes 2 last)) s =
          .next ((s.taken p 0x32#8 tag).replied p 0x32#8 tag r (s.linkSummary l))
      let stored :=
        exec (.setLinkRange p tag (byteOf l.val ++ beBytes 2 first ++ beBytes 2 last)) s =
          .next (((s.taken p 0x32#8 tag).setLink l
              { s.link l with rangeFirst := first, rangeLast := last }).replied p 0x32#8 tag .done
            ((s.setLink l { s.link l with rangeFirst := first, rangeLast := last }).linkSummary l))
      (s.mgp.mode = .serving → refused .wrongMode) ∧
      (s.mgp.mode = .setup → last < first → refused .range) ∧
      (s.mgp.mode = .setup → first ≤ last → (s.link l).enable = true →
        (∀ m, (s.link m).rangeFirst ≤ (s.link m).rangeLast) →
        (overlaps → refused .overlap) ∧ (¬ overlaps → stored)) ∧
      (s.mgp.mode = .setup → first ≤ last → (s.link l).enable = false → stored)) ∧
    ((s.link l).state = .disabled → exec (.resetLink p tag (byteOf l.val)) s =
      .next ((s.taken p 0x33#8 tag).replied p 0x33#8 tag .wrongState (s.linkSummary l))) ∧
    ((s.link l).state ≠ .disabled → ∃ t : State,
      exec (.resetLink p tag (byteOf l.val)) s =
        .next (t.replied p 0x33#8 tag .done (t.linkSummary l)) ∧
      OnlyLink l (s.taken p 0x33#8 tag) t ∧
      (t.link l).state = .down ∧ (t.link l).settleDeadline = some (s.osc + 10000000) ∧
      (t.link l).trainingDeadline = none ∧ (t.link l).enable = (s.link l).enable ∧
      (t.link l).errorTimes = [] ∧ (t.link l).checkRun = 0 ∧ (t.link l).errorFlag = false ∧
      ((s.link l).state = .up → (t.link l).txQueue = [] ∧ (t.link l).inTx = none) ∧
      (t.entry l).state = .idle ∧ (t.entry l).heldHello = none ∧ (t.entry l).identity = none ∧
      (t.entry l).settings = (s.entry l).settings ∧ (t.driftOf l).level = .normal)

/-! ## Rack entries and exchanges (chapters 5 and 6) -/

/-- A HELLO on an UP link (R76 to R79): held in SETUP; answered with DISMISS in QUARANTINED;
otherwise judged by the four checks in order, and attached or quarantined with the reason of the
first that fails. Attachment over a full transmit queue (R81): the WELCOME, a fresh one before the
PROBE, and the PROBE are each withdrawn as a TRANSMIT OVERRUN (three of them: log entry 18, the model's
reading), and the WELCOME stays owed. -/
def Obligations.HelloJudged : Prop :=
  (∀ (l : Link) (h : Hello) (s : State), (s.link l).state = .up → FlagsMatch s l →
    (s.link l).txQueue.length ≤ 30 →
    let id := h.identity.toNat
    let duplicate := ∃ m, m ≠ l ∧ s.inService m = true ∧ (s.entry m).identity = some id
    ∃ t : State, exec (.hello l h) s = .next t ∧ OnlyLink l s t ∧ (t.link l).checkRun = 0 ∧
      (t.entry l).heldHello = some h ∧
      (s.mgp.mode = .setup → t.entry l = { s.entry l with heldHello := some h } ∧
        (t.link l).txQueue = (s.link l).txQueue) ∧
      (s.mgp.mode = .serving → (s.entry l).state = .quarantined →
        t.entry l = { s.entry l with heldHello := some h } ∧
        ∀ q, (s.entry l).quarantineReason = some q →
          (t.link l).txQueue = (s.link l).txQueue ++ [.dismiss q]) ∧
      (s.mgp.mode = .serving → (s.entry l).state ≠ .quarantined →
        (∀ q, FirstFailure s l h duplicate q →
          (t.entry l).state = .quarantined ∧ (t.entry l).quarantineReason = some q ∧
          (t.entry l).claimed = some id ∧ (t.entry l).identity = none ∧
          (t.entry l).window = [] ∧ (t.entry l).current = none ∧ (t.entry l).predecessor = none ∧
          (t.entry l).probe = none ∧ (t.entry l).trim = none ∧ (t.entry l).stepOwed = none ∧
          (t.entry l).trimGeneration = (s.entry l).trimGeneration ∧
          (t.link l).txQueue = (s.link l).txQueue ++ [.dismiss q]) ∧
        (¬ TwinHello s h → ¬ StrayHello s l h → ¬ duplicate → (s.entry l).isolate = false →
          (t.entry l).state = .attaching ∧ (t.entry l).identity = some id ∧
          (t.entry l).lastIdentity = some id ∧ (t.entry l).quarantineReason = none ∧
          (t.entry l).trimGeneration = h.generation.toNat ∧ (t.entry l).window = [] ∧
          (t.entry l).predecessor = none ∧ (t.entry l).trim = none ∧ (t.entry l).missed = 0 ∧
          (t.entry l).sinceTrim = 0 ∧ (t.entry l).lastAccepted = some s.osc ∧
          (t.entry l).stepOwed = (s.entry l).stepOwed ∧ (t.entry l).welcomeOwed = true ∧
          (t.entry l).trimTotal =
            (if (s.entry l).lastIdentity = some id then (s.entry l).trimTotal else 0) ∧
          (t.entry l).current =
            (if s.inService l = true ∧ (s.entry l).identity = some id ∧
                (s.entry l).trimGeneration = h.generation.toNat
             then (s.entry l).current.map (fun x => { x with source := .carried }) else none) ∧
          (t.entry l).probe = some { number := 0, departure := none } ∧
          (t.link l).txQueue = (s.link l).txQueue ++
            [.welcome s.mgp.domainId s.mgp.domainInstance s.tsu.era h.generation.toNat, .probe 0]))) ∧
  (∀ (l : Link) (h : Hello) (s : State), (s.link l).state = .up → NoIsolation s l →
    s.mgp.mode = .serving → (s.entry l).state ≠ .quarantined → s.helloFailure l h = none →
    32 ≤ (s.link l).txQueue.length → (s.link l).errorTimes.length ≤ 16 →
    ∃ t : State, exec (.hello l h) s = .next t ∧ OnlyLink l s t ∧
      (t.entry l).state = .attaching ∧ (t.entry l).identity = some h.identity.toNat ∧
      (t.entry l).welcomeOwed = true ∧ (t.entry l).probe = none ∧
      (t.link l).txQueue = (s.link l).txQueue ∧
      (t.link l).errorTimes = ((s.link l).errorTimes ++ [s.osc, s.osc, s.osc]).drop
        ((s.link l).errorTimes.length + 3 - 16))

/-- Probes and missed exchanges (R82 to R84): a due probe is handed under the next exchange number,
after a WELCOME that is owed; an exchange timeout counts a miss, and the third miss of a TRACKING
entry makes it COAST. A timeout presented before its instant, or a probe that cannot go, leaves link
and entry (the former is log entry 10: the model's choice). -/
def Obligations.ProbesAndMisses : Prop :=
  ∀ (l : Link) (s : State), (s.link l).txQueue.length ≤ 30 →
    (∀ d, s.inService l = true → (s.link l).state = .up → (s.entry l).probe = none →
      s.mgp.mode = .serving → (s.entry l).nextProbeDue = some d → d ≤ s.osc →
      ∃ t : State, exec (.probeDue l) s = .next t ∧ OnlyLink l s t ∧
        t.entry l = { s.entry l with
          nextExchange := ((s.entry l).nextExchange + 1) % 65536
          window := (s.entry l).window.filter (fun r => decide (r.number ≠ (s.entry l).nextExchange))
          probe := some { number := (s.entry l).nextExchange, departure := none }
          nextProbeDue := some (s.osc + (s.entry l).settings.pollInterval * 1000000)
          probeReckoned := some s.osc } ∧
        t.link l = { s.link l with txQueue := (s.link l).txQueue ++
          (if (s.entry l).welcomeOwed then [.welcome s.mgp.domainId s.mgp.domainInstance s.tsu.era
            (s.entry l).trimGeneration] else []) ++ [.probe (s.entry l).nextExchange] }) ∧
    (s.inService l = false ∨ (s.link l).state ≠ .up ∨ (s.entry l).probe ≠ none ∨
        s.mgp.mode = .setup →
      ∃ t : State, exec (.probeDue l) s = .next t ∧ SameCore s t ∧ ∀ m, SameAt m s t) ∧
    (∀ n d, (s.entry l).probe = some { number := n, departure := some d } →
      ∃ t : State, exec (.exchangeTimeout l) s = .next t ∧ OnlyLink l s t ∧
        (s.osc < d.sentAt + 2000000 → t.entry l = s.entry l ∧ t.link l = s.link l) ∧
        (d.sentAt + 2000000 ≤ s.osc →
          (t.entry l).missed = min 255 ((s.entry l).missed + 1) ∧
          (t.entry l).current = (s.entry l).current ∧ (t.entry l).trim = (s.entry l).trim ∧
          (t.entry l).state = (if (s.entry l).state = .tracking ∧ 2 ≤ (s.entry l).missed
            then .coasting else (s.entry l).state) ∧
          ((s.entry l).state = .tracking → 2 ≤ (s.entry l).missed →
            (t.entry l).coastCause = some .missed) ∧
          (∀ x, (s.entry l).nextProbeDue = some x → s.osc < x →
            (t.entry l).probe = none ∧ (t.entry l).window = (s.entry l).window)))

/-- A matching ECHO of the generation in force (R85, R86, R88, R97, R98, R100 to R102): the record by
the exchange arithmetic, its admission or rejection, the state, and the estimate formed: its reference
record, the newest of those that share the least delay, and its drift, from the like records of the two
halves, or held as it was over a span below one second. An ECHO that
matches no departed probe in flight is a link error and leaves the entry as it was (R85, R65). -/
def Obligations.EchoesTaken : Prop :=
  (∀ (l : Link) (arrival : Nat) (e : Echo) (d : ProbeDeparture) (s : State),
      (s.link l).state = .up → NoIsolation s l → (s.link l).txQueue.length < 32 →
      s.inService l = true → (s.entry l).unsettled = false →
      (s.entry l).probe = some { number := e.exchange.toNat, departure := some d } →
      d.era = s.rtmEra → (s.tsu.convert arrival).era = s.rtmEra →
      e.generation.toNat = (s.entry l).trimGeneration →
      (∃ x, (s.entry l).nextProbeDue = some x ∧ s.osc < x) →
      let t4 := (s.tsu.convert arrival).hall
      let w := (s.entry l).window
      let delta : Int := ((t4 : Int) - d.t1) - ((e.t3.toNat : Int) - e.t2.toNat)
      let r : ExchangeRecord :=
        { number := e.exchange.toNat, t1 := d.t1, t2 := e.t2.toNat, t3 := e.t3.toNat, t4 := t4
          theta := (((e.t2.toNat : Int) - d.t1) - ((t4 : Int) - e.t3.toNat)) / 2
          delta := delta }
      (∀ x ∈ w, x.t4 < t4) → 0 ≤ delta →
      ∃ t : State, exec (.echo l arrival e) s = .next t ∧ OnlyLink l s t ∧
        (t.entry l).probe = none ∧ (t.entry l).missed = 0 ∧
        (((s.entry l).settings.maxDelay < delta ∨
            ∃ x ∈ w, x.delta + (s.entry l).settings.delayGate < delta) →
          (t.entry l).window = w ∧ (t.entry l).state = (s.entry l).state ∧
          (t.entry l).current = (s.entry l).current ∧
          (t.entry l).lastAccepted = (s.entry l).lastAccepted ∧
          (t.entry l).sinceTrim = (s.entry l).sinceTrim) ∧
        (delta ≤ (s.entry l).settings.maxDelay →
          (∀ x ∈ w, delta ≤ x.delta + (s.entry l).settings.delayGate) →
          let new := (if 8 ≤ w.length then w.drop 1 else w) ++ [r]
          (t.entry l).window = new ∧ (t.entry l).lastAccepted = some s.osc ∧
          (t.entry l).sinceTrim = min 255 ((s.entry l).sinceTrim + 1) ∧
          (t.entry l).state = (if (s.entry l).state = .tracking ∨ 4 ≤ new.length then .tracking
            else .acquiring) ∧
          (new.length < 4 → (t.entry l).current = (s.entry l).current) ∧
          (4 ≤ new.length → ∃ (est : Estimate) (ref : ExchangeRecord),
            (t.entry l).current = some est ∧ NewestLeast new ref ∧
            (∃ older newer, NewestLeast (new.take (new.length / 2)) older ∧
              NewestLeast (new.drop (new.length / 2)) newer ∧
              est.rho = if 1000000000 ≤ (newer.t4 : Int) - older.t4
                then max (-200000) (min 200000
                  (((newer.theta - older.theta) * 1000000000).tdiv ((newer.t4 : Int) - older.t4)))
                else ((s.entry l).current.map (fun x => x.rho)).getD 0) ∧
            est.theta = ref.theta ∧ est.tau = (ref.t2 + ref.t3) / 2 ∧
            est.uRack = min 4294967295
              (((ref.delta + 1) / 2).toNat + (s.entry l).settings.asymmetry) ∧
            est.generation = (s.entry l).trimGeneration ∧ est.source = .fresh))) ∧
  (∀ (l : Link) (arrival : Nat) (e : Echo) (s : State), (s.link l).state = .up → NoIsolation s l →
      (s.link l).errorTimes.length ≤ 16 → (s.link l).txQueue.length < 32 →
      ((s.entry l).probe = none ∨
        ∃ q, (s.entry l).probe = some q ∧ (q.departure = none ∨ q.number ≠ e.exchange.toNat)) →
      ∃ t : State, exec (.echo l arrival e) s = .next t ∧ OnlyLink l s t ∧
        (t.link l).errorTimes = ((s.link l).errorTimes ++ [s.osc]).drop
          ((s.link l).errorTimes.length + 1 - 16) ∧ (t.link l).checkRun = 0 ∧
        { t.entry l with degrade := (s.entry l).degrade, isolate := (s.entry l).isolate } = s.entry l)

/-- An ECHO that matches its probe, beyond the generation in force (R86, R87, R97, R98, R108, R110).
An exchange of two eras is discarded. While the generation is unsettled the ECHO settles it. An ECHO
of the trim in flight completes that trim as a TRIM-DONE with the trim's own apply-at does, and its
record is offered to the emptied window. Any other generation is discarded while a trim is in flight;
with none it becomes the trim generation, both estimates go, the entry is ACQUIRING, TRIM_LOST is
posted, and the record is offered to the emptied window. In the generation in force a delay below zero
is a link error, and a record whose t4 is not above the newest held empties the window before it is
judged, with the estimates as they were. -/
def Obligations.EchoesBeyondTheGeneration : Prop :=
  ∀ (l : Link) (arrival : Nat) (e : Echo) (d : ProbeDeparture) (s : State), MatchingEcho s l e d →
    let g := e.generation.toNat
    let r := measured s arrival e d
    let x := s.entry l
    let fits := 0 ≤ r.delta ∧ r.delta ≤ x.settings.maxDelay
    let admitted := if x.state = .tracking then RackState.tracking else RackState.acquiring
    let discarded (t : State) := t.entry l = { x with probe := none, missed := 0 } ∧
      t.link l = { s.link l with checkRun := 0 }
    ∃ t : State, exec (.echo l arrival e) s = .next t ∧ OnlyLink l s t ∧
      (¬ SameEras s arrival d → discarded t) ∧
      (SameEras s arrival d → x.unsettled = true →
        (t.entry l).trimGeneration = g ∧ (t.entry l).unsettled = false ∧
        (x.window = [] → fits → (t.entry l).window = [r] ∧ (t.entry l).lastAccepted = some s.osc ∧
          (t.entry l).state = admitted ∧ (t.entry l).current = x.current)) ∧
      (SameEras s arrival d → x.unsettled = false → g ≠ x.trimGeneration →
        (∀ y, x.trim = some y → g ≠ y.generation → discarded t) ∧
        (∀ y u, x.trim = some y → g = y.generation → y.applyAt < 18446744073709551616 →
          exec (.trimDone l e.generation (BitVec.ofNat 64 y.applyAt)) s = .next u →
          (t.entry l).current = (u.entry l).current ∧
          (t.entry l).predecessor = (u.entry l).predecessor ∧
          (t.entry l).trimGeneration = (u.entry l).trimGeneration ∧
          (t.entry l).trimTotal = (u.entry l).trimTotal ∧
          (t.entry l).stepOwed = (u.entry l).stepOwed ∧
          (fits → (t.entry l).window = [r] ∧ (t.entry l).lastAccepted = some s.osc ∧
            (t.entry l).state = admitted ∧ (t.entry l).sinceTrim = 1) ∧
          (¬ fits → (t.entry l).window = [] ∧ (t.entry l).state = x.state ∧
            (t.entry l).sinceTrim = 0)) ∧
        (x.trim = none →
          (t.entry l).trimGeneration = g ∧ (t.entry l).state = .acquiring ∧
          (t.entry l).current = none ∧ (t.entry l).predecessor = none ∧
          (t.entry l).stepOwed = x.stepOwed ∧ (t.entry l).trimTotal = x.trimTotal ∧
          (fits → (t.entry l).window = [r] ∧ (t.entry l).lastAccepted = some s.osc ∧
            (t.entry l).sinceTrim = min 255 (x.sinceTrim + 1)) ∧
          (¬ fits → (t.entry l).window = [] ∧ (t.entry l).sinceTrim = x.sinceTrim) ∧
          (s.cru.records? .trimLost = true → s.cru.wants .a .trimLost || s.cru.wants .b .trimLost →
            s.cru.list.length < 63 → ∃ c ∈ t.cru.list, c.kind = .trimLost ∧ c.scope = .link l ∧
              c.details = { oldState := some x.state.code, newState := some RackState.acquiring.code,
                            count := some g }))) ∧
      (SameEras s arrival d → x.unsettled = false → g = x.trimGeneration →
        (r.delta < 0 → (s.link l).errorTimes.length ≤ 16 →
          (t.link l).errorTimes =
            ((s.link l).errorTimes ++ [s.osc]).drop ((s.link l).errorTimes.length + 1 - 16) ∧
          { t.entry l with degrade := x.degrade, isolate := x.isolate } =
            { x with probe := none, missed := 0 }) ∧
        (∀ y, 0 ≤ r.delta → x.window.getLast? = some y → r.t4 ≤ y.t4 →
          (t.entry l).current = x.current ∧ (t.entry l).predecessor = x.predecessor ∧
          (r.delta ≤ x.settings.maxDelay → (t.entry l).window = [r] ∧
            (t.entry l).lastAccepted = some s.osc) ∧
          ((x.settings.maxDelay : Int) < r.delta → (t.entry l).window = [])))

/-- The trim test of an entry (R103 to R106). Nothing is built before the RTM has the era of the reading,
in FAILED, with a trim in flight or with no current estimate. On an UP link a step owed gives a STEP
trim in ACQUIRING, TRACKING and COASTING; with no step owed a FRESH estimate in TRACKING gives an
ordinary trim once the trim interval is reached and ISOLATE is clear; the trim becomes the trim in
flight and its TRIM frame is handed. A step owed in any other state, or with the link not UP, and an
ordinary trim whose conditions fail, build nothing. Apply-at is the exact sum where that fits 64 bits
(outside them it is a free value: log entry 4). -/
def Obligations.TrimsBuilt : Prop :=
  (∀ (l : Link) (s : State), s.readNow.era ≠ s.rtmEra ∨ s.rdu.tsState = .failed ∨
      (s.entry l).trim ≠ none ∨ (s.entry l).current = none → s.trimTest l = s) ∧
  (∀ (l : Link) (est : Estimate) (s : State), (s.link l).state = .up →
    (s.link l).txQueue.length < 32 → s.readNow.era = s.rtmEra → s.rdu.tsState ≠ .failed →
    (s.entry l).trim = none → (s.entry l).current = some est →
    let e := s.entry l
    let ahead : Int := (s.readNow.hall : Int) + 10000000 + est.theta
    let limited (x : Nat) (v : Int) : Int := max (-(x : Int)) (min (x : Int) v)
    let sent (x : TrimInFlight) := s.trimTest l = (s.setEntry l { e with trim := some x }).setLink l
      { s.link l with txQueue := (s.link l).txQueue ++
          [.trim x.generation x.phase x.rate x.applyAt x.stepFlag] }
    let timed (x : TrimInFlight) := 0 ≤ ahead → ahead < 18446744073709551616 →
      (x.applyAt : Int) = ahead
    (e.stepOwed = none → e.state = .tracking → est.source = .fresh → e.isolate = false →
      e.settings.trimInterval ≤ e.sinceTrim → ∃ x : TrimInFlight, sent x ∧ timed x ∧
        x.generation = (e.trimGeneration + 1) % 256 ∧
        x.phase = limited e.settings.phaseLimit
          (-(est.theta + ((ahead - est.tau) * est.rho).tdiv 1000000000)) ∧
        x.rate = (if e.degrade then 0 else limited e.settings.rateTrimLimit (-est.rho)) ∧
        x.stepFlag = false ∧ x.sentAt = none) ∧
    (∀ owed, e.stepOwed = some owed →
      e.state = .tracking ∨ e.state = .acquiring ∨ e.state = .coasting →
      ∃ x : TrimInFlight, sent x ∧ timed x ∧ x.generation = (e.trimGeneration + 1) % 256 ∧
        x.phase = limited 2147483647 owed ∧ x.rate = 0 ∧ x.stepFlag = true ∧ x.sentAt = none)) ∧
  (∀ (l : Link) (s : State),
    (∀ owed, (s.entry l).stepOwed = some owed →
      ((s.entry l).state ≠ .tracking ∧ (s.entry l).state ≠ .acquiring ∧
        (s.entry l).state ≠ .coasting) ∨ (s.link l).state ≠ .up → s.trimTest l = s) ∧
    ((s.entry l).stepOwed = none →
      (s.entry l).state ≠ .tracking ∨ (∀ x, (s.entry l).current = some x → x.source = .carried) ∨
        (s.entry l).isolate = true ∨ (s.entry l).sinceTrim < (s.entry l).settings.trimInterval →
      s.trimTest l = s))

/-- Trims settled (R92, R107, R109): a TRIM-DONE for the trim in flight completes it, any other is
ignored; the trim timeout loses it and leaves the generation unsettled. The drift of the new estimate
is the sum held within ±200,000 (log entry 36) and the timeout presented before its instant changes
nothing (log entry 10): both the model's choice. -/
def Obligations.TrimsSettled : Prop :=
  ∀ (l : Link) (x : TrimInFlight) (s : State), (s.entry l).trim = some x →
    (∀ (g : BitVec 8) (a : BitVec 64), (s.link l).state = .up → (s.link l).txQueue.length < 32 →
      ∃ t : State, exec (.trimDone l g a) s = .next t ∧ OnlyLink l s t ∧
        (g.toNat ≠ x.generation → t.entry l = s.entry l) ∧
        (g.toNat = x.generation →
          (t.entry l).state = (s.entry l).state ∧ (t.entry l).predecessor = (s.entry l).current ∧
          (t.entry l).trimGeneration = x.generation ∧ (t.entry l).window = [] ∧
          (t.entry l).sinceTrim = 0 ∧
          (t.entry l).trimTotal =
            max (-2000000) (min 2000000 ((s.entry l).trimTotal + x.rate)) ∧
          (x.stepFlag = false → (t.entry l).stepOwed = (s.entry l).stepOwed) ∧
          (∀ v, x.stepFlag = true → (s.entry l).stepOwed = some v →
            (t.entry l).stepOwed = if v - x.phase = 0 then none else some (v - x.phase)) ∧
          ((s.entry l).stepOwed = none → (t.entry l).trim = none) ∧
          ((s.entry l).current = none → (t.entry l).current = none) ∧
          (∀ c, (s.entry l).current = some c → ∃ y, (t.entry l).current = some y ∧
            y.theta = c.theta + (((a.toNat : Int) - c.tau) * c.rho).tdiv 1000000000 + x.phase ∧
            y.rho = max (-200000) (min 200000 (c.rho + x.rate)) ∧ y.uRack = c.uRack ∧
            y.generation = x.generation ∧
            y.source = .carried ∧
            (0 ≤ (a.toNat : Int) + x.phase → (a.toNat : Int) + x.phase < 18446744073709551616 →
              (y.tau : Int) = (a.toNat : Int) + x.phase)))) ∧
    (∀ o, x.sentAt = some o → ∃ t : State, exec (.trimTimeout l) s = .next t ∧ OnlyLink l s t ∧
      (s.osc < o + 200000000 → SameAt l s t) ∧
      (o + 200000000 ≤ s.osc →
        (t.entry l).state = .acquiring ∧ (t.entry l).trim = none ∧ (t.entry l).current = none ∧
        (t.entry l).predecessor = none ∧ (t.entry l).window = [] ∧
        (t.entry l).unsettled = true ∧ (t.entry l).trimGeneration = (s.entry l).trimGeneration ∧
        (t.entry l).stepOwed = (s.entry l).stepOwed ∧
        (t.entry l).trimTotal = (s.entry l).trimTotal ∧ (t.entry l).missed = (s.entry l).missed ∧
        (t.entry l).lastAccepted = (s.entry l).lastAccepted))

/-- Loss and release of an entry (R89, R93): the loss deadline of an entry in ATTACHING, ACQUIRING
or COASTING, which TRACKING has not; and CLEAR QUARANTINE, refused WRONG_STATE but in QUARANTINED. The
deadline presented before its instant changes nothing (log entry 10: the model's choice). -/
def Obligations.LossAndClearing : Prop :=
  ∀ (l : Link) (s : State),
    (∀ o, (s.entry l).lastAccepted = some o → ∃ t : State,
      exec (.lossDeadline l) s = .next t ∧ OnlyLink l s t ∧
      (s.osc < o + 120000000000 ∨ s.inService l = false ∨ (s.entry l).state = .tracking →
        SameAt l s t) ∧
      (o + 120000000000 ≤ s.osc → s.inService l = true → (s.entry l).state ≠ .tracking →
        (t.entry l).state = .lost ∧ (t.entry l).identity = none ∧ (t.entry l).window = [] ∧
        (t.entry l).current = none ∧ (t.entry l).predecessor = none ∧ (t.entry l).probe = none ∧
        (t.entry l).trim = none ∧ (t.entry l).stepOwed = none ∧
        (t.entry l).lastIdentity = (s.entry l).lastIdentity ∧
        (t.entry l).trimTotal = (s.entry l).trimTotal ∧ t.link l = s.link l ∧
        (t.driftOf l).level = .normal ∧ (t.driftOf l).notified = .lost)) ∧
    (∀ (p : Port) (tag : Byte), Accepts s p →
      ((s.entry l).state = .quarantined → ∃ t : State,
        exec (.clearQuarantine p tag (byteOf l.val)) s =
          .next (t.replied p 0x36#8 tag .done (t.rackSnapshot l)) ∧
        OnlyLink l (s.taken p 0x36#8 tag) t ∧ t.link l = s.link l ∧
        (t.entry l).state = .idle ∧ (t.entry l).claimed = none ∧
        (t.entry l).quarantineReason = none ∧ (t.entry l).heldHello = none ∧
        (t.entry l).lastIdentity = none ∧ (t.entry l).trimTotal = 0 ∧
        (t.entry l).trimGeneration = 0 ∧ (t.entry l).settings = (s.entry l).settings ∧
        t.cru.isActive .duplicateRack (.link l) = false ∧
        t.cru.isActive .wrongRack (.link l) = false ∧
        t.cru.isActive .twinDomain (.link l) = false) ∧
      ((s.entry l).state ≠ .quarantined →
        exec (.clearQuarantine p tag (byteOf l.val)) s =
          .next ((s.taken p 0x36#8 tag).replied p 0x36#8 tag .wrongState (s.rackSnapshot l))))

/-! ## Drift watch (chapter 7) -/

/-- SET DRIFT LIMITS (R125, R126): the shape the values are put into, one link or all forty, pending
where the notified state is TRACKING and in force at once elsewhere, and the reply. -/
def Obligations.SetDriftLimitsRequest : Prop :=
  ∀ (p : Port) (tag : Byte) (x : Limits) (s : State), Accepts s p → x.fitsFields →
    let th (v : Nat) := max 1 (min 1000000000 v)
    let shaped : Limits :=
      { offsetWatch := th x.offsetWatch, offsetAlarm := max (th x.offsetWatch) (th x.offsetAlarm)
        driftWatch := th x.driftWatch, driftAlarm := max (th x.driftWatch) (th x.driftAlarm)
        totalWatch := th x.totalWatch, totalAlarm := max (th x.totalWatch) (th x.totalAlarm)
        k := max 1 (min 64 x.k), m := max 1 (min 64 x.m) }
    let held := (allLinks.filter (fun l => decide ((s.driftOf l).notified = .tracking))).length
    (∀ l : Link,
      exec (.setDriftLimits p tag (byteOf l.val ++ [0#8] ++ x.bytes)) s =
        .next ((s.taken p 0x37#8 tag).replied p 0x37#8 tag .done (s.driftBody l)) ∧
      ∃ t : State, exec (.setDriftLimits p tag (byteOf l.val ++ [1#8] ++ x.bytes)) s =
          .next (t.replied p 0x37#8 tag (if shaped = x then .done else .doneClamped)
            (t.driftBody l)) ∧
        t = (s.taken p 0x37#8 tag).setDrift l
          (if (s.driftOf l).notified = .tracking
            then { s.driftOf l with pendingLimits := some shaped }
            else { s.driftOf l with limits := shaped, pendingLimits := none })) ∧
    exec (.setDriftLimits p tag ([255#8, 0#8] ++ x.bytes)) s =
      .next ((s.taken p 0x37#8 tag).replied p 0x37#8 tag .malformed []) ∧
    ∃ t : State, exec (.setDriftLimits p tag ([255#8, 1#8] ++ x.bytes)) s =
        .next (t.replied p 0x37#8 tag (if shaped = x then .done else .doneClamped)
          (shaped.bytes ++ byteOf (40 - held) ++ byteOf held)) ∧
      SameCore (s.taken p 0x37#8 tag) t ∧ t.cru = s.cru ∧ t.links = s.links ∧
      t.entries = s.entries ∧
      ∀ l, t.driftOf l = (if (s.driftOf l).notified = .tracking
        then { s.driftOf l with pendingLimits := some shaped }
        else { s.driftOf l with limits := shaped, pendingLimits := none })

/-- Rise and fall of a drift level (R116, R118 to R120): drift thresholds above 200,000 leave no part to
the drift of an estimate; over a run of evaluations above the level in
force the level stands until the K-th, which takes it to the lowest evaluation level of the run;
over a run whose clear level lies below it, until the M-th, which takes it to that evaluation's
clear level. Drift conditions (R121, R124): an evaluation that changes the level clears the condition
of the level it leaves and posts that of the level it enters, with the values evaluated and the counter
that moved it; a reset by a state notice puts the record back to NORMAL, applies pending limits, and
clears both conditions with no DRIFT_NORMAL (at HALT too: log entry 37, the model's reading). -/
def Obligations.DriftLevelMoves : Prop :=
  (∀ (x : Limits) (o d e : Nat),
    (x.evalLevel o d e).code ≤ (x.clearLevel o d e).code ∧
    (d ≤ 200000 → 200000 < x.driftWatch → 200000 < x.driftAlarm →
      x.evalLevel o d e = x.evalLevel o 0 e)) ∧
  (∀ (d : DriftRecord) (run : List (DriftLevel × DriftLevel)), d.raiseCount = 0 →
    d.raiseMin = none → 1 ≤ d.limits.k → (∀ v ∈ run, d.level.code < v.1.code) →
    (run.length < d.limits.k → (d.judgeRun run).level = d.level ∧
      (d.judgeRun run).raiseCount = run.length) ∧
    (run.length = d.limits.k → (d.judgeRun run).raiseCount = 0 ∧ (d.judgeRun run).raiseMin = none ∧
      (∃ v ∈ run, (d.judgeRun run).level = v.1) ∧
      ∀ v ∈ run, (d.judgeRun run).level.code ≤ v.1.code)) ∧
  (∀ (d : DriftRecord) (run : List (DriftLevel × DriftLevel)), d.fallCount = 0 → 1 ≤ d.limits.m →
    (∀ v ∈ run, v.2.code < d.level.code ∧ v.1.code ≤ v.2.code) →
    (run.length < d.limits.m → (d.judgeRun run).level = d.level ∧
      (d.judgeRun run).fallCount = run.length) ∧
    (∀ v, run.length = d.limits.m → run.getLast? = some v →
      (d.judgeRun run).level = v.2 ∧ (d.judgeRun run).fallCount = 0)) ∧
  (∀ (l : Link) (e : Estimate) (total : Int) (s : State),
    let d := s.driftOf l
    let m := d.evaluate e total
    let new := m.record.level
    let t := s.evaluate l e total
    t.driftOf l = m.record ∧ (m.moved = none → t = s.setDrift l m.record) ∧
    (new ≠ d.level →
      (d.level ≠ .normal → t.cru.isActive d.level.kind (.link l) = false) ∧
      (new ≠ .normal → s.cru.records? new.kind = true →
        t.cru.isActive new.kind (.link l) = true) ∧
      ∃ n, m.moved = some n ∧
        (s.cru.records? new.kind = true → s.cru.wants .a new.kind || s.cru.wants .b new.kind →
          s.cru.list.length < 64 → ∃ r ∈ t.cru.list, r.kind = new.kind ∧ r.scope = .link l ∧
            r.active = decide (new ≠ .normal) ∧
            r.details = { offset := some e.theta, drift := some e.rho, trimTotal := some total,
                          oldState := some d.level.code, newState := some new.code,
                          count := some n }))) ∧
  (∀ (l : Link) (s : State),
    let t := s.resetDrift l
    t.driftOf l = { s.driftOf l with
      level := .normal, raiseCount := 0, raiseMin := none, fallCount := 0, lastEval := none,
      limits := (s.driftOf l).pendingLimits.getD (s.driftOf l).limits, pendingLimits := none } ∧
    t.cru.isActive .driftWatch (.link l) = false ∧ t.cru.isActive .driftAlarm (.link l) = false ∧
    (∀ r ∈ t.cru.list, r.kind = .driftNormal → r ∈ s.cru.list) ∧
    ∀ x, x = .attaching ∨ x = .lost ∨ x = .idle ∨ x = .quarantined →
      s.stateNotice l x = (s.setDrift l { s.driftOf l with notified := x }).resetDrift l)

/-! ## Dating and the journal (chapters 8 and 9) -/

/-- A MARK (R68, R129, R132 to R134, R146, R149): the four checks in order, one VERDICT for each, no
other link touched, and an entry under the next sequence number for an accepted one alone, with the
event kind byte as it came (above 15 too: log entry 20, the model's choice). The class of a source (R129)
is that of the lowest-numbered enabled window that holds it. -/
def Obligations.MarksAnswered : Prop :=
  (∀ (l : Link) (m : Mark) (s : State), (s.link l).state = .up → NoIsolation s l →
      (s.link l).txQueue.length ≤ 30 → s.sdu.nextSequence < 4294967296 →
      let routed := (s.link l).rangeFirst ≤ m.rackIdentity.toNat ∧
        m.rackIdentity.toNat ≤ (s.link l).rangeLast
      let served := s.mgp.mode = .serving ∧ s.inService l = true
      let cls := s.sdu.classFor m.sourceIdentity.toNat
      let verdict (t : State) (r : VerdictResult) (sq : Option Nat) :=
        (t.link l).txQueue.getLast? = some (.verdict r m.markNumber.toNat sq)
      ∃ t : State, exec (.markFrame l m) s = .next t ∧ (t.link l).checkRun = 0 ∧
        (∀ o, o ≠ l → SameAt o s t) ∧
        (routed → (t.link l).errorTimes = (s.link l).errorTimes) ∧
        (¬ routed → (s.link l).errorTimes.length ≤ 16 →
          (t.link l).errorTimes.getLast? = some s.osc) ∧
        (¬ served → verdict t .notServed none ∧ t.sdu = s.sdu) ∧
        (served → ¬ routed → verdict t .misrouted none ∧ t.sdu = s.sdu) ∧
        (served → routed → cls = none → verdict t .unknownSource none ∧ t.sdu = s.sdu) ∧
        (∀ c, served → routed → cls = some c → 2048 ≤ s.sdu.journal.length →
          verdict t .journalFull none ∧ t.sdu = { s.sdu with
            journalFull := true
            fullRefusals := if s.sdu.journalFull then min 65535 (s.sdu.fullRefusals + 1) else 1 }) ∧
        (∀ c, served → routed → cls = some c → s.sdu.journal.length < 2048 →
          verdict t .accepted (some s.sdu.nextSequence) ∧
          ∃ x : JournalEntry, t.sdu = { s.sdu with
              journal := s.sdu.journal ++ [x]
              nextSequence := (s.sdu.nextSequence + 1) % 4294967296 } ∧
            x.sequence = s.sdu.nextSequence ∧ x.era = s.rtmEra ∧ x.link = l ∧ x.cls = c ∧
            x.rackIdentity = m.rackIdentity.toNat ∧ x.sourceIdentity = m.sourceIdentity.toNat ∧
            x.eventKind = m.eventKind.toNat ∧ x.markNumber = m.markNumber.toNat ∧
            x.generation = m.generation.toNat ∧ x.captureTime = m.captureTime.toNat)) ∧
  (∀ (d : Sdu) (source : Nat),
      (d.classFor source = none ↔ ∀ w ∈ d.windows.toList,
        ¬ (w.enable = true ∧ w.base ≤ source ∧ source ≤ w.limit)) ∧
      ∀ i : Fin 8, (d.windows[i].enable = true ∧ d.windows[i].base ≤ source ∧
          source ≤ d.windows[i].limit) →
        (∀ j : Fin 8, j < i → ¬ (d.windows[j].enable = true ∧ d.windows[j].base ≤ source ∧
          source ≤ d.windows[j].limit)) → d.classFor source = some d.windows[i].cls)

/-- The dating of an accepted MARK (R136 to R141). One that names no trim in flight: the estimate by
generation, the stamp, its uncertainty, and the quality. One that names the trim in flight completes
that trim as a TRIM-DONE with the trim's own apply-at does (R108, R137), and is dated by the new
current estimate. -/
def Obligations.MarksDated : Prop :=
  ∀ (l : Link) (m : Mark) (c : Fin 4) (s : State), (s.link l).state = .up → NoIsolation s l →
    (s.link l).txQueue.length ≤ 30 → s.mgp.mode = .serving → s.inService l = true →
    (s.link l).rangeFirst ≤ m.rackIdentity.toNat → m.rackIdentity.toNat ≤ (s.link l).rangeLast →
    s.sdu.classFor m.sourceIdentity.toNat = some c → s.sdu.journal.length < 2048 →
    let g := m.generation.toNat
    let older := ∃ y, (s.entry l).predecessor = some y ∧ y.generation = g
    let inFlight := ∃ y, (s.entry l).trim = some y ∧ y.generation = g
    ∃ (t : State) (x : JournalEntry), exec (.markFrame l m) s = .next t ∧
      t.sdu.journal = s.sdu.journal ++ [x] ∧
      ((s.entry l).unsettled = true → x.dating = .undated .noEstimate) ∧
      ((s.entry l).unsettled = false → g = (s.entry l).trimGeneration →
        (s.entry l).current = none → x.dating = .undated .noEstimate) ∧
      ((s.entry l).unsettled = false → g ≠ (s.entry l).trimGeneration → ¬ older → ¬ inFlight →
        x.dating = .undated .stale) ∧
      (∀ y : Estimate, (s.entry l).unsettled = false →
        ((g = (s.entry l).trimGeneration ∧ (s.entry l).current = some y) ∨
         (g ≠ (s.entry l).trimGeneration ∧ (s.entry l).predecessor = some y ∧ y.generation = g)) →
        t.entry l = s.entry l ∧ DatedBy s l c y m.captureTime.toNat x.dating) ∧
      (∀ y u, (s.entry l).unsettled = false → g ≠ (s.entry l).trimGeneration → ¬ older →
        (s.entry l).trim = some y → y.generation = g → y.applyAt < 18446744073709551616 →
        exec (.trimDone l m.generation (BitVec.ofNat 64 y.applyAt)) s = .next u →
        t.entry l = u.entry l ∧
        ((t.entry l).current = none → x.dating = .undated .noEstimate) ∧
        (∀ z, (t.entry l).current = some z → DatedBy s l c z m.captureTime.toNat x.dating))

/-- READ STAMPS (R150, R151): the oldest entries, up to the clamped count, leave the journal for the
reply, and the journal-full flag is cleared when 1,024 or fewer remain. HALT leaves the journal and its
draining as they stand. -/
def Obligations.ReadStampsRequest : Prop :=
  (∀ (p : Port) (tag : Byte) (s t : State), exec (.halt p tag []) s = .next t → t.sdu = s.sdu) ∧
  ∀ (p : Port) (tag count : Byte) (s : State), Accepts s p →
    let n := max 1 (min 6 count.toNat)
    ∃ t : State, exec (.readStamps p tag [count]) s = .next (t.replied p 0x42#8 tag
        (if n = count.toNat then .done else .doneClamped)
        (stampsBody (s.sdu.journal.take n) (s.sdu.journal.length - n))) ∧
      t.sdu.journal = s.sdu.journal.drop n ∧ t.sdu.nextSequence = s.sdu.nextSequence ∧
      t.sdu.waitOuts = s.sdu.waitOuts ∧
      (s.sdu.journal.length ≤ 1024 + n →
        t.sdu.journalFull = false ∧
        (s.sdu.journalFull = true → t.sdu.fullRefusals = 0 ∧
          t.cru.isActive .journalFull .part = false)) ∧
      (1024 + n < s.sdu.journal.length → t.sdu.journalFull = s.sdu.journalFull ∧
        t.sdu.fullRefusals = s.sdu.fullRefusals) ∧
      t = { s.taken p 0x42#8 tag with sdu := t.sdu, cru := t.cru }

/-- SET SOURCE WINDOW (R128, R143) and SET CLASS (R144): what is stored, what is refused, and the
reply. -/
def Obligations.WindowAndClassRequests : Prop :=
  ∀ (p : Port) (tag : Byte) (s : State), Accepts s p →
    (∀ (w : Fin 8) (enable : Bool) (base limit : Nat) (c : Fin 4), base < 65536 → limit < 65536 →
      let body := byteOf w.val ++ [flagByte enable] ++ beBytes 2 base ++ beBytes 2 limit ++
        byteOf c.val
      let stored : SourceWindow :=
        { enable := enable, base := base - base % 64, limit := limit - limit % 64 + 63, cls := c }
      (s.mgp.mode = .serving → exec (.setSourceWindow p tag body) s =
        .next ((s.taken p 0x40#8 tag).replied p 0x40#8 tag .wrongMode (s.windowBody w))) ∧
      (s.mgp.mode = .setup → stored.limit < stored.base → exec (.setSourceWindow p tag body) s =
        .next ((s.taken p 0x40#8 tag).replied p 0x40#8 tag .range (s.windowBody w))) ∧
      (s.mgp.mode = .setup → stored.base ≤ stored.limit → exec (.setSourceWindow p tag body) s =
        .next (((s.taken p 0x40#8 tag).setSdu { s.sdu with
            windows := s.sdu.windows.set w stored }).replied p 0x40#8 tag .done
          (byteOf w.val ++ [flagByte enable] ++ beBytes 2 stored.base ++ beBytes 2 stored.limit ++
            byteOf c.val)))) ∧
    (∀ (c : Fin 4) (report : Bool) (limit : Nat), limit < 4294967296 →
      exec (.setClass p tag (byteOf c.val ++ [0#8] ++ beBytes 4 limit ++ [flagByte report])) s =
        .next ((s.taken p 0x41#8 tag).replied p 0x41#8 tag .done (s.classBody c)) ∧
      ∃ t : State,
        exec (.setClass p tag (byteOf c.val ++ [1#8] ++ beBytes 4 limit ++ [flagByte report])) s =
          .next (t.replied p 0x41#8 tag .done
            (byteOf c.val ++ beBytes 4 limit ++ [flagByte report])) ∧
        t.sdu = { s.sdu with
          classes := s.sdu.classes.set c { qualityLimit := limit, reportDegraded := report } } ∧
        (report = false → t.cru.isActive .stampDegraded (.cls c) = false) ∧
        t = { s.taken p 0x41#8 tag with sdu := t.sdu, cru := t.cru })

/-- WAIT UNTIL (R153) and the release of wait-outs (R154): the four checks in order, release at
once, parking in target order with a deferred reply; and every wait-out whose test holds leaves the
list with a DONE reply, in list order. A reply where u_hall is absent carries 0 for it (log entry 23: the
model's reading). -/
def Obligations.WaitOuts : Prop :=
  (∀ (p : Port) (tag : Byte) (target era : Nat) (s : State), Accepts s p →
    target < 18446744073709551616 → era < 65536 →
    ¬ (s.readNow.era = s.sdu.lastReading.era ∧ s.readNow.hall < s.sdu.lastReading.hall) →
    let body := beBytes 8 target ++ beBytes 2 era
    let now := waitReply s.readNow.hall s.readNow.era (s.uHall.getD 0) s.rdu.tsState
    let answered (r : Result) (b : List Byte) :=
      exec (.waitUntil p tag body) s = .next ((s.taken p 0x43#8 tag).replied p 0x43#8 tag r b)
    (16 ≤ s.sdu.waitOuts.length ∨ 8 ≤ s.sdu.share p → answered .busy []) ∧
    (s.sdu.waitOuts.length < 16 → s.sdu.share p < 8 →
      (era ≠ s.readNow.era → answered .stepped now) ∧
      (era = s.readNow.era → s.declaresTime = false → answered .untimed now) ∧
      (era = s.readNow.era → s.declaresTime = true →
        s.readNow.hall + 10000000000 < target → answered .range now) ∧
      (era = s.readNow.era → s.declaresTime = true →
        target ≤ s.readNow.hall + 10000000000 → ∀ u, s.uHall = some u →
        (u < 4294967295 → target + u ≤ s.readNow.hall → answered .done now) ∧
        (4294967295 ≤ u ∨ s.readNow.hall < target + u → ∃ before after : List WaitOut,
          s.sdu.waitOuts = before ++ after ∧
          (∀ x, after.head? = some x → target < x.target) ∧ (∀ x ∈ before, x.target ≤ target) ∧
          exec (.waitUntil p tag body) s = .next
            ((s.setPort p { s.port p with receiver := .hunting }).setSdu { s.sdu with
              waitOuts := before ++
                { port := p, tag := tag, target := target, era := era, arrival := s.osc } ::
                after }))))) ∧
  (∀ s : State, ∃ t : State, exec .waitOutRelease s = .next t ∧
    let test (w : WaitOut) : Bool := decide (s.readNow.era = w.era) && s.declaresTime &&
      s.uHall.any (fun u => decide (u < 4294967295) && decide (w.target + u ≤ s.readNow.hall))
    t.sdu = { s.sdu with waitOuts := s.sdu.waitOuts.filter (fun w => !test w) } ∧
    t.tsu = s.tsu ∧ t.rdu = s.rdu ∧ t.epg = s.epg ∧ t.cru = s.cru ∧ ClockOnly s t ∧
    ∀ q, (s.port q).queue.length + s.sdu.share q ≤ 16 →
      (t.port q).replies = (s.port q).replies ++ waitReplies q .done
        (waitReply s.readNow.hall s.readNow.era (s.uHall.getD 0) s.rdu.tsState)
        (s.sdu.waitOuts.filter test))

/-! ## Conditions (chapter 10) -/

/-- Raises and clears taken by the condition reporting unit (R158, R160 to R163, R167). A raise of a
kind whose recording is off changes nothing. Another puts a state kind into the active set and is
posted: folded into an undelivered record of its kind and scope in its place, else appended as a new
record, for which a list of 64 gives up its oldest inactive record, or refuses where all are active,
with one more refusal counted and CONDITION_LIST_FULL raised in the reserved slot. A clear of an
active condition takes it out of the active set; of its active records a withdrawable one never taken
is withdrawn, and any other stays, inactive, while a port is owed it. The ancillary mark: a LINK_DOWN
within 1,000,000,000 ns of one of its group, and the three rack kinds raised with cause LINK. Three
points are the model's readings: that a raise is folded into the first in list order where a repost
leaves two undelivered records of one kind and scope, the refreshed posted-at of an inactive reserved
record (log entry 17 for both), and the limit of 1,000,000,000 ns itself (log entry 29). -/
def Obligations.ConditionsRaisedAndCleared : Prop :=
  (∀ (s : State) (k : CondKind) (sc : Scope) (d : Details) (f : Bool), s.cru.records? k = false →
      s.raiseWith k sc d f = s) ∧
  (∀ (s : State) (k : CondKind) (sc : Scope) (d : Details) (f : Bool), s.cru.records? k = true →
      k ≠ .conditionListFull → s.cru.SlotApart →
      let anc := s.cru.ancillaryMark k sc f s.osc
      let wanted := s.cru.wants .a k || s.cru.wants .b k
      let due : PendFlags := if k.isBroadcast = true
        then .broadcast (s.cru.wants .a k) (s.cru.wants .b k) else .floating wanted
      let fresh : CondRecord :=
        { kind := k, scope := sc, posted := s.readNow, active := k.isState, repeats := 0,
          ancillary := anc, pend := due, taken := false, takenSince := false, lastTake := none,
          repostDue := none, details := d }
      let added : List CondRecord := if k.isState = true ∨ wanted = true then [fresh] else []
      let same (y : CondRecord) : Prop := y.kind = k ∧ y.scope = sc ∧ y.takenSince = false
      ∃ c : Cru, s.raiseWith k sc d f = s.setCru c ∧
        (k.isState = true → c.isActive k sc = true) ∧
        (k.isState = false → c.isActive k sc = s.cru.isActive k sc) ∧
        (∀ k' sc', (k', sc') ≠ (k, sc) → k' ≠ .conditionListFull →
          c.isActive k' sc' = s.cru.isActive k' sc') ∧
        (∀ before x after, s.cru.list = before ++ x :: after → same x → (∀ y ∈ before, ¬ same y) →
          c.reserved = s.cru.reserved ∧ c.list = before ++
            { x with repeats := min 255 (x.repeats + 1), details := d, posted := s.readNow,
                     ancillary := x.ancillary && anc, active := k.isState, pend := due } :: after) ∧
        ((∀ y ∈ s.cru.list, ¬ same y) →
          (s.cru.list.length < 64 → c.list = s.cru.list ++ added ∧ c.reserved = s.cru.reserved) ∧
          (∀ before x after, 64 ≤ s.cru.list.length → s.cru.list = before ++ x :: after →
            x.active = false → (∀ y ∈ before, y.active = true) →
            c.list = before ++ after ++ added ∧ c.reserved = s.cru.reserved) ∧
          (64 ≤ s.cru.list.length → (∀ y ∈ s.cru.list, y.active = true) →
            c.list = s.cru.list ∧ c.isActive .conditionListFull .part = true ∧
            c.listFullRefusals = min 65535 (s.cru.listFullRefusals + 1) ∧
            ∃ r, c.reserved = some r ∧ r.active = true ∧ r.posted = s.readNow ∧
              r.details = { count := some c.listFullRefusals } ∧
              (s.cru.reserved = none → r.kind = .conditionListFull ∧ r.scope = .part ∧
                r.pend = .broadcast true true ∧ r.repeats = 0 ∧ r.taken = false) ∧
              (∀ x, s.cru.reserved = some x → r.kind = x.kind ∧ r.taken = x.taken ∧
                (x.takenSince = true → x.active = true → r.pend = x.pend ∧ r.repeats = x.repeats) ∧
                (x.takenSince = false ∨ x.active = false →
                  r.pend = .broadcast true true ∧ r.repeats = min 255 (x.repeats + 1)))))) ∧
  (∀ (s : State) (k : CondKind) (sc : Scope), ∃ c : Cru, s.clearCond k sc = s.setCru c ∧
      (s.cru.isActive k sc = false → c = s.cru) ∧
      (s.cru.isActive k sc = true →
        c.isActive k sc = false ∧
        (∀ k' sc', (k', sc') ≠ (k, sc) → c.isActive k' sc' = s.cru.isActive k' sc') ∧
        ((∀ r, s.cru.reserved = some r → r.kind ≠ k) → c.reserved = s.cru.reserved) ∧
        c.list = s.cru.list.filterMap (fun x =>
          if x.kind = k ∧ x.scope = sc ∧ x.active = true then
            if k.isWithdrawable = true ∧ x.taken = false then none
            else if s.cru.deliverable .a x = true ∨ s.cru.deliverable .b x = true
              then some { x with active := false, repostDue := none } else none
          else some x))) ∧
  (∀ (c : Cru) (k : CondKind) (sc : Scope) (f : Bool) (now : Nat),
      (∀ l : Link, c.ancillaryMark .linkDown (.link l) f now = true ↔
        ∃ m : Link, m ≠ l ∧ m.val / 8 = l.val / 8 ∧
          ∃ o, c.lastLinkDown[m] = some o ∧ now ≤ o + 1000000000) ∧
      (k = .rackCoasting ∨ k = .rackLost ∨ k = .trimLost → c.ancillaryMark k sc f now = f) ∧
      (k ≠ .linkDown → k ≠ .rackCoasting → k ≠ .rackLost → k ≠ .trimLost →
        c.ancillaryMark k sc f now = false))

/-- TAKE CONDITION (R164, R165): the oldest deliverable record of the list is taken by the port, the
reserved record where none of the list is deliverable, and it leaves its place once inactive and owed
to no port; where none is deliverable the reply marks the record absent and nothing is taken; each
attention line is low exactly while a record is deliverable to its port, and CONDITION_LIST_FULL is
judged at the end of the event (R162). -/
def Obligations.TakeConditionRequest : Prop :=
  ∀ (p : Port) (tag : Byte) (s : State), Accepts s p → s.cru.SlotApart →
    let after (x : CondRecord) : CondRecord :=
      { x with pend := x.pend.takenBy p, taken := true, takenSince := true, lastTake := some s.osc,
               repostDue := if x.active = true ∧ s.cru.repostInterval ≠ 0
                 then some (s.osc + s.cru.repostInterval * 1000000000) else none }
    let kept (x : CondRecord) : Option CondRecord :=
      if x.active = true ∨ x.owed = true then some x else none
    ∃ (t : State) (u : Cru) (b : List Byte),
      exec (.takeCondition p tag []) s = .next (t.replied p 0x50#8 tag .done b) ∧
      t = { s.taken p 0x50#8 tag with cru := t.cru } ∧ ListFullJudged u t.cru ∧
      u = { s.cru with list := u.list, reserved := u.reserved } ∧
      ((∀ x ∈ s.cru.list ++ s.cru.reserved.toList, s.cru.deliverable p x = false) →
        u = s.cru ∧ field b 0 1 = 0 ∧
        b = conditionBody none (t.cru.deliverableCount p)) ∧
      (∀ before x rest, s.cru.list = before ++ x :: rest → s.cru.deliverable p x = true →
        (∀ y ∈ before, s.cru.deliverable p y = false) →
        u.list = before ++ (kept (after x)).toList ++ rest ∧ u.reserved = s.cru.reserved ∧
        t.cru.deliverable p (after x) = false ∧ field b 0 1 = x.kind.code ∧
        b = conditionBody (some (after x)) (t.cru.deliverableCount p)) ∧
      (∀ x, (∀ y ∈ s.cru.list, s.cru.deliverable p y = false) → s.cru.reserved = some x →
        s.cru.deliverable p x = true →
        u.list = s.cru.list ∧ u.reserved = kept (after x) ∧
        t.cru.deliverable p (after x) = false ∧ field b 0 1 = x.kind.code ∧
        b = conditionBody (some (after x)) (t.cru.deliverableCount p))

/-- SET REPORTING (R170): the mask of the port named, the pending flags that a class off clears, the
records no port needs removed, and the reply. SET REPOST (R172): the clamped interval, the repost due
of every active taken record reckoned from its last take (one reposted and not taken again among them:
log entry 17), removed at 0, and the records it makes due reposted in list order. A repost (R166): at
its due an active record is owed afresh and moves to the end of the list, or stays in the reserved
slot (place 64). A repost presented before its due leaves the records (log entry 10: the model's
choice). CONDITION_LIST_FULL is judged at the end of each event (R162). -/
def Obligations.ReportingAndReposts : Prop :=
  (∀ (p q : Port) (tag : Byte) (mask : BitVec 7) (s : State), Accepts s p → s.cru.SlotApart →
    ∃ (t : State) (u : Cru),
    exec (.setReporting p tag [if q = .a then 0#8 else 1#8, mask.setWidth 8]) s =
      .next (t.replied p 0x51#8 tag .done
        [mask.setWidth 8, BitVec.ofNat 8 (t.cru.deliverableCount q)]) ∧
    t = { s.taken p 0x51#8 tag with cru := t.cru } ∧ ListFullJudged u t.cru ∧
    u = { s.cru with maskA := u.maskA, maskB := u.maskB, list := u.list, reserved := u.reserved } ∧
    u.mask q = mask ∧ (∀ o, o ≠ q → u.mask o = s.cru.mask o) ∧
    (let dropped (x : CondRecord) : CondRecord :=
       if x.kind.isExigent = true ∨ mask.getLsbD x.kind.cls = true then x
       else { x with pend := x.pend.droppedFor q }
     let stays (x : CondRecord) : Bool := x.active || u.deliverable .a x || u.deliverable .b x
     u.list = (s.cru.list.map dropped).filter stays ∧ u.reserved = s.cru.reserved.filter stays)) ∧
  (∀ (p : Port) (tag : Byte) (v : Nat) (s : State), Accepts s p → v < 65536 → s.cru.SlotApart →
    let i := min 3600 v
    let redue (x : CondRecord) : CondRecord :=
      if i = 0 then { x with repostDue := none }
      else if x.active = true ∧ x.taken = true then
        { x with repostDue := x.lastTake.map (fun o => o + i * 1000000000) }
      else x
    let reached (x : CondRecord) : Bool :=
      x.active && x.repostDue.any (fun d => decide (d ≤ s.osc))
    let again (x : CondRecord) : CondRecord :=
      { x with pend := s.cru.freshPend x.kind, repostDue := none, takenSince := false }
    ∃ (t : State) (u : Cru),
    exec (.setRepost p tag (beBytes 2 v)) s =
      .next (t.replied p 0x54#8 tag (if v ≤ 3600 then .done else .doneClamped) (beBytes 2 i)) ∧
    t = { s.taken p 0x54#8 tag with cru := t.cru } ∧ ListFullJudged u t.cru ∧
    u = { s.cru with repostInterval := i, list := u.list, reserved := u.reserved } ∧
    u.list = (s.cru.list.map redue).filter (fun x => !reached x) ++
      ((s.cru.list.map redue).filter reached).map again ∧
    u.reserved = (s.cru.reserved.map redue).map (fun x => if reached x then again x else x)) ∧
  (∀ (i : Nat) (x : CondRecord) (s : State), s.cru.SlotApart →
    let again : CondRecord :=
      { x with pend := s.cru.freshPend x.kind, repostDue := none, takenSince := false }
    let due := x.active = true ∧ ∃ d, x.repostDue = some d ∧ d ≤ s.osc
    (i < 64 ∧ s.cru.list[i]? = some x) ∨ (i = 64 ∧ s.cru.reserved = some x) →
    ∃ (t : State) (u : Cru), exec (.repost i) s = .next t ∧ t = { s with cru := t.cru } ∧
      ListFullJudged u t.cru ∧
      (¬ due → u = s.cru) ∧
      (due → i < 64 → u = { s.cru with list := s.cru.list.eraseIdx i ++ [again] }) ∧
      (due → i = 64 → u = { s.cru with reserved := some again }))

/-- SET RECORDING (R169) and SET ACTION (R168, R171): the switch stored, or refused for an exigent
kind; a switch off takes every scope of its kind out of the active set; the actions stored, for one
group or for ALL, and the flags of every link those of the new active set and actions. The reply of
SET ACTION shows all five groups (log entry 24: the model's reading). -/
def Obligations.RecordingAndActions : Prop :=
  (∀ (p : Port) (tag : Byte) (k : CondKind) (on : Bool) (s : State), Accepts s p → ∃ t : State,
    exec (.setRecording p tag (byteOf k.code ++ [flagByte on])) s =
      .next (t.replied p 0x52#8 tag
        (if k.isExigent = true ∧ on = false then .doneClamped else .done)
        (byteOf k.code ++ [flagByte (on || k.isExigent)])) ∧
    (k.isExigent = true → t = s.taken p 0x52#8 tag) ∧
    (k.isExigent = false → on = true → ∀ x, t.cru.records? x = (s.cru.records? x || decide (x = k))) ∧
    (k.isExigent = false → on = false → (∀ l, s.inService l = true → FlagsMatch s l) →
      (∀ sc, t.cru.isActive k sc = false) ∧ t.cru.records? k = false ∧
      ∀ l, FlagsMatch s l → FlagsMatch t l)) ∧
  (∀ (p : Port) (tag : Byte) (g : Fin 5) (drift : Bool) (a : Action) (s : State), Accepts s p →
    ∃ t : State,
    exec (.setAction p tag (byteOf g.val ++ byteOf (if drift then 19 else 9) ++ byteOf a.code)) s =
      .next (t.replied p 0x53#8 tag .done t.actionsBody) ∧
    t.cru.actions = s.cru.actions.set g
      (if drift then { s.cru.actions[g] with driftAlarm := a }
        else { s.cru.actions[g] with linkErrorRate := a }) ∧
    (∀ l, groupIndex l ≠ g → SameAt l s t) ∧
    (∀ l, FlagsMatch s l → FlagsMatch t l) ∧
    (∀ l, groupIndex l = g → FlagsMatch s l → s.inService l = true →
      (s.cru.isActive .driftAlarm (.link l) = true ∧ drift = true ∨
        s.cru.isActive .linkErrorRate (.link l) = true ∧ drift = false) → a = .isolate →
      (s.entry l).isolate = false →
      (t.entry l).state = .quarantined ∧ (t.entry l).quarantineReason = some .isolated)) ∧
  (∀ (p : Port) (tag : Byte) (drift : Bool) (a : Action) (s : State), Accepts s p → ∃ t : State,
    exec (.setAction p tag ([255#8] ++ byteOf (if drift then 19 else 9) ++ byteOf a.code)) s =
      .next (t.replied p 0x53#8 tag .done t.actionsBody) ∧
    (∀ g : Fin 5, t.cru.actions[g] =
      if drift then { s.cru.actions[g] with driftAlarm := a }
        else { s.cru.actions[g] with linkErrorRate := a }) ∧
    ∀ l, FlagsMatch s l → FlagsMatch t l)

/-! ## Encodings -/

/-- Decoding a received frame undoes its encoding (12, R63, R186): for every HELLO, ECHO, TRIM-DONE
and MARK the frame its endpoint sends is that command again; with any other check it is a check
failure; and a frame of any other kind byte that passes its check is of an unknown kind. The blocks
of a frame received on an aligned UP link (R53, R62) give the command its bytes decode to, and no
other. -/
def Obligations.SpanFramesRoundTrip : Prop :=
  (∀ (c : Instr) (l : Link) (arrival : Nat) (bytes : List Byte), framePayload c = some bytes →
    ((∃ h, c = .hello l h) ∨ (∃ e, c = .echo l arrival e) ∨ (∃ g a, c = .trimDone l g a) ∨
      (∃ m, c = .markFrame l m)) →
    decodeSpanFrame l arrival bytes (spanCheck bytes) = c ∧
    ∀ x, x ≠ spanCheck bytes →
      decodeSpanFrame l arrival bytes x = .receivedFrameCheckFailure l) ∧
  (∀ (l : Link) (arrival : Nat) (bytes : List Byte),
    field bytes 0 1 < 129 ∨ 132 < field bytes 0 1 →
    decodeSpanFrame l arrival bytes (spanCheck bytes) = .unknownKind l) ∧
  (∀ (l : Link) (arrival later : Nat) (bytes : List Byte) (check : BitVec 32) (x : Lane),
    bytes.length % 4 = 0 → bytes.length < 256 → x.aligned = true → x.frame = none →
    Lane.run l .up ((arrival, startBlock) ::
        (payloadBlocks bytes ++ [({ header := 0b11#2, payload := check } : Block)]).map
          (fun b => (later, b))) x =
      [decodeSpanFrame l arrival bytes check])

/-! ## Whole-part rules -/

/-- The events of one link (R53, R54, R74) change nothing that belongs to another link, and nothing
of hall time, the references, the epoch outputs, the ports, the journal or the wait-outs. -/
def Obligations.LinkEventsStayOnTheirLink : Prop :=
  ∀ (c : Instr) (l : Link) (s t : State), linkEventOf c = some l → exec c s = .next t → OnlyLink l s t

/-- The events of hall time, the references and the epoch outputs change no link, no rack entry, no
drift record, no journal entry and no setting of the ports. -/
def Obligations.ClockEventsTouchNoLink : Prop :=
  ∀ (c : Instr) (s t : State), isClockEvent c = true → exec c s = .next t → ClockOnly s t

/-- The era (R11) and the mode (R179) move only where the spec moves them: the era by one at a step,
which a mark or STEP TIME takes, and to 0 at cold reset; the mode by SERVE, HALT and the two resets.
No command touches the queue of waiting commands, which is the model's own (log entry 1). -/
def Obligations.EraAndModeMoves : Prop :=
  ∀ (c : Instr) (s t : State), exec c s = .next t →
    t.pending = s.pending ∧
    (t.tsu.era = s.tsu.era ∨
      (t.tsu.era = (s.tsu.era + 1) % 65536 ∧
        ((∃ r o, c = .markArrival r o) ∨ (∃ p tag b, c = .stepTime p tag b) ∨
          ∃ p b, c = .managementPortByte p b)) ∨
      (t.tsu.era = 0 ∧ ∃ x y, c = .coldReset x y)) ∧
    (t.mgp.mode = s.mgp.mode ∨
      (∃ p tag b, c = .serve p tag b) ∨ (∃ p tag b, c = .halt p tag b) ∨
      (∃ p b, c = .managementPortByte p b) ∨
      (t.mgp.mode = .setup ∧ (c = .warmRestart ∨ (∃ p, c = .replyTransmissionEnd p) ∨
        ∃ x y, c = .coldReset x y)))

/-- The bounds of the tables hold after every step from a state in which they hold: the journal of
at most 2,048 entries under consecutive sequence numbers (R145, R146), the condition list of 64
(R162), the wait-outs of 16 and 8 (R152), the reply queues of 16 (R176), the transmit queues of 32
and error times of 16 (R60, R65), the windows of 8 (R98), the drifts of estimates within ±200,000 ppb
(6.3; a drift that a trim moves by log entry 36, the model's reading), the segment history of four (R4)
and the rates within ±100,000,000 ppt (R3). -/
def Obligations.TablesStayInBounds : Prop :=
  ∀ s t : State, InBounds s → step s = .next t → InBounds t

/-- One holder for each rack identity (R77, R79), probes and trims only in service (R78, R79, R89,
R96), service only in SERVING (R75), and action flags that follow the active set (R168; log entry 45
where an event that keeps them clears what drives them: the model's reading): kept by every step. -/
def Obligations.ServiceStaysSound : Prop :=
  ∀ s t : State, SoundService s → step s = .next t → SoundService t

/-- Both invariants hold right after cold reset. -/
def Obligations.ResetMeetsInvariants : Prop :=
  InBounds State.reset ∧ SoundService State.reset
end

