-- ==== Sys2Proof/Laws/Bytes.lean ====
section
/-!
SUPPORT. The byte order of R186: lengths, and the round trip between a number and its bytes.
-/

namespace Sys2Proof.Machine

@[simp] theorem beBytes_length (n v : Nat) : (beBytes n v).length = n := by
  induction n generalizing v with
  | zero => rfl
  | succ n ih => simp [beBytes, ih]

@[simp] theorem natOfBytes_nil : natOfBytes [] = 0 := rfl

theorem natOfBytes_foldl (acc : Nat) (bs : List Byte) :
    bs.foldl (fun acc b => acc * 256 + b.toNat) acc = acc * 256 ^ bs.length + natOfBytes bs := by
  induction bs generalizing acc with
  | nil => simp [natOfBytes]
  | cons b bs ih =>
    have e : natOfBytes (b :: bs) = b.toNat * 256 ^ bs.length + natOfBytes bs := by
      have := ih (0 * 256 + b.toNat)
      simpa [natOfBytes] using this
    rw [List.foldl_cons, ih, e, List.length_cons, pow_succ]
    ring

theorem natOfBytes_cons (b : Byte) (bs : List Byte) :
    natOfBytes (b :: bs) = b.toNat * 256 ^ bs.length + natOfBytes bs := by
  have := natOfBytes_foldl (0 * 256 + b.toNat) bs
  simpa [natOfBytes] using this

theorem natOfBytes_append (a b : List Byte) :
    natOfBytes (a ++ b) = natOfBytes a * 256 ^ b.length + natOfBytes b := by
  unfold natOfBytes
  rw [List.foldl_append, natOfBytes_foldl]
  rfl

/-- The bytes of a number spell it, modulo 256^n. -/
theorem natOfBytes_beBytes (n v : Nat) (h : v < 256 ^ n) : natOfBytes (beBytes n v) = v := by
  induction n generalizing v with
  | zero => simp at h; simp [beBytes, h]
  | succ n ih =>
    have hpos : 0 < 256 ^ n := Nat.pow_pos (by omega)
    have hq : v / 256 ^ n < 256 := by
      rw [Nat.div_lt_iff_lt_mul hpos, Nat.mul_comm, ← pow_succ]; exact h
    rw [beBytes, natOfBytes_cons, beBytes_length, ih _ (Nat.mod_lt _ hpos), BitVec.toNat_ofNat,
      Nat.mod_eq_of_lt (by simpa using hq), Nat.mul_comm]
    exact Nat.div_add_mod v (256 ^ n)

/-- Bytes spell a number below 256 to the power of their count. -/
theorem natOfBytes_lt (bs : List Byte) : natOfBytes bs < 256 ^ bs.length := by
  induction bs with
  | nil => simp
  | cons b bs ih =>
    rw [natOfBytes_cons, List.length_cons, pow_succ]
    have := b.isLt
    nlinarith

/-- The bytes of the number that bytes spell are those bytes. -/
theorem beBytes_natOfBytes (bs : List Byte) : beBytes bs.length (natOfBytes bs) = bs := by
  induction bs with
  | nil => rfl
  | cons b bs ih =>
    have hlt := natOfBytes_lt bs
    have hpos : 0 < 256 ^ bs.length := Nat.pow_pos (by omega)
    rw [List.length_cons, beBytes, natOfBytes_cons]
    rw [Nat.mul_comm, Nat.mul_add_div hpos, Nat.div_eq_of_lt hlt, Nat.mul_add_mod,
      Nat.mod_eq_of_lt hlt, ih]
    simp

/-- A field that starts a list. -/
theorem field_zero_append (a b : List Byte) (n : Nat) (h : a.length = n) :
    field (a ++ b) 0 n = natOfBytes a := by
  simp [field, ← h]

/-- A field behind a prefix. -/
theorem field_append (a b : List Byte) (off n : Nat) (h : a.length ≤ off) :
    field (a ++ b) off n = field b (off - a.length) n := by
  simp [field, List.drop_append, List.drop_eq_nil_of_le h]

theorem field_cons_succ (x : Byte) (b : List Byte) (off n : Nat) :
    field (x :: b) (off + 1) n = field b off n := by simp [field]

theorem field_cons_zero (x : Byte) (b : List Byte) : field (x :: b) 0 1 = x.toNat := by
  simp [field, natOfBytes]

end Sys2Proof.Machine
end

