-- ==== Sys2Proof/Laws/State.lean ====
section
/-!
SUPPORT. One lemma per field per update of State, and the reads of the per-link vectors after a write.
-/

namespace Sys2Proof.Machine

variable (s : State) (l m : Link) (p : Port) (x : RefId)

/-! ### setTsu -/

@[simp] theorem State.setTsu_osc (t : Tsu) : (s.setTsu t).osc = s.osc := rfl
@[simp] theorem State.setTsu_tsu (t : Tsu) : (s.setTsu t).tsu = t := rfl
@[simp] theorem State.setTsu_rdu (t : Tsu) : (s.setTsu t).rdu = s.rdu := rfl
@[simp] theorem State.setTsu_epg (t : Tsu) : (s.setTsu t).epg = s.epg := rfl
@[simp] theorem State.setTsu_links (t : Tsu) : (s.setTsu t).links = s.links := rfl
@[simp] theorem State.setTsu_rtmEra (t : Tsu) : (s.setTsu t).rtmEra = s.rtmEra := rfl
@[simp] theorem State.setTsu_entries (t : Tsu) : (s.setTsu t).entries = s.entries := rfl
@[simp] theorem State.setTsu_drift (t : Tsu) : (s.setTsu t).drift = s.drift := rfl
@[simp] theorem State.setTsu_sdu (t : Tsu) : (s.setTsu t).sdu = s.sdu := rfl
@[simp] theorem State.setTsu_cru (t : Tsu) : (s.setTsu t).cru = s.cru := rfl
@[simp] theorem State.setTsu_mgp (t : Tsu) : (s.setTsu t).mgp = s.mgp := rfl
@[simp] theorem State.setTsu_choices (t : Tsu) : (s.setTsu t).choices = s.choices := rfl
@[simp] theorem State.setTsu_pending (t : Tsu) : (s.setTsu t).pending = s.pending := rfl
@[simp] theorem State.setTsu_link (t : Tsu) : (s.setTsu t).link l = s.link l := rfl
@[simp] theorem State.setTsu_entry (t : Tsu) : (s.setTsu t).entry l = s.entry l := rfl
@[simp] theorem State.setTsu_driftOf (t : Tsu) : (s.setTsu t).driftOf l = s.driftOf l := rfl
@[simp] theorem State.setTsu_port (t : Tsu) : (s.setTsu t).port p = s.port p := by cases p <;> rfl
@[simp] theorem State.setTsu_ref (t : Tsu) : (s.setTsu t).ref x = s.ref x := by cases x <;> rfl
@[simp] theorem State.setTsu_setTsu (t : Tsu) (t' : Tsu) :
    (s.setTsu t).setTsu t' = s.setTsu t' := rfl

/-! ### setRdu -/

@[simp] theorem State.setRdu_osc (r : Rdu) : (s.setRdu r).osc = s.osc := rfl
@[simp] theorem State.setRdu_tsu (r : Rdu) : (s.setRdu r).tsu = s.tsu := rfl
@[simp] theorem State.setRdu_rdu (r : Rdu) : (s.setRdu r).rdu = r := rfl
@[simp] theorem State.setRdu_epg (r : Rdu) : (s.setRdu r).epg = s.epg := rfl
@[simp] theorem State.setRdu_links (r : Rdu) : (s.setRdu r).links = s.links := rfl
@[simp] theorem State.setRdu_rtmEra (r : Rdu) : (s.setRdu r).rtmEra = s.rtmEra := rfl
@[simp] theorem State.setRdu_entries (r : Rdu) : (s.setRdu r).entries = s.entries := rfl
@[simp] theorem State.setRdu_drift (r : Rdu) : (s.setRdu r).drift = s.drift := rfl
@[simp] theorem State.setRdu_sdu (r : Rdu) : (s.setRdu r).sdu = s.sdu := rfl
@[simp] theorem State.setRdu_cru (r : Rdu) : (s.setRdu r).cru = s.cru := rfl
@[simp] theorem State.setRdu_mgp (r : Rdu) : (s.setRdu r).mgp = s.mgp := rfl
@[simp] theorem State.setRdu_choices (r : Rdu) : (s.setRdu r).choices = s.choices := rfl
@[simp] theorem State.setRdu_pending (r : Rdu) : (s.setRdu r).pending = s.pending := rfl
@[simp] theorem State.setRdu_link (r : Rdu) : (s.setRdu r).link l = s.link l := rfl
@[simp] theorem State.setRdu_entry (r : Rdu) : (s.setRdu r).entry l = s.entry l := rfl
@[simp] theorem State.setRdu_driftOf (r : Rdu) : (s.setRdu r).driftOf l = s.driftOf l := rfl
@[simp] theorem State.setRdu_port (r : Rdu) : (s.setRdu r).port p = s.port p := by cases p <;> rfl
@[simp] theorem State.setRdu_setRdu (r : Rdu) (r' : Rdu) :
    (s.setRdu r).setRdu r' = s.setRdu r' := rfl

/-! ### setEpg -/

@[simp] theorem State.setEpg_osc (g : Epg) : (s.setEpg g).osc = s.osc := rfl
@[simp] theorem State.setEpg_tsu (g : Epg) : (s.setEpg g).tsu = s.tsu := rfl
@[simp] theorem State.setEpg_rdu (g : Epg) : (s.setEpg g).rdu = s.rdu := rfl
@[simp] theorem State.setEpg_epg (g : Epg) : (s.setEpg g).epg = g := rfl
@[simp] theorem State.setEpg_links (g : Epg) : (s.setEpg g).links = s.links := rfl
@[simp] theorem State.setEpg_rtmEra (g : Epg) : (s.setEpg g).rtmEra = s.rtmEra := rfl
@[simp] theorem State.setEpg_entries (g : Epg) : (s.setEpg g).entries = s.entries := rfl
@[simp] theorem State.setEpg_drift (g : Epg) : (s.setEpg g).drift = s.drift := rfl
@[simp] theorem State.setEpg_sdu (g : Epg) : (s.setEpg g).sdu = s.sdu := rfl
@[simp] theorem State.setEpg_cru (g : Epg) : (s.setEpg g).cru = s.cru := rfl
@[simp] theorem State.setEpg_mgp (g : Epg) : (s.setEpg g).mgp = s.mgp := rfl
@[simp] theorem State.setEpg_choices (g : Epg) : (s.setEpg g).choices = s.choices := rfl
@[simp] theorem State.setEpg_pending (g : Epg) : (s.setEpg g).pending = s.pending := rfl
@[simp] theorem State.setEpg_link (g : Epg) : (s.setEpg g).link l = s.link l := rfl
@[simp] theorem State.setEpg_entry (g : Epg) : (s.setEpg g).entry l = s.entry l := rfl
@[simp] theorem State.setEpg_driftOf (g : Epg) : (s.setEpg g).driftOf l = s.driftOf l := rfl
@[simp] theorem State.setEpg_port (g : Epg) : (s.setEpg g).port p = s.port p := by cases p <;> rfl
@[simp] theorem State.setEpg_ref (g : Epg) : (s.setEpg g).ref x = s.ref x := by cases x <;> rfl
@[simp] theorem State.setEpg_setEpg (g : Epg) (g' : Epg) :
    (s.setEpg g).setEpg g' = s.setEpg g' := rfl

/-! ### setSdu -/

@[simp] theorem State.setSdu_osc (d : Sdu) : (s.setSdu d).osc = s.osc := rfl
@[simp] theorem State.setSdu_tsu (d : Sdu) : (s.setSdu d).tsu = s.tsu := rfl
@[simp] theorem State.setSdu_rdu (d : Sdu) : (s.setSdu d).rdu = s.rdu := rfl
@[simp] theorem State.setSdu_epg (d : Sdu) : (s.setSdu d).epg = s.epg := rfl
@[simp] theorem State.setSdu_links (d : Sdu) : (s.setSdu d).links = s.links := rfl
@[simp] theorem State.setSdu_rtmEra (d : Sdu) : (s.setSdu d).rtmEra = s.rtmEra := rfl
@[simp] theorem State.setSdu_entries (d : Sdu) : (s.setSdu d).entries = s.entries := rfl
@[simp] theorem State.setSdu_drift (d : Sdu) : (s.setSdu d).drift = s.drift := rfl
@[simp] theorem State.setSdu_sdu (d : Sdu) : (s.setSdu d).sdu = d := rfl
@[simp] theorem State.setSdu_cru (d : Sdu) : (s.setSdu d).cru = s.cru := rfl
@[simp] theorem State.setSdu_mgp (d : Sdu) : (s.setSdu d).mgp = s.mgp := rfl
@[simp] theorem State.setSdu_choices (d : Sdu) : (s.setSdu d).choices = s.choices := rfl
@[simp] theorem State.setSdu_pending (d : Sdu) : (s.setSdu d).pending = s.pending := rfl
@[simp] theorem State.setSdu_link (d : Sdu) : (s.setSdu d).link l = s.link l := rfl
@[simp] theorem State.setSdu_entry (d : Sdu) : (s.setSdu d).entry l = s.entry l := rfl
@[simp] theorem State.setSdu_driftOf (d : Sdu) : (s.setSdu d).driftOf l = s.driftOf l := rfl
@[simp] theorem State.setSdu_port (d : Sdu) : (s.setSdu d).port p = s.port p := by cases p <;> rfl
@[simp] theorem State.setSdu_ref (d : Sdu) : (s.setSdu d).ref x = s.ref x := by cases x <;> rfl
@[simp] theorem State.setSdu_setSdu (d : Sdu) (d' : Sdu) :
    (s.setSdu d).setSdu d' = s.setSdu d' := rfl

/-! ### setCru -/

@[simp] theorem State.setCru_osc (c : Cru) : (s.setCru c).osc = s.osc := rfl
@[simp] theorem State.setCru_tsu (c : Cru) : (s.setCru c).tsu = s.tsu := rfl
@[simp] theorem State.setCru_rdu (c : Cru) : (s.setCru c).rdu = s.rdu := rfl
@[simp] theorem State.setCru_epg (c : Cru) : (s.setCru c).epg = s.epg := rfl
@[simp] theorem State.setCru_links (c : Cru) : (s.setCru c).links = s.links := rfl
@[simp] theorem State.setCru_rtmEra (c : Cru) : (s.setCru c).rtmEra = s.rtmEra := rfl
@[simp] theorem State.setCru_entries (c : Cru) : (s.setCru c).entries = s.entries := rfl
@[simp] theorem State.setCru_drift (c : Cru) : (s.setCru c).drift = s.drift := rfl
@[simp] theorem State.setCru_sdu (c : Cru) : (s.setCru c).sdu = s.sdu := rfl
@[simp] theorem State.setCru_cru (c : Cru) : (s.setCru c).cru = c := rfl
@[simp] theorem State.setCru_mgp (c : Cru) : (s.setCru c).mgp = s.mgp := rfl
@[simp] theorem State.setCru_choices (c : Cru) : (s.setCru c).choices = s.choices := rfl
@[simp] theorem State.setCru_pending (c : Cru) : (s.setCru c).pending = s.pending := rfl
@[simp] theorem State.setCru_link (c : Cru) : (s.setCru c).link l = s.link l := rfl
@[simp] theorem State.setCru_entry (c : Cru) : (s.setCru c).entry l = s.entry l := rfl
@[simp] theorem State.setCru_driftOf (c : Cru) : (s.setCru c).driftOf l = s.driftOf l := rfl
@[simp] theorem State.setCru_port (c : Cru) : (s.setCru c).port p = s.port p := by cases p <;> rfl
@[simp] theorem State.setCru_ref (c : Cru) : (s.setCru c).ref x = s.ref x := by cases x <;> rfl
@[simp] theorem State.setCru_setCru (c : Cru) (c' : Cru) :
    (s.setCru c).setCru c' = s.setCru c' := rfl

/-! ### setMgp -/

@[simp] theorem State.setMgp_osc (m : Mgp) : (s.setMgp m).osc = s.osc := rfl
@[simp] theorem State.setMgp_tsu (m : Mgp) : (s.setMgp m).tsu = s.tsu := rfl
@[simp] theorem State.setMgp_rdu (m : Mgp) : (s.setMgp m).rdu = s.rdu := rfl
@[simp] theorem State.setMgp_epg (m : Mgp) : (s.setMgp m).epg = s.epg := rfl
@[simp] theorem State.setMgp_links (m : Mgp) : (s.setMgp m).links = s.links := rfl
@[simp] theorem State.setMgp_rtmEra (m : Mgp) : (s.setMgp m).rtmEra = s.rtmEra := rfl
@[simp] theorem State.setMgp_entries (m : Mgp) : (s.setMgp m).entries = s.entries := rfl
@[simp] theorem State.setMgp_drift (m : Mgp) : (s.setMgp m).drift = s.drift := rfl
@[simp] theorem State.setMgp_sdu (m : Mgp) : (s.setMgp m).sdu = s.sdu := rfl
@[simp] theorem State.setMgp_cru (m : Mgp) : (s.setMgp m).cru = s.cru := rfl
@[simp] theorem State.setMgp_mgp (m : Mgp) : (s.setMgp m).mgp = m := rfl
@[simp] theorem State.setMgp_choices (m : Mgp) : (s.setMgp m).choices = s.choices := rfl
@[simp] theorem State.setMgp_pending (m : Mgp) : (s.setMgp m).pending = s.pending := rfl
@[simp] theorem State.setMgp_link (m : Mgp) : (s.setMgp m).link l = s.link l := rfl
@[simp] theorem State.setMgp_entry (m : Mgp) : (s.setMgp m).entry l = s.entry l := rfl
@[simp] theorem State.setMgp_driftOf (m : Mgp) : (s.setMgp m).driftOf l = s.driftOf l := rfl
@[simp] theorem State.setMgp_ref (m : Mgp) : (s.setMgp m).ref x = s.ref x := by cases x <;> rfl
@[simp] theorem State.setMgp_setMgp (m : Mgp) (m' : Mgp) :
    (s.setMgp m).setMgp m' = s.setMgp m' := rfl

/-! ### setRtmEra -/

@[simp] theorem State.setRtmEra_osc (e : Nat) : (s.setRtmEra e).osc = s.osc := rfl
@[simp] theorem State.setRtmEra_tsu (e : Nat) : (s.setRtmEra e).tsu = s.tsu := rfl
@[simp] theorem State.setRtmEra_rdu (e : Nat) : (s.setRtmEra e).rdu = s.rdu := rfl
@[simp] theorem State.setRtmEra_epg (e : Nat) : (s.setRtmEra e).epg = s.epg := rfl
@[simp] theorem State.setRtmEra_links (e : Nat) : (s.setRtmEra e).links = s.links := rfl
@[simp] theorem State.setRtmEra_rtmEra (e : Nat) : (s.setRtmEra e).rtmEra = e := rfl
@[simp] theorem State.setRtmEra_entries (e : Nat) : (s.setRtmEra e).entries = s.entries := rfl
@[simp] theorem State.setRtmEra_drift (e : Nat) : (s.setRtmEra e).drift = s.drift := rfl
@[simp] theorem State.setRtmEra_sdu (e : Nat) : (s.setRtmEra e).sdu = s.sdu := rfl
@[simp] theorem State.setRtmEra_cru (e : Nat) : (s.setRtmEra e).cru = s.cru := rfl
@[simp] theorem State.setRtmEra_mgp (e : Nat) : (s.setRtmEra e).mgp = s.mgp := rfl
@[simp] theorem State.setRtmEra_choices (e : Nat) : (s.setRtmEra e).choices = s.choices := rfl
@[simp] theorem State.setRtmEra_pending (e : Nat) : (s.setRtmEra e).pending = s.pending := rfl
@[simp] theorem State.setRtmEra_link (e : Nat) : (s.setRtmEra e).link l = s.link l := rfl
@[simp] theorem State.setRtmEra_entry (e : Nat) : (s.setRtmEra e).entry l = s.entry l := rfl
@[simp] theorem State.setRtmEra_driftOf (e : Nat) : (s.setRtmEra e).driftOf l = s.driftOf l := rfl
@[simp] theorem State.setRtmEra_port (e : Nat) : (s.setRtmEra e).port p = s.port p := by cases p <;> rfl
@[simp] theorem State.setRtmEra_ref (e : Nat) : (s.setRtmEra e).ref x = s.ref x := by cases x <;> rfl
@[simp] theorem State.setRtmEra_setRtmEra (e : Nat) (e' : Nat) :
    (s.setRtmEra e).setRtmEra e' = s.setRtmEra e' := rfl

/-! ### setLink -/

@[simp] theorem State.setLink_osc (r : LinkRecord) : (s.setLink l r).osc = s.osc := rfl
@[simp] theorem State.setLink_tsu (r : LinkRecord) : (s.setLink l r).tsu = s.tsu := rfl
@[simp] theorem State.setLink_rdu (r : LinkRecord) : (s.setLink l r).rdu = s.rdu := rfl
@[simp] theorem State.setLink_epg (r : LinkRecord) : (s.setLink l r).epg = s.epg := rfl
@[simp] theorem State.setLink_rtmEra (r : LinkRecord) : (s.setLink l r).rtmEra = s.rtmEra := rfl
@[simp] theorem State.setLink_entries (r : LinkRecord) : (s.setLink l r).entries = s.entries := rfl
@[simp] theorem State.setLink_drift (r : LinkRecord) : (s.setLink l r).drift = s.drift := rfl
@[simp] theorem State.setLink_sdu (r : LinkRecord) : (s.setLink l r).sdu = s.sdu := rfl
@[simp] theorem State.setLink_cru (r : LinkRecord) : (s.setLink l r).cru = s.cru := rfl
@[simp] theorem State.setLink_mgp (r : LinkRecord) : (s.setLink l r).mgp = s.mgp := rfl
@[simp] theorem State.setLink_choices (r : LinkRecord) : (s.setLink l r).choices = s.choices := rfl
@[simp] theorem State.setLink_pending (r : LinkRecord) : (s.setLink l r).pending = s.pending := rfl
@[simp] theorem State.link_setLink_same (r : LinkRecord) : (s.setLink l r).link l = r := by
  simp [State.link, State.setLink]
theorem State.link_setLink_ne (r : LinkRecord) (h : m ≠ l) : (s.setLink l r).link m = s.link m := by
  have h' : l.val ≠ m.val := fun e => h (Fin.ext e.symm)
  simp [State.link, State.setLink, h']
@[simp] theorem State.setLink_setLink (r : LinkRecord) (r' : LinkRecord) :
    (s.setLink l r).setLink l r' = s.setLink l r' := by
  simp [State.setLink]
@[simp] theorem State.setLink_entry (r : LinkRecord) : (s.setLink l r).entry m = s.entry m := rfl
@[simp] theorem State.setLink_driftOf (r : LinkRecord) : (s.setLink l r).driftOf m = s.driftOf m := rfl
@[simp] theorem State.setLink_port (r : LinkRecord) : (s.setLink l r).port p = s.port p := by cases p <;> rfl
@[simp] theorem State.setLink_ref (r : LinkRecord) : (s.setLink l r).ref x = s.ref x := by cases x <;> rfl

/-! ### setEntry -/

@[simp] theorem State.setEntry_osc (e : RackEntry) : (s.setEntry l e).osc = s.osc := rfl
@[simp] theorem State.setEntry_tsu (e : RackEntry) : (s.setEntry l e).tsu = s.tsu := rfl
@[simp] theorem State.setEntry_rdu (e : RackEntry) : (s.setEntry l e).rdu = s.rdu := rfl
@[simp] theorem State.setEntry_epg (e : RackEntry) : (s.setEntry l e).epg = s.epg := rfl
@[simp] theorem State.setEntry_links (e : RackEntry) : (s.setEntry l e).links = s.links := rfl
@[simp] theorem State.setEntry_rtmEra (e : RackEntry) : (s.setEntry l e).rtmEra = s.rtmEra := rfl
@[simp] theorem State.setEntry_drift (e : RackEntry) : (s.setEntry l e).drift = s.drift := rfl
@[simp] theorem State.setEntry_sdu (e : RackEntry) : (s.setEntry l e).sdu = s.sdu := rfl
@[simp] theorem State.setEntry_cru (e : RackEntry) : (s.setEntry l e).cru = s.cru := rfl
@[simp] theorem State.setEntry_mgp (e : RackEntry) : (s.setEntry l e).mgp = s.mgp := rfl
@[simp] theorem State.setEntry_choices (e : RackEntry) : (s.setEntry l e).choices = s.choices := rfl
@[simp] theorem State.setEntry_pending (e : RackEntry) : (s.setEntry l e).pending = s.pending := rfl
@[simp] theorem State.setEntry_link (e : RackEntry) : (s.setEntry l e).link m = s.link m := rfl
@[simp] theorem State.entry_setEntry_same (e : RackEntry) : (s.setEntry l e).entry l = e := by
  simp [State.entry, State.setEntry]
theorem State.entry_setEntry_ne (e : RackEntry) (h : m ≠ l) : (s.setEntry l e).entry m = s.entry m := by
  have h' : l.val ≠ m.val := fun e => h (Fin.ext e.symm)
  simp [State.entry, State.setEntry, h']
@[simp] theorem State.setEntry_setEntry (e : RackEntry) (e' : RackEntry) :
    (s.setEntry l e).setEntry l e' = s.setEntry l e' := by
  simp [State.setEntry]
@[simp] theorem State.setEntry_driftOf (e : RackEntry) : (s.setEntry l e).driftOf m = s.driftOf m := rfl
@[simp] theorem State.setEntry_port (e : RackEntry) : (s.setEntry l e).port p = s.port p := by cases p <;> rfl
@[simp] theorem State.setEntry_ref (e : RackEntry) : (s.setEntry l e).ref x = s.ref x := by cases x <;> rfl

/-! ### setDrift -/

@[simp] theorem State.setDrift_osc (d : DriftRecord) : (s.setDrift l d).osc = s.osc := rfl
@[simp] theorem State.setDrift_tsu (d : DriftRecord) : (s.setDrift l d).tsu = s.tsu := rfl
@[simp] theorem State.setDrift_rdu (d : DriftRecord) : (s.setDrift l d).rdu = s.rdu := rfl
@[simp] theorem State.setDrift_epg (d : DriftRecord) : (s.setDrift l d).epg = s.epg := rfl
@[simp] theorem State.setDrift_links (d : DriftRecord) : (s.setDrift l d).links = s.links := rfl
@[simp] theorem State.setDrift_rtmEra (d : DriftRecord) : (s.setDrift l d).rtmEra = s.rtmEra := rfl
@[simp] theorem State.setDrift_entries (d : DriftRecord) : (s.setDrift l d).entries = s.entries := rfl
@[simp] theorem State.setDrift_sdu (d : DriftRecord) : (s.setDrift l d).sdu = s.sdu := rfl
@[simp] theorem State.setDrift_cru (d : DriftRecord) : (s.setDrift l d).cru = s.cru := rfl
@[simp] theorem State.setDrift_mgp (d : DriftRecord) : (s.setDrift l d).mgp = s.mgp := rfl
@[simp] theorem State.setDrift_choices (d : DriftRecord) : (s.setDrift l d).choices = s.choices := rfl
@[simp] theorem State.setDrift_pending (d : DriftRecord) : (s.setDrift l d).pending = s.pending := rfl
@[simp] theorem State.setDrift_link (d : DriftRecord) : (s.setDrift l d).link m = s.link m := rfl
@[simp] theorem State.setDrift_entry (d : DriftRecord) : (s.setDrift l d).entry m = s.entry m := rfl
@[simp] theorem State.driftOf_setDrift_same (d : DriftRecord) : (s.setDrift l d).driftOf l = d := by
  simp [State.driftOf, State.setDrift]
theorem State.driftOf_setDrift_ne (d : DriftRecord) (h : m ≠ l) : (s.setDrift l d).driftOf m = s.driftOf m := by
  have h' : l.val ≠ m.val := fun e => h (Fin.ext e.symm)
  simp [State.driftOf, State.setDrift, h']
@[simp] theorem State.setDrift_setDrift (d : DriftRecord) (d' : DriftRecord) :
    (s.setDrift l d).setDrift l d' = s.setDrift l d' := by
  simp [State.setDrift]
@[simp] theorem State.setDrift_port (d : DriftRecord) : (s.setDrift l d).port p = s.port p := by cases p <;> rfl
@[simp] theorem State.setDrift_ref (d : DriftRecord) : (s.setDrift l d).ref x = s.ref x := by cases x <;> rfl

/-! ### Ports and references -/

@[simp] theorem State.port_setPort_same (v : PortState) : (s.setPort p v).port p = v := by
  cases p <;> rfl

theorem State.port_setPort_ne (v : PortState) (q : Port) (h : q ≠ p) :
    (s.setPort p v).port q = s.port q := by
  cases p <;> cases q <;> first | rfl | exact absurd rfl h

@[simp] theorem State.ref_setRef_same (v : Reference) : (s.setRef x v).ref x = v := by
  cases x <;> rfl

theorem State.ref_setRef_ne (v : Reference) (y : RefId) (h : y ≠ x) :
    (s.setRef x v).ref y = s.ref y := by
  cases x <;> cases y <;> first | rfl | exact absurd rfl h

@[simp] theorem State.setPort_osc (v : PortState) : (s.setPort p v).osc = s.osc := by cases p <;> rfl
@[simp] theorem State.setPort_tsu (v : PortState) : (s.setPort p v).tsu = s.tsu := by cases p <;> rfl
@[simp] theorem State.setPort_rdu (v : PortState) : (s.setPort p v).rdu = s.rdu := by cases p <;> rfl
@[simp] theorem State.setPort_epg (v : PortState) : (s.setPort p v).epg = s.epg := by cases p <;> rfl
@[simp] theorem State.setPort_links (v : PortState) : (s.setPort p v).links = s.links := by cases p <;> rfl
@[simp] theorem State.setPort_rtmEra (v : PortState) : (s.setPort p v).rtmEra = s.rtmEra := by cases p <;> rfl
@[simp] theorem State.setPort_entries (v : PortState) : (s.setPort p v).entries = s.entries := by cases p <;> rfl
@[simp] theorem State.setPort_drift (v : PortState) : (s.setPort p v).drift = s.drift := by cases p <;> rfl
@[simp] theorem State.setPort_sdu (v : PortState) : (s.setPort p v).sdu = s.sdu := by cases p <;> rfl
@[simp] theorem State.setPort_cru (v : PortState) : (s.setPort p v).cru = s.cru := by cases p <;> rfl
@[simp] theorem State.setPort_choices (v : PortState) : (s.setPort p v).choices = s.choices := by cases p <;> rfl
@[simp] theorem State.setPort_pending (v : PortState) : (s.setPort p v).pending = s.pending := by cases p <;> rfl
@[simp] theorem State.setPort_mgp_mode (v : PortState) : (s.setPort p v).mgp.mode = s.mgp.mode := by
  cases p <;> rfl
@[simp] theorem State.setPort_mgp_restartPending (v : PortState) : (s.setPort p v).mgp.restartPending = s.mgp.restartPending := by
  cases p <;> rfl
@[simp] theorem State.setPort_mgp_domainId (v : PortState) : (s.setPort p v).mgp.domainId = s.mgp.domainId := by
  cases p <;> rfl
@[simp] theorem State.setPort_mgp_domainInstance (v : PortState) : (s.setPort p v).mgp.domainInstance = s.mgp.domainInstance := by
  cases p <;> rfl
@[simp] theorem State.setPort_mgp_lineRate (v : PortState) : (s.setPort p v).mgp.lineRate = s.mgp.lineRate := by
  cases p <;> rfl
@[simp] theorem State.setPort_link (v : PortState) : (s.setPort p v).link l = s.link l := by
  cases p <;> rfl
@[simp] theorem State.setRef_link (v : Reference) : (s.setRef x v).link l = s.link l := by
  cases x <;> rfl
@[simp] theorem State.setPort_entry (v : PortState) : (s.setPort p v).entry l = s.entry l := by
  cases p <;> rfl
@[simp] theorem State.setRef_entry (v : Reference) : (s.setRef x v).entry l = s.entry l := by
  cases x <;> rfl
@[simp] theorem State.setPort_driftOf (v : PortState) : (s.setPort p v).driftOf l = s.driftOf l := by
  cases p <;> rfl
@[simp] theorem State.setRef_driftOf (v : Reference) : (s.setRef x v).driftOf l = s.driftOf l := by
  cases x <;> rfl
@[simp] theorem State.setPort_ref (v : PortState) : (s.setPort p v).ref x = s.ref x := by
  cases p <;> cases x <;> rfl
@[simp] theorem State.setRef_port (v : Reference) : (s.setRef x v).port p = s.port p := by
  cases p <;> cases x <;> rfl
@[simp] theorem State.setPort_setPort (v w : PortState) : (s.setPort p v).setPort p w = s.setPort p w := by
  cases p <;> rfl
@[simp] theorem State.setRef_setRef (v w : Reference) : (s.setRef x v).setRef x w = s.setRef x w := by
  cases x <;> rfl
@[simp] theorem State.setRef_osc (v : Reference) : (s.setRef x v).osc = s.osc := by cases x <;> rfl
@[simp] theorem State.setRef_tsu (v : Reference) : (s.setRef x v).tsu = s.tsu := by cases x <;> rfl
@[simp] theorem State.setRef_epg (v : Reference) : (s.setRef x v).epg = s.epg := by cases x <;> rfl
@[simp] theorem State.setRef_links (v : Reference) : (s.setRef x v).links = s.links := by cases x <;> rfl
@[simp] theorem State.setRef_rtmEra (v : Reference) : (s.setRef x v).rtmEra = s.rtmEra := by cases x <;> rfl
@[simp] theorem State.setRef_entries (v : Reference) : (s.setRef x v).entries = s.entries := by cases x <;> rfl
@[simp] theorem State.setRef_drift (v : Reference) : (s.setRef x v).drift = s.drift := by cases x <;> rfl
@[simp] theorem State.setRef_sdu (v : Reference) : (s.setRef x v).sdu = s.sdu := by cases x <;> rfl
@[simp] theorem State.setRef_cru (v : Reference) : (s.setRef x v).cru = s.cru := by cases x <;> rfl
@[simp] theorem State.setRef_mgp (v : Reference) : (s.setRef x v).mgp = s.mgp := by cases x <;> rfl
@[simp] theorem State.setRef_choices (v : Reference) : (s.setRef x v).choices = s.choices := by cases x <;> rfl
@[simp] theorem State.setRef_pending (v : Reference) : (s.setRef x v).pending = s.pending := by cases x <;> rfl
@[simp] theorem State.setRef_rdu_selected (v : Reference) : (s.setRef x v).rdu.selected = s.rdu.selected := by
  cases x <;> rfl
@[simp] theorem State.setRef_rdu_candidate (v : Reference) : (s.setRef x v).rdu.candidate = s.rdu.candidate := by
  cases x <;> rfl
@[simp] theorem State.setRef_rdu_integral (v : Reference) : (s.setRef x v).rdu.integral = s.rdu.integral := by
  cases x <;> rfl
@[simp] theorem State.setRef_rdu_tsState (v : Reference) : (s.setRef x v).rdu.tsState = s.rdu.tsState := by
  cases x <;> rfl
@[simp] theorem State.setRef_rdu_lockCount (v : Reference) : (s.setRef x v).rdu.lockCount = s.rdu.lockCount := by
  cases x <;> rfl
@[simp] theorem State.setRef_rdu_unlockCount (v : Reference) : (s.setRef x v).rdu.unlockCount = s.rdu.unlockCount := by
  cases x <;> rfl
@[simp] theorem State.setRef_rdu_clampCount (v : Reference) : (s.setRef x v).rdu.clampCount = s.rdu.clampCount := by
  cases x <;> rfl
@[simp] theorem State.setRef_rdu_holdoverStart (v : Reference) : (s.setRef x v).rdu.holdoverStart = s.rdu.holdoverStart := by
  cases x <;> rfl
@[simp] theorem State.setRef_rdu_settings (v : Reference) : (s.setRef x v).rdu.settings = s.rdu.settings := by
  cases x <;> rfl

end Sys2Proof.Machine
end

