-- ==== Sys2Proof/Laws/Conditions.lean ====
section
/-!
SUPPORT. What the operations of the condition reporting unit can do: a raise or a clear of one scope
leaves the driving conditions of every other link, and everything outside the unit.
-/

namespace Sys2Proof.Machine

/-! ## The active set -/

theorem Cru.isActive_activate_ne (c : Cru) {k k' : CondKind} {sc sc' : Scope} (h : sc' ≠ sc) :
    (c.activate k sc).isActive k' sc' = c.isActive k' sc' := by
  unfold Cru.activate Cru.isActive
  split <;> simp [h]

theorem Cru.active_newRecordList (c : Cru) (l : List CondRecord) (r : Option CondRecord) :
    ({ c with list := l, reserved := r }).active = c.active := rfl

@[simp] theorem Cru.raiseListFull_actions (c : Cru) (now : Reading) :
    (c.raiseListFull now).actions = c.actions := by
  unfold Cru.raiseListFull Cru.activate
  dsimp only
  split <;> rfl

theorem Cru.isActive_raiseListFull_link (c : Cru) (now : Reading) (k : CondKind) (m : Link) :
    (c.raiseListFull now).isActive k (.link m) = c.isActive k (.link m) := by
  have h : (c.raiseListFull now).active = (c.activate .conditionListFull .part).active := rfl
  unfold Cru.isActive
  rw [h]
  exact Cru.isActive_activate_ne c (k := .conditionListFull) (k' := k) (sc := .part)
    (sc' := .link m) (by decide +revert)

@[simp] theorem Cru.appendRecord_actions (c : Cru) (r : CondRecord) :
    (c.appendRecord r).actions = c.actions := by
  unfold Cru.appendRecord
  dsimp only
  repeat' split
  all_goals simp

theorem Cru.isActive_appendRecord_link (c : Cru) (r : CondRecord) (k : CondKind) (m : Link) :
    (c.appendRecord r).isActive k (.link m) = c.isActive k (.link m) := by
  unfold Cru.appendRecord
  dsimp only
  repeat' split
  all_goals first | rfl | exact Cru.isActive_raiseListFull_link _ _ _ _

@[simp] theorem Cru.post_actions (c : Cru) (k : CondKind) (sc : Scope) (d : Details) (now : Reading)
    (anc : Bool) : (c.post k sc d now anc).actions = c.actions := by
  unfold Cru.post
  split <;> simp

theorem Cru.isActive_post_link (c : Cru) (k k' : CondKind) (sc : Scope) (d : Details)
    (now : Reading) (anc : Bool) (m : Link) :
    (c.post k sc d now anc).isActive k' (.link m) = c.isActive k' (.link m) := by
  unfold Cru.post
  split
  · rfl
  · exact Cru.isActive_appendRecord_link _ _ _ _

theorem Cru.driving_congr {c c' : Cru} {m : Link} (ha : c'.actions = c.actions)
    (h : ∀ k, c'.isActive k (.link m) = c.isActive k (.link m)) : c'.driving m = c.driving m := by
  simp [Cru.driving, h, ha]

@[simp] theorem Cru.noteLinkDown_active (c : Cru) (k : CondKind) (sc : Scope) (now : Nat) :
    (c.noteLinkDown k sc now).active = c.active := by
  unfold Cru.noteLinkDown
  split <;> rfl

@[simp] theorem Cru.noteLinkDown_actions (c : Cru) (k : CondKind) (sc : Scope) (now : Nat) :
    (c.noteLinkDown k sc now).actions = c.actions := by
  unfold Cru.noteLinkDown
  split <;> rfl

@[simp] theorem Cru.activate_actions (c : Cru) (k : CondKind) (sc : Scope) :
    (c.activate k sc).actions = c.actions := by
  unfold Cru.activate
  split <;> rfl

/-! ## Raises and clears of State -/

/-- A raise changes the condition reporting unit only. -/
theorem State.raiseWith_eq (s : State) (k : CondKind) (sc : Scope) (d : Details) (f : Bool) :
    ∃ c, s.raiseWith k sc d f = s.setCru c := by
  unfold State.raiseWith
  split
  · exact ⟨_, rfl⟩
  · exact ⟨s.cru, rfl⟩

theorem State.raise_eq (s : State) (k : CondKind) (sc : Scope) (d : Details) :
    ∃ c, s.raise k sc d = s.setCru c := s.raiseWith_eq k sc d false

/-- A raise of a scope that is not a link's leaves what drives that link. -/
theorem State.raiseWith_driving (s : State) (k : CondKind) {sc : Scope} (d : Details) (f : Bool)
    {m : Link} (h : sc ≠ .link m) :
    (s.raiseWith k sc d f).cru.driving m = s.cru.driving m := by
  unfold State.raiseWith
  split
  · refine Cru.driving_congr (by simp) fun k' => ?_
    simp only [State.setCru_cru]
    rw [Cru.isActive_post_link]
    have : ∀ c : Cru, (c.noteLinkDown k sc s.osc).isActive k' (.link m) =
        c.isActive k' (.link m) := fun c => by simp [Cru.isActive]
    rw [this]
    exact Cru.isActive_activate_ne _ (Ne.symm h)
  · rfl

theorem State.raise_driving (s : State) (k : CondKind) {sc : Scope} (d : Details) {m : Link}
    (h : sc ≠ .link m) : (s.raise k sc d).cru.driving m = s.cru.driving m :=
  s.raiseWith_driving k d false h

/-- A clear of a scope that is not a link's leaves what drives that link. -/
theorem Cru.clear_driving (c : Cru) (k : CondKind) {sc : Scope} {m : Link} (h : sc ≠ .link m) :
    (c.clear k sc).driving m = c.driving m := by
  unfold Cru.clear
  split
  · refine Cru.driving_congr rfl fun k' => ?_
    have : ((k', Scope.link m) : CondKind × Scope) ≠ (k, sc) := fun e =>
      h (by injection e with _ e2; exact e2.symm)
    simp [Cru.isActive, this]
  · rfl

theorem State.clearCond_driving (s : State) (k : CondKind) {sc : Scope} {m : Link}
    (h : sc ≠ .link m) : (s.clearCond k sc).cru.driving m = s.cru.driving m :=
  Cru.clear_driving _ _ h

/-! ## Events of one link -/

theorem SameCore.refl (s : State) : SameCore s s := ⟨rfl, rfl, rfl, rfl, rfl, rfl, rfl, rfl, rfl⟩

theorem SameCore.trans {s t u : State} (h : SameCore s t) (k : SameCore t u) : SameCore s u :=
  ⟨k.osc.trans h.osc, k.tsu.trans h.tsu, k.rdu.trans h.rdu, k.epg.trans h.epg,
    k.rtmEra.trans h.rtmEra, k.sdu.trans h.sdu, k.mgp.trans h.mgp, k.choices.trans h.choices,
    k.pending.trans h.pending⟩

theorem SameAt.refl (m : Link) (s : State) : SameAt m s s := ⟨rfl, rfl, rfl, rfl⟩

theorem SameAt.trans {m : Link} {s t u : State} (h : SameAt m s t) (k : SameAt m t u) :
    SameAt m s u :=
  ⟨k.link.trans h.link, k.entry.trans h.entry, k.drift.trans h.drift, k.driving.trans h.driving⟩

theorem OnlyLink.refl (l : Link) (s : State) : OnlyLink l s s :=
  ⟨SameCore.refl s, fun m _ => SameAt.refl m s⟩

theorem OnlyLink.trans {l : Link} {s t u : State} (h : OnlyLink l s t) (k : OnlyLink l t u) :
    OnlyLink l s u :=
  ⟨h.core.trans k.core, fun m hm => (h.others m hm).trans (k.others m hm)⟩

theorem OnlyLink.setLink (l : Link) (s : State) (r : LinkRecord) : OnlyLink l s (s.setLink l r) :=
  ⟨⟨rfl, rfl, rfl, rfl, rfl, rfl, rfl, rfl, rfl⟩,
    fun m hm => ⟨State.link_setLink_ne s l m r hm, rfl, rfl, rfl⟩⟩

theorem OnlyLink.setEntry (l : Link) (s : State) (e : RackEntry) : OnlyLink l s (s.setEntry l e) :=
  ⟨⟨rfl, rfl, rfl, rfl, rfl, rfl, rfl, rfl, rfl⟩,
    fun m hm => ⟨rfl, State.entry_setEntry_ne s l m e hm, rfl, rfl⟩⟩

theorem OnlyLink.setDrift (l : Link) (s : State) (d : DriftRecord) :
    OnlyLink l s (s.setDrift l d) :=
  ⟨⟨rfl, rfl, rfl, rfl, rfl, rfl, rfl, rfl, rfl⟩,
    fun m hm => ⟨rfl, rfl, State.driftOf_setDrift_ne s l m d hm, rfl⟩⟩

theorem OnlyLink.setCru {l : Link} {s : State} {c : Cru}
    (h : ∀ m, m ≠ l → c.driving m = s.cru.driving m) : OnlyLink l s (s.setCru c) :=
  ⟨⟨rfl, rfl, rfl, rfl, rfl, rfl, rfl, rfl, rfl⟩, fun m hm => ⟨rfl, rfl, rfl, h m hm⟩⟩

theorem Scope.link_ne {l m : Link} (h : m ≠ l) : Scope.link l ≠ Scope.link m := fun e => by
  injection e with e
  exact h e.symm

theorem OnlyLink.raiseWith (l : Link) (s : State) (k : CondKind) (d : Details) (f : Bool) :
    OnlyLink l s (s.raiseWith k (.link l) d f) := by
  obtain ⟨c, hc⟩ := s.raiseWith_eq k (.link l) d f
  have hd := fun m (hm : m ≠ l) => s.raiseWith_driving k d f (Scope.link_ne hm)
  rw [hc] at hd ⊢
  exact OnlyLink.setCru hd

theorem OnlyLink.raise (l : Link) (s : State) (k : CondKind) (d : Details) :
    OnlyLink l s (s.raise k (.link l) d) := OnlyLink.raiseWith l s k d false

theorem OnlyLink.clearCond (l : Link) (s : State) (k : CondKind) :
    OnlyLink l s (s.clearCond k (.link l)) :=
  OnlyLink.setCru fun _ hm => Cru.clear_driving _ _ (Scope.link_ne hm)

end Sys2Proof.Machine
end

