-- ==== Sys2Proof/Laws/Links.lean ====
section
/-!
SUPPORT. Each operation of the span links, the rack table, the drift watch and the trims touches one
link only: one lemma per operation, named after it.
-/

namespace Sys2Proof.Machine

variable (l : Link) (s : State)

/-! ## Span links -/

theorem OnlyLink.withdrawn (f : TxFrame) : OnlyLink l s (s.withdrawn l f) := by
  cases f <;> simp only [State.withdrawn] <;>
    first | exact .refl l s | exact .setEntry l s _ | (split <;> first | exact .setEntry l s _ | exact .refl l s)

theorem OnlyLink.linkError : OnlyLink l s (s.linkError l) := by
  unfold State.linkError
  dsimp only
  split
  · exact (OnlyLink.setLink l s _).trans (.raise l _ _ _)
  · exact .setLink l s _

theorem OnlyLink.clearErrorRate : OnlyLink l s (s.clearErrorRate l) :=
  (OnlyLink.setLink l s _).trans (.clearCond l _ _)

theorem OnlyLink.errorRateClearDue : OnlyLink l s (s.errorRateClearDue l) := by
  unfold State.errorRateClearDue
  split
  · exact .clearErrorRate l s
  · exact .refl l s

theorem OnlyLink.setErrorRate (n w : Nat) : OnlyLink l s (s.setErrorRate l n w) :=
  (OnlyLink.setLink l s _).trans (.errorRateClearDue l _)

theorem OnlyLink.handFrame (f : TxFrame) : OnlyLink l s (s.handFrame l f) := by
  unfold State.handFrame
  dsimp only
  split
  · exact .withdrawn l s f
  · split
    · exact (OnlyLink.withdrawn l s f).trans (.linkError l _)
    · exact .setLink l s _

theorem OnlyLink.beginTransmission (o : Nat) : OnlyLink l s (s.beginTransmission l o) := by
  unfold State.beginTransmission
  dsimp only
  split
  · exact .setLink l s _
  · exact .refl l s

theorem OnlyLink.foldWithdrawn (fs : List TxFrame) :
    OnlyLink l s (fs.foldl (fun st f => st.withdrawn l f) s) := by
  induction fs generalizing s with
  | nil => exact .refl l s
  | cons f fs ih => exact (OnlyLink.withdrawn l s f).trans (ih _)

theorem OnlyLink.withdrawAll : OnlyLink l s (s.withdrawAll l) :=
  (OnlyLink.setLink l s _).trans (.foldWithdrawn l _ _)

theorem OnlyLink.postLinkDown (run : Nat) : OnlyLink l s (s.postLinkDown l run) :=
  .raise l s _ _

/-! ## Drift watch -/

theorem OnlyLink.reportLevel (old new : DriftLevel) (e : Estimate) (total : Int) (n : Nat) :
    OnlyLink l s (s.reportLevel l old new e total n) := by
  unfold State.reportLevel
  dsimp only
  split
  · exact .raise l _ _ _
  · exact (OnlyLink.clearCond l s _).trans (.raise l _ _ _)

theorem OnlyLink.evaluate (e : Estimate) (total : Int) : OnlyLink l s (s.evaluate l e total) := by
  unfold State.evaluate
  dsimp only
  split
  · exact (OnlyLink.setDrift l s _).trans (.reportLevel l _ _ _ _ _ _)
  · exact .setDrift l s _

theorem OnlyLink.resetDrift : OnlyLink l s (s.resetDrift l) :=
  ((OnlyLink.setDrift l s _).trans (.clearCond l _ _)).trans (.clearCond l _ _)

theorem OnlyLink.stateNotice (new : RackState) : OnlyLink l s (s.stateNotice l new) := by
  unfold State.stateNotice
  cases new <;> dsimp only <;>
    first
    | exact .setDrift l s _
    | exact (OnlyLink.setDrift l s _).trans (.setDrift l _ _)
    | exact (OnlyLink.setDrift l s _).trans (.resetDrift l _)

/-! ## Rack table -/

theorem OnlyLink.leaveState (old : RackState) : OnlyLink l s (s.leaveState l old) := by
  cases old <;> simp only [State.leaveState] <;>
    first
    | exact .refl l s
    | exact .clearCond l s _
    | exact ((OnlyLink.clearCond l s _).trans (.clearCond l _ _)).trans (.clearCond l _ _)

theorem OnlyLink.handWelcome : OnlyLink l s (s.handWelcome l) := .handFrame l s _

theorem OnlyLink.handDismiss (q : QReason) : OnlyLink l s (s.handDismiss l q) := .handFrame l s _

theorem OnlyLink.handProbe : OnlyLink l s (s.handProbe l) :=
  (OnlyLink.setEntry l s _).trans (.handFrame l _ _)

theorem OnlyLink.probeIfDue : OnlyLink l s (s.probeIfDue l) := by
  unfold State.probeIfDue
  split
  · dsimp only
    split
    · exact (OnlyLink.handWelcome l s).trans (.handProbe l _)
    · exact .handProbe l s
  · exact .refl l s

theorem OnlyLink.goIdle (keep : Bool) : OnlyLink l s (s.goIdle l keep) := by
  unfold State.goIdle
  exact ((OnlyLink.setEntry l s _).trans (.leaveState l _ _)).trans (.stateNotice l _ _)

theorem OnlyLink.quarantine (claimed : Option Nat) (q : QReason) :
    OnlyLink l s (s.quarantine l claimed q) := by
  unfold State.quarantine
  dsimp only
  refine OnlyLink.trans ?_ (.stateNotice l _ _)
  have h := ((OnlyLink.setEntry l s ((s.entry l).toQuarantine claimed q)).trans
    (.handDismiss l _ q)).trans (.leaveState l _ (s.entry l).state)
  split
  · exact h.trans (.raise l _ _ _)
  · exact h

theorem OnlyLink.isolateSet : OnlyLink l s (s.isolateSet l) := by
  unfold State.isolateSet
  split
  · exact .quarantine l s _ _
  · exact .refl l s

theorem OnlyLink.firstProbe (withdrawn : Bool) : OnlyLink l s (s.firstProbe l withdrawn) := by
  unfold State.firstProbe
  split
  · split
    · exact (OnlyLink.handWelcome l s).trans (.handProbe l _)
    · exact .handProbe l s
  · exact .refl l s

theorem OnlyLink.attach (h : Hello) : OnlyLink l s (s.attach l h) := by
  unfold State.attach
  dsimp only
  refine OnlyLink.trans ?_ (.stateNotice l _ _)
  refine OnlyLink.trans ?_ (.raise l _ _ _)
  refine OnlyLink.trans ?_ (.leaveState l _ _)
  exact ((OnlyLink.setEntry l s ((s.entry l).attach h s.osc)).trans (.handWelcome l _)).trans
    (.firstProbe l _ _)

theorem OnlyLink.judgeHello (h : Hello) : OnlyLink l s (s.judgeHello l h) := by
  unfold State.judgeHello
  split
  · exact .quarantine l s _ _
  · exact .attach l s h

theorem OnlyLink.takeHello (h : Hello) : OnlyLink l s (s.takeHello l h) := by
  unfold State.takeHello
  dsimp only
  refine OnlyLink.trans (.setEntry l s { s.entry l with heldHello := some h }) ?_
  repeat' split
  all_goals first | exact .refl l _ | exact .handDismiss l _ _ | exact .judgeHello l _ _

theorem OnlyLink.coastIfMissed : OnlyLink l s (s.coastIfMissed l) := by
  unfold State.coastIfMissed
  dsimp only
  split
  · exact ((OnlyLink.setEntry l s _).trans (.raise l _ _ _)).trans (.stateNotice l _ _)
  · exact .refl l s

theorem OnlyLink.exchangeTimeout : OnlyLink l s (s.exchangeTimeout l) := by
  unfold State.exchangeTimeout
  dsimp only
  split
  · exact ((OnlyLink.setEntry l s _).trans (.coastIfMissed l _)).trans (.probeIfDue l _)
  · exact .refl l s

theorem OnlyLink.enterAcquiring : OnlyLink l s (s.enterAcquiring l) :=
  (OnlyLink.setEntry l s _).trans (.leaveState l _ _)

theorem OnlyLink.noticeAcquiring (old : RackState) : OnlyLink l s (s.noticeAcquiring l old) := by
  unfold State.noticeAcquiring
  split
  · exact .refl l s
  · exact .stateNotice l s _

theorem OnlyLink.loseTrim (f : Bool) : OnlyLink l s (s.loseTrim l f) := by
  unfold State.loseTrim
  dsimp only
  split
  · exact (((OnlyLink.setEntry l s _).trans (.enterAcquiring l _)).trans
      (.raiseWith l _ _ _ _)).trans (.noticeAcquiring l _ _)
  · exact .refl l s

theorem OnlyLink.trimTimeout : OnlyLink l s (s.trimTimeout l) := by
  unfold State.trimTimeout
  split
  · exact .loseTrim l s false
  · exact .refl l s

theorem OnlyLink.loseRack (f : Bool) : OnlyLink l s (s.loseRack l f) := by
  unfold State.loseRack
  exact (((OnlyLink.setEntry l s _).trans (.leaveState l _ _)).trans (.raiseWith l _ _ _ _)).trans
    (.stateNotice l _ _)

theorem OnlyLink.lossDeadline : OnlyLink l s (s.lossDeadline l) := by
  unfold State.lossDeadline
  dsimp only
  split
  · exact .loseRack l s _
  · exact .refl l s

theorem OnlyLink.abandonRack : OnlyLink l s (s.abandonRack l) :=
  (OnlyLink.loseTrim l s true).trans (.loseRack l _ true)

theorem OnlyLink.coastByLink : OnlyLink l s (s.coastByLink l) := by
  unfold State.coastByLink
  exact ((OnlyLink.setEntry l s _).trans (.raiseWith l _ _ _ _)).trans (.stateNotice l _ _)

theorem OnlyLink.dropEntry : OnlyLink l s (s.dropEntry l) := by
  unfold State.dropEntry
  dsimp only
  repeat' split
  all_goals
    first
    | exact .refl l s
    | exact .abandonRack l s
    | exact .coastByLink l s
    | exact .loseRack l s true
    | exact .setEntry l s _

theorem OnlyLink.noticeDown : OnlyLink l s (s.noticeDown l) :=
  (OnlyLink.setEntry l s _).trans (.dropEntry l _)

theorem OnlyLink.linkNotice (c : LinkCause) : OnlyLink l s (s.linkNotice l c) := by
  cases c
  · exact .noticeDown l s
  · exact .goIdle l s false
  · exact .goIdle l s false

theorem OnlyLink.leaveUp (r : LinkRecord) (c : LinkCause) : OnlyLink l s (s.leaveUp l r c) :=
  (((OnlyLink.setLink l s r).trans (.withdrawAll l _)).trans (.linkNotice l _ c)).trans
    (.postLinkDown l _ _)

theorem OnlyLink.linkFalls : OnlyLink l s (s.linkFalls l) := .leaveUp l s _ _

/-! ## Fault actions -/

theorem OnlyLink.writeFlags : OnlyLink l s (s.writeFlags l) := by
  unfold State.writeFlags
  dsimp only
  split
  · exact (OnlyLink.setEntry l s _).trans (.isolateSet l _)
  · exact .setEntry l s _

theorem OnlyLink.deriveFlags (before : State) : OnlyLink l s (State.deriveFlags before s l) := by
  unfold State.deriveFlags
  split
  · exact .refl l s
  · exact .writeFlags l s

theorem OnlyLink.settleFlags (before : State) : OnlyLink l s (State.settleFlags before s l) :=
  (OnlyLink.deriveFlags l s before).trans (.deriveFlags l _ _)

/-! ## Trims and exchanges -/

theorem OnlyLink.trimTest : OnlyLink l s (s.trimTest l) := by
  unfold State.trimTest
  split
  · exact (OnlyLink.setEntry l s _).trans (.handFrame l _ _)
  · exact .refl l s

theorem OnlyLink.completeTrim (t : TrimInFlight) (a : Nat) :
    OnlyLink l s (s.completeTrim l t a) :=
  (OnlyLink.setEntry l s _).trans (.trimTest l _)

theorem OnlyLink.acceptExchange (w : List ExchangeRecord) :
    OnlyLink l s (s.acceptExchange l w) := by
  unfold State.acceptExchange
  dsimp only
  split
  · exact .setEntry l s _
  · exact ((OnlyLink.setEntry l s _).trans (.leaveState l _ _)).trans (.stateNotice l _ _)

theorem OnlyLink.formEstimate : OnlyLink l s (s.formEstimate l) := by
  unfold State.formEstimate
  dsimp only
  split
  · exact ((OnlyLink.setEntry l s _).trans (.evaluate l _ _ _)).trans (.settleFlags l _ _)
  · exact .refl l s

theorem OnlyLink.offerRecord (r : ExchangeRecord) : OnlyLink l s (s.offerRecord l r) := by
  unfold State.offerRecord
  dsimp only
  repeat' split
  · exact .linkError l s
  · exact ((OnlyLink.acceptExchange l s _).trans (.formEstimate l _)).trans (.trimTest l _)
  · exact .setEntry l s _

theorem OnlyLink.unknownGeneration (g : Nat) : OnlyLink l s (s.unknownGeneration l g) :=
  (((OnlyLink.setEntry l s _).trans (.enterAcquiring l _)).trans (.raise l _ _ _)).trans
    (.noticeAcquiring l _ _)

theorem OnlyLink.checkGeneration (g : Nat) : OnlyLink l s (s.checkGeneration l g).1 := by
  unfold State.checkGeneration
  dsimp only
  repeat' split
  all_goals
    first
    | exact .refl l _
    | exact .setEntry l s _
    | exact .completeTrim l s _ _
    | exact .unknownGeneration l s g

theorem OnlyLink.completeExchange (p : ProbeInFlight) (d : ProbeDeparture) (x : Echo) (o : Nat) :
    OnlyLink l s (s.completeExchange l p d x o) := by
  unfold State.completeExchange
  dsimp only
  refine OnlyLink.trans ?_ (.probeIfDue l _)
  have h1 := OnlyLink.setEntry l s { s.entry l with probe := none, missed := 0 }
  split
  · have h2 := h1.trans (.checkGeneration l _ x.generation.toNat)
    split
    · exact h2.trans (.offerRecord l _ _)
    · exact h2
  · exact h1

theorem OnlyLink.takeEcho (x : Echo) (o : Nat) : OnlyLink l s (s.takeEcho l x o) := by
  unfold State.takeEcho
  split
  · exact .completeExchange l s _ _ x o
  · exact .linkError l s

theorem OnlyLink.takeTrimDone (g a : Nat) : OnlyLink l s (s.takeTrimDone l g a) := by
  unfold State.takeTrimDone
  split
  · split
    · exact .completeTrim l s _ a
    · exact .refl l s
  · exact .refl l s

theorem OnlyLink.noticeUp : OnlyLink l s (s.noticeUp l) :=
  (OnlyLink.probeIfDue l s).trans (.trimTest l _)

theorem OnlyLink.linkRises : OnlyLink l s (s.linkRises l) :=
  (((OnlyLink.setLink l s _).trans (.clearCond l _ _)).trans (.raise l _ _ _)).trans
    (.noticeUp l _)

/-! ## Events -/

theorem OnlyLink.loseActivity : OnlyLink l s (s.loseActivity l) := by
  unfold State.loseActivity
  dsimp only
  split
  · exact .refl l s
  · exact .setLink l s _
  · exact .setLink l s _
  · exact (OnlyLink.setLink l s _).trans (.linkFalls l _)

theorem OnlyLink.takeTrainingBlock (ready : Bool) : OnlyLink l s (s.takeTrainingBlock l ready) := by
  unfold State.takeTrainingBlock
  split
  · dsimp only
    split
    · exact (OnlyLink.setLink l s _).trans (.linkRises l _)
    · exact .setLink l s _
  · exact .refl l s

theorem OnlyLink.failCheck : OnlyLink l s (s.failCheck l) := by
  unfold State.failCheck
  split
  · have h := (OnlyLink.linkError l s).trans (.setLink l _
      { (s.linkError l).link l with
        checkRun := satAdd 8 ((s.linkError l).link l).checkRun 1 })
    dsimp only
    split
    · exact h.trans (.linkFalls l _)
    · exact h
  · exact .refl l s

theorem OnlyLink.goodFrame {deliver : State → State} (h : ∀ t, OnlyLink l t (deliver t)) :
    OnlyLink l s (s.goodFrame l deliver) := by
  unfold State.goodFrame
  split
  · exact (OnlyLink.setLink l s _).trans (h _)
  · exact .refl l s

theorem OnlyLink.frameDeparts : OnlyLink l s (s.frameDeparts l) := by
  unfold State.frameDeparts
  split
  · exact (OnlyLink.setLink l s _).trans (.setEntry l _ _)
  · exact .refl l s

end Sys2Proof.Machine
end

