-- ==== Sys2Proof/Laws/Events.lean ====
section
/-!
SUPPORT. What the end of an event can do: nothing outside what is kept per link and the condition
reporting unit, and nothing to a link whose driving conditions the event has left alone.
-/

namespace Sys2Proof.Machine

/-- A fold over links keeps what each of its steps keeps. -/
theorem forLinks_keeps {P : State → Prop} {f : Link → State → State}
    (h : ∀ l st, P st → P (f l st)) (s : State) (hs : P s) : P (forLinks f s) := by
  unfold forLinks
  generalize allLinks = ls
  induction ls generalizing s with
  | nil => exact hs
  | cons l ls ih => exact ih _ (h l s hs)

theorem State.settleCru_sameCore (s : State) : SameCore s s.settleCru :=
  ⟨rfl, rfl, rfl, rfl, rfl, rfl, rfl, rfl, rfl⟩

theorem Cru.settleListFull_driving (c : Cru) (m : Link) :
    c.settleListFull.driving m = c.driving m := by
  unfold Cru.settleListFull
  split
  · have h := Cru.clear_driving c .conditionListFull (sc := .part) (m := m) (by decide +revert)
    exact h
  · rfl

theorem State.settleCru_sameAt (s : State) (m : Link) : SameAt m s s.settleCru :=
  ⟨rfl, rfl, rfl, Cru.settleListFull_driving s.cru m⟩

theorem State.settleFlags_sameAt (before s : State) (l m : Link)
    (h : before.cru.driving m = s.cru.driving m) :
    SameAt m s (State.settleFlags before s l) := by
  by_cases hm : m = l
  · subst hm
    have h1 : State.deriveFlags before s m = s := by simp [State.deriveFlags, h]
    have h2 : State.deriveFlags s s m = s := by simp [State.deriveFlags]
    simp only [State.settleFlags, h1, h2]
    exact SameAt.refl m s
  · exact (OnlyLink.settleFlags l s before).others m hm

/-- The end of an event changes nothing outside the links, entries, drift records and conditions. -/
theorem State.endEvent_sameCore (before s : State) : SameCore s (State.endEvent before s) := by
  refine SameCore.trans ?_ (State.settleCru_sameCore _)
  exact forLinks_keeps (P := fun st => SameCore s st)
    (fun l st hst => hst.trans (OnlyLink.settleFlags l st before).core) s (SameCore.refl s)

/-- The end of an event leaves a link whose driving conditions the event did not change. -/
theorem State.endEvent_sameAt (before s : State) (m : Link)
    (h : before.cru.driving m = s.cru.driving m) : SameAt m s (State.endEvent before s) := by
  refine SameAt.trans ?_ (State.settleCru_sameAt _ m)
  exact forLinks_keeps (P := fun st => SameAt m s st)
    (fun l st hst => hst.trans
      (State.settleFlags_sameAt before st l m (h.trans hst.driving.symm))) s (SameAt.refl m s)

/-- An event of one link, with its end, is an event of that link only. -/
theorem OnlyLink.endEvent {l : Link} {before s : State} (h : OnlyLink l before s) :
    OnlyLink l before (State.endEvent before s) :=
  ⟨h.core.trans (State.endEvent_sameCore before s), fun m hm =>
    (h.others m hm).trans (State.endEvent_sameAt before s m (h.others m hm).driving.symm)⟩

/-- The condition list after the end of an event that drives no fault action: only the judgement of
R162 and the attention lines. -/
theorem State.endEvent_quiet (before s : State)
    (h : ∀ m, before.cru.driving m = s.cru.driving m) : State.endEvent before s = s.settleCru := by
  have step : ∀ (l : Link) (st : State), st = s → State.settleFlags before st l = s := by
    rintro l st rfl
    simp [State.settleFlags, State.deriveFlags, h l]
  have all : forLinks (fun l st => State.settleFlags before st l) s = s :=
    forLinks_keeps (P := fun st => st = s) step s rfl
  unfold State.endEvent
  rw [all]

end Sys2Proof.Machine
end

