-- ==== Sys2Proof/Laws/Clock.lean ====
section
/-!
SUPPORT. Each operation of the references, the timescale and the wait-outs touches the clock side of
the part only: one lemma per operation.  Bounds of the clampings.
-/

namespace Sys2Proof.Machine

/-! ## Clampings -/

theorem clampSym_le (x : Nat) (v : Int) : clampSym x v ≤ x := by
  unfold clampSym; split <;> (try split) <;> omega

theorem neg_le_clampSym (x : Nat) (v : Int) : -(x : Int) ≤ clampSym x v := by
  unfold clampSym; split <;> (try split) <;> omega

theorem clampSym_of_within (x : Nat) {v : Int} (h : -(x : Int) ≤ v) (h' : v ≤ x) :
    clampSym x v = v := by
  unfold clampSym; split <;> (try split) <;> omega

theorem clampRange_mem {lo hi : Nat} (h : lo ≤ hi) (v : Nat) :
    lo ≤ clampRange lo hi v ∧ clampRange lo hi v ≤ hi := by
  unfold clampRange; split <;> (try split) <;> omega

theorem clampRange_of_mem {lo hi v : Nat} (h : lo ≤ v) (h' : v ≤ hi) : clampRange lo hi v = v := by
  unfold clampRange; split <;> (try split) <;> omega

theorem satAdd_le (limit a b : Nat) : satAdd limit a b ≤ limit := by
  unfold satAdd; split <;> omega

/-! ## The relation -/

theorem SameSettings.refl (s : State) : SameSettings s s := ⟨rfl, rfl, rfl, rfl, rfl⟩

theorem SameSettings.trans {s t u : State} (h : SameSettings s t) (k : SameSettings t u) :
    SameSettings s u :=
  ⟨k.mode.trans h.mode, k.restartPending.trans h.restartPending, k.domainId.trans h.domainId,
    k.domainInstance.trans h.domainInstance, k.lineRate.trans h.lineRate⟩

theorem ClockOnly.refl (s : State) : ClockOnly s s :=
  ⟨rfl, rfl, rfl, rfl, rfl, rfl, rfl, rfl, rfl, SameSettings.refl s, fun _ => rfl⟩

theorem ClockOnly.trans {s t u : State} (h : ClockOnly s t) (k : ClockOnly t u) : ClockOnly s u :=
  ⟨k.osc.trans h.osc, k.links.trans h.links, k.entries.trans h.entries, k.drift.trans h.drift,
    k.rtmEra.trans h.rtmEra, k.journal.trans h.journal, k.nextSequence.trans h.nextSequence,
    k.choices.trans h.choices, k.pending.trans h.pending, h.settings.trans k.settings,
    fun m => (k.driving m).trans (h.driving m)⟩

variable (s : State)

theorem ClockOnly.setTsu (t : Tsu) : ClockOnly s (s.setTsu t) :=
  ⟨rfl, rfl, rfl, rfl, rfl, rfl, rfl, rfl, rfl, ⟨rfl, rfl, rfl, rfl, rfl⟩, fun _ => rfl⟩

theorem ClockOnly.setRdu (r : Rdu) : ClockOnly s (s.setRdu r) :=
  ⟨rfl, rfl, rfl, rfl, rfl, rfl, rfl, rfl, rfl, ⟨rfl, rfl, rfl, rfl, rfl⟩, fun _ => rfl⟩

theorem ClockOnly.setEpg (g : Epg) : ClockOnly s (s.setEpg g) :=
  ⟨rfl, rfl, rfl, rfl, rfl, rfl, rfl, rfl, rfl, ⟨rfl, rfl, rfl, rfl, rfl⟩, fun _ => rfl⟩

theorem ClockOnly.setRef (r : RefId) (x : Reference) : ClockOnly s (s.setRef r x) := by
  cases r
  · exact .setRdu s _
  · exact .setRdu s _

theorem ClockOnly.setPort (p : Port) (x : PortState) : ClockOnly s (s.setPort p x) := by
  cases p <;>
    exact ⟨rfl, rfl, rfl, rfl, rfl, rfl, rfl, rfl, rfl, ⟨rfl, rfl, rfl, rfl, rfl⟩, fun _ => rfl⟩

theorem ClockOnly.setWaits (w : List WaitOut) (r : Reading) :
    ClockOnly s (s.setSdu { s.sdu with waitOuts := w, lastReading := r }) :=
  ⟨rfl, rfl, rfl, rfl, rfl, rfl, rfl, rfl, rfl, ⟨rfl, rfl, rfl, rfl, rfl⟩, fun _ => rfl⟩

theorem ClockOnly.setCru {c : Cru} (h : ∀ m, c.driving m = s.cru.driving m) :
    ClockOnly s (s.setCru c) :=
  ⟨rfl, rfl, rfl, rfl, rfl, rfl, rfl, rfl, rfl, ⟨rfl, rfl, rfl, rfl, rfl⟩, h⟩

theorem ClockOnly.raise (k : CondKind) {sc : Scope} (d : Details) (h : ∀ m, sc ≠ .link m) :
    ClockOnly s (s.raise k sc d) := by
  obtain ⟨c, hc⟩ := s.raise_eq k sc d
  have hd := fun m => s.raise_driving k d (h m)
  rw [hc] at hd ⊢
  exact ClockOnly.setCru s hd

theorem ClockOnly.clearCond (k : CondKind) {sc : Scope} (h : ∀ m, sc ≠ .link m) :
    ClockOnly s (s.clearCond k sc) :=
  ClockOnly.setCru s fun m => Cru.clear_driving _ _ (h m)

theorem part_ne_link (m : Link) : Scope.part ≠ Scope.link m := fun e => by cases e

theorem reference_ne_link (r : RefId) (m : Link) : Scope.reference r ≠ Scope.link m :=
  fun e => by cases e

/-! ## Replies and wait-outs -/

theorem ClockOnly.handReply (p : Port) (r : Reply) : ClockOnly s (s.handReply p r) :=
  .setPort s p _

theorem ClockOnly.completeWait (w : WaitOut) (res : Result) (b : List Byte) :
    ClockOnly s (s.completeWait w res b) := .handReply s _ _

theorem ClockOnly.foldWaits (res : Result) (b : List Byte) (ws : List WaitOut) :
    ClockOnly s (ws.foldl (fun st w => st.completeWait w res b) s) := by
  induction ws generalizing s with
  | nil => exact .refl s
  | cons w ws ih => exact (ClockOnly.completeWait s w res b).trans (ih _)

theorem ClockOnly.completeWaits (test : WaitOut → Bool) (res : Result) (b : List Byte) :
    ClockOnly s (s.completeWaits test res b) :=
  (ClockOnly.setWaits s _ s.sdu.lastReading).trans (.foldWaits _ res b _)

theorem ClockOnly.waitWrap : ClockOnly s s.waitWrap := by
  unfold State.waitWrap
  dsimp only
  split
  · exact (ClockOnly.setWaits s s.sdu.waitOuts s.readNow).trans (.completeWaits _ _ _ _)
  · exact .refl s

theorem ClockOnly.releaseWaits : ClockOnly s s.releaseWaits := .completeWaits s _ _ _

theorem ClockOnly.stepWaits (n : StepNotice) : ClockOnly s (s.stepWaits n) :=
  .completeWaits s _ _ _

theorem ClockOnly.untimeWaits (t : TsState) : ClockOnly s (s.untimeWaits t) :=
  .completeWaits s _ _ _

/-! ## Hall time and the timescale -/

theorem ClockOnly.writeRate (v : Int) : ClockOnly s (s.writeRate v) := .setTsu s _

theorem ClockOnly.stepHall {step : Int} {t : State} (h : s.stepHall step = some t) :
    ClockOnly s t := by
  unfold State.stepHall at h
  split at h
  · injection h with h
    subst h
    exact (ClockOnly.setTsu s _).trans (.raise _ _ _ part_ne_link)
  · cases h

theorem ClockOnly.clearOutlier (r : RefId) : ClockOnly s (s.clearOutlier r) :=
  .clearCond s _ (reference_ne_link r)

theorem ClockOnly.announceTimescale (t : TsState) : ClockOnly s (s.announceTimescale t) := by
  unfold State.announceTimescale
  dsimp only
  split
  all_goals
    first
    | exact (ClockOnly.setEpg s _).trans (.untimeWaits _ _)
    | exact .setEpg s _

theorem ClockOnly.enterTimescale (t : TsState) : ClockOnly s (s.enterTimescale t) := by
  unfold State.enterTimescale
  dsimp only
  refine ClockOnly.trans ?_ (.announceTimescale _ t)
  refine ClockOnly.trans ?_ (.raise _ _ _ part_ne_link)
  have h := ClockOnly.setRdu s { s.rdu with tsState := t }
  split
  · exact (h.trans (.clearOutlier _ _)).trans (.clearOutlier _ _)
  · exact h

theorem ClockOnly.zeroLock : ClockOnly s s.zeroLock := .setRdu s _

theorem ClockOnly.zeroCounters : ClockOnly s s.zeroCounters := .setRdu s _

theorem ClockOnly.becomesSelected : ClockOnly s s.becomesSelected := by
  unfold State.becomesSelected
  dsimp only
  split
  · exact (ClockOnly.zeroLock s).trans (.enterTimescale _ _)
  · exact ((ClockOnly.zeroLock s).trans (.setRdu _ _)).trans (.enterTimescale _ _)
  all_goals exact .refl s

theorem ClockOnly.noneRemains : ClockOnly s s.noneRemains := by
  unfold State.noneRemains
  dsimp only
  split
  · exact (((ClockOnly.writeRate s _).trans (.zeroLock _)).trans (.setRdu _ _)).trans
      (.enterTimescale _ _)
  · exact (ClockOnly.zeroCounters s).trans (.enterTimescale _ _)
  all_goals exact .refl s

theorem ClockOnly.rejudge : ClockOnly s s.rejudge := by
  unfold State.rejudge
  repeat' split
  all_goals
    first
    | exact .refl s
    | exact .setRdu s _
    | exact (ClockOnly.setRdu s _).trans (.becomesSelected _)
    | exact (ClockOnly.setRdu s _).trans (.noneRemains _)

theorem ClockOnly.loseRef (r : RefId) (new : RefState) : ClockOnly s (s.loseRef r new) :=
  ((ClockOnly.setRef s r _).trans (.clearOutlier _ r)).trans
    (.raise _ _ _ (reference_ne_link r))

theorem ClockOnly.badQualified (r : RefId) : ClockOnly s (s.badQualified r) := by
  unfold State.badQualified
  dsimp only
  split
  · exact ((ClockOnly.setRef s r _).trans (.loseRef _ r _)).trans (.rejudge _)
  · exact .setRef s r _

theorem ClockOnly.badMark (r : RefId) : ClockOnly s (s.badMark r) := by
  unfold State.badMark
  dsimp only
  split
  · exact .refl s
  · exact .refl s
  · exact .setRef s r _
  · exact .badQualified s r

theorem ClockOnly.resetBadRun (r : RefId) : ClockOnly s (s.resetBadRun r) := .setRef s r _

theorem ClockOnly.servoRun (e : Int) : ClockOnly s (s.servoRun e) :=
  (ClockOnly.setRdu s _).trans (.writeRate _ _)

theorem ClockOnly.enterFailed : ClockOnly s s.enterFailed :=
  ((ClockOnly.setRdu s _).trans (.enterTimescale _ _)).trans (.raise _ _ _ part_ne_link)

theorem ClockOnly.lockIfReached : ClockOnly s s.lockIfReached := by
  unfold State.lockIfReached
  split
  · exact (ClockOnly.zeroLock s).trans (.enterTimescale _ _)
  · exact .refl s

theorem ClockOnly.unlockIfReached : ClockOnly s s.unlockIfReached := by
  unfold State.unlockIfReached
  split
  · exact (ClockOnly.zeroLock s).trans (.enterTimescale _ _)
  · exact .refl s

theorem ClockOnly.countLock (e : Int) : ClockOnly s (s.countLock e) := .setRdu s _

theorem ClockOnly.countUnlock (e : Int) : ClockOnly s (s.countUnlock e) := .setRdu s _

theorem ClockOnly.judgeAcquiring : ClockOnly s s.judgeAcquiring := by
  unfold State.judgeAcquiring
  split
  · exact .enterFailed s
  · exact .lockIfReached s

theorem ClockOnly.judgeLocked : ClockOnly s s.judgeLocked := by
  unfold State.judgeLocked
  split
  · exact .enterFailed s
  · exact .unlockIfReached s

theorem ClockOnly.resetRuns (r : RefId) : ClockOnly s (s.resetRuns r) := .setRef s r _

theorem ClockOnly.refuseStep (r : RefId) : ClockOnly s (s.refuseStep r) :=
  (ClockOnly.setRdu s _).trans (.badQualified _ r)

theorem ClockOnly.rejectOutlier (r : RefId) (e : Int) : ClockOnly s (s.rejectOutlier r e) :=
  ((ClockOnly.setRef s r _).trans (.raise _ _ _ (reference_ne_link r))).trans (.badQualified _ r)

theorem ClockOnly.actAcquiring (r : RefId) (e : Int) : ClockOnly s (s.actAcquiring r e) := by
  unfold State.actAcquiring
  split
  · split
    · next t h => exact ((ClockOnly.stepHall s h).trans (.zeroLock _)).trans (.resetBadRun _ r)
    · exact .refuseStep s r
  · exact ((((ClockOnly.servoRun s e).trans (.clearOutlier _ r)).trans (.resetBadRun _ r)).trans
      (.countLock _ e)).trans (.judgeAcquiring _)

theorem ClockOnly.actLocked (r : RefId) (e : Int) : ClockOnly s (s.actLocked r e) := by
  unfold State.actLocked
  split
  · exact ((((ClockOnly.servoRun s e).trans (.clearOutlier _ r)).trans (.resetRuns _ r)).trans
      (.countUnlock _ e)).trans (.judgeLocked _)
  · exact .rejectOutlier s r e

theorem ClockOnly.actOnMark (r : RefId) (l c : Nat) : ClockOnly s (s.actOnMark r l c) := by
  unfold State.actOnMark
  dsimp only
  split
  · exact .resetBadRun s r
  · split
    · exact .actAcquiring s r _
    · exact .actLocked s r _
    all_goals exact .resetBadRun s r

theorem ClockOnly.moveCandidate (r : RefId) : ClockOnly s (s.moveCandidate r) := by
  unfold State.moveCandidate
  split
  · exact (ClockOnly.setRdu s _).trans (.clearOutlier _ _)
  · exact .refl s

theorem ClockOnly.goodMark (r : RefId) (l c : Nat) : ClockOnly s (s.goodMark r l c) := by
  unfold State.goodMark
  dsimp only
  split
  · exact .refl s
  · exact .setRef s r _
  · split
    · exact ((ClockOnly.setRef s r _).trans (.raise _ _ _ (reference_ne_link r))).trans
        (.rejudge _)
    · exact .setRef s r _
  · split
    · exact (ClockOnly.moveCandidate s r).trans (.actOnMark _ r l c)
    · exact (ClockOnly.moveCandidate s r).trans (.resetBadRun _ r)

theorem ClockOnly.markArrival (r : RefId) (c : Nat) : ClockOnly s (s.markArrival r c) := by
  unfold State.markArrival
  dsimp only
  split
  · exact .refl s
  · split
    · exact .setRef s r _
    · exact (ClockOnly.setRef s r _).trans (.goodMark _ r _ c)
    · exact (ClockOnly.setRef s r _).trans (.badMark _ r)

theorem ClockOnly.missingMark (r : RefId) : ClockOnly s (s.missingMark r) := by
  unfold State.missingMark
  dsimp only
  split
  · exact (ClockOnly.setRef s r _).trans (.badMark _ r)
  · exact .refl s

theorem ClockOnly.huntLabel (r : RefId) : ClockOnly s (s.huntLabel r) := .setRef s r _

theorem ClockOnly.holdLabel (r : RefId) (l q : Nat) : ClockOnly s (s.holdLabel r l q) := by
  unfold State.holdLabel
  dsimp only
  split
  · exact .refl s
  · exact .setRef s r _

theorem ClockOnly.labelByte (r : RefId) (b : Byte) : ClockOnly s (s.labelByte r b) := by
  unfold State.labelByte
  dsimp only
  repeat' split
  all_goals
    first
    | exact .refl s
    | exact .setRef s r _
    | exact (ClockOnly.huntLabel s r).trans (.holdLabel _ r _ _)

theorem ClockOnly.abandonLabel (r : RefId) (c : AbandonCause) :
    ClockOnly s (s.abandonLabel r c) := by
  unfold State.abandonLabel
  repeat' split
  all_goals first | exact .refl s | exact .huntLabel s r

theorem ClockOnly.expireHoldover : ClockOnly s s.expireHoldover := by
  unfold State.expireHoldover
  split
  · exact (ClockOnly.setRdu s _).trans (.enterTimescale _ _)
  · exact .refl s

theorem ClockOnly.openBoundary : ClockOnly s s.openBoundary := .setTsu s _

theorem ClockOnly.takeSduNotice : ClockOnly s s.takeSduNotice := by
  unfold State.takeSduNotice
  split
  · exact .refl s
  · exact (ClockOnly.setTsu s _).trans (.stepWaits _ _)

theorem ClockOnly.takeEpgNotice : ClockOnly s s.takeEpgNotice := by
  unfold State.takeEpgNotice
  split
  · exact .refl s
  · exact (ClockOnly.setTsu s _).trans (.setEpg _ _)

/-- An event of the clock side, with its end: only the judgement of R162 and the attention lines
follow. -/
theorem ClockOnly.endEvent_eq {before s : State} (h : ClockOnly before s) :
    State.endEvent before s = s.settleCru :=
  State.endEvent_quiet before s fun m => (h.driving m).symm

theorem ClockOnly.settleCru (s : State) : ClockOnly s s.settleCru :=
  ClockOnly.setCru s fun m => Cru.settleListFull_driving s.cru m

theorem ClockOnly.endEvent {before s : State} (h : ClockOnly before s) :
    ClockOnly before (State.endEvent before s) := by
  rw [h.endEvent_eq]
  exact h.trans (.settleCru s)

end Sys2Proof.Machine
end

