-- ==== Sys2Proof/Laws/PerInstr.lean ====
section
/-!
SUPPORT. What holds of every command as syntax, one lemma per constructor: a command that can arise
and is a request frame has a body of at most 240 bytes, so its frame is 6 to 246 bytes long (12,
"Management frame"), and it is no event of a link or of the clock.
-/

namespace Sys2Proof.Laws.WellFormedShape

open Sys2Proof.Machine

/-- The shape of a request frame that can arise. -/
def Statement (c : Instr) : Prop :=
  ∀ r, requestOf c = some r → c.wellFormed = true →
    r.frame.length = r.body.length + 6 ∧ r.frame.length ≤ 246 ∧ linkEventOf c = none ∧
      isClockEvent c = false

/-- The bytes of a request frame, counted. -/
theorem frame_length (r : Request) : r.frame.length = r.body.length + 6 := by
  simp [Request.frame]

/-- A body that fits gives a frame that fits. -/
theorem shape (r : Request) (h : bodyFits r.body = true) :
    r.frame.length = r.body.length + 6 ∧ r.frame.length ≤ 246 := by
  have := frame_length r
  simp only [bodyFits, decide_eq_true_eq] at h
  omega

theorem coldReset (baud1 baud0 : Bool) :
    Statement (.coldReset baud1 baud0) := by
  intro r h
  cases h

theorem warmRestart :
    Statement (.warmRestart) := by
  intro r h
  cases h

theorem requestFrameCheckFail (p : Port) :
    Statement (.requestFrameCheckFail p) := by
  intro r h
  cases h

theorem managementFrameAbandoned (p : Port) (cause : AbandonCause) :
    Statement (.managementFrameAbandoned p cause) := by
  intro r h
  cases h

theorem unknownRequest (p : Port) (kind tag : Byte) (body : List Byte) :
    Statement (.unknownRequest p kind tag body) := by
  intro r h w
  cases h
  simp only [Instr.wellFormed, Bool.and_eq_true] at w
  exact ⟨frame_length _, (shape ⟨p, kind, tag, body⟩ w.2).2, rfl, rfl⟩

theorem replyTransmissionEnd (p : Port) :
    Statement (.replyTransmissionEnd p) := by
  intro r h
  cases h

theorem readSummary (p : Port) (tag : Byte) (body : List Byte) :
    Statement (.readSummary p tag body) := by
  intro r h w
  cases h
  exact ⟨frame_length _, (shape ⟨p, _, tag, body⟩ w).2, rfl, rfl⟩

theorem serve (p : Port) (tag : Byte) (body : List Byte) :
    Statement (.serve p tag body) := by
  intro r h w
  cases h
  exact ⟨frame_length _, (shape ⟨p, _, tag, body⟩ w).2, rfl, rfl⟩

theorem halt (p : Port) (tag : Byte) (body : List Byte) :
    Statement (.halt p tag body) := by
  intro r h w
  cases h
  exact ⟨frame_length _, (shape ⟨p, _, tag, body⟩ w).2, rfl, rfl⟩

theorem restart (p : Port) (tag : Byte) (body : List Byte) :
    Statement (.restart p tag body) := by
  intro r h w
  cases h
  exact ⟨frame_length _, (shape ⟨p, _, tag, body⟩ w).2, rfl, rfl⟩

theorem readTime (p : Port) (tag : Byte) (body : List Byte) :
    Statement (.readTime p tag body) := by
  intro r h w
  cases h
  exact ⟨frame_length _, (shape ⟨p, _, tag, body⟩ w).2, rfl, rfl⟩

theorem setRate (p : Port) (tag : Byte) (body : List Byte) :
    Statement (.setRate p tag body) := by
  intro r h w
  cases h
  exact ⟨frame_length _, (shape ⟨p, _, tag, body⟩ w).2, rfl, rfl⟩

theorem stepTime (p : Port) (tag : Byte) (body : List Byte) :
    Statement (.stepTime p tag body) := by
  intro r h w
  cases h
  exact ⟨frame_length _, (shape ⟨p, _, tag, body⟩ w).2, rfl, rfl⟩

theorem setTimescale (p : Port) (tag : Byte) (body : List Byte) :
    Statement (.setTimescale p tag body) := by
  intro r h w
  cases h
  exact ⟨frame_length _, (shape ⟨p, _, tag, body⟩ w).2, rfl, rfl⟩

theorem setReference (p : Port) (tag : Byte) (body : List Byte) :
    Statement (.setReference p tag body) := by
  intro r h w
  cases h
  exact ⟨frame_length _, (shape ⟨p, _, tag, body⟩ w).2, rfl, rfl⟩

theorem setEpoch (p : Port) (tag : Byte) (body : List Byte) :
    Statement (.setEpoch p tag body) := by
  intro r h w
  cases h
  exact ⟨frame_length _, (shape ⟨p, _, tag, body⟩ w).2, rfl, rfl⟩

theorem startEpoch (p : Port) (tag : Byte) (body : List Byte) :
    Statement (.startEpoch p tag body) := by
  intro r h w
  cases h
  exact ⟨frame_length _, (shape ⟨p, _, tag, body⟩ w).2, rfl, rfl⟩

theorem stopEpoch (p : Port) (tag : Byte) (body : List Byte) :
    Statement (.stopEpoch p tag body) := by
  intro r h w
  cases h
  exact ⟨frame_length _, (shape ⟨p, _, tag, body⟩ w).2, rfl, rfl⟩

theorem setDomain (p : Port) (tag : Byte) (body : List Byte) :
    Statement (.setDomain p tag body) := by
  intro r h w
  cases h
  exact ⟨frame_length _, (shape ⟨p, _, tag, body⟩ w).2, rfl, rfl⟩

theorem setLink (p : Port) (tag : Byte) (body : List Byte) :
    Statement (.setLink p tag body) := by
  intro r h w
  cases h
  exact ⟨frame_length _, (shape ⟨p, _, tag, body⟩ w).2, rfl, rfl⟩

theorem setLinkRange (p : Port) (tag : Byte) (body : List Byte) :
    Statement (.setLinkRange p tag body) := by
  intro r h w
  cases h
  exact ⟨frame_length _, (shape ⟨p, _, tag, body⟩ w).2, rfl, rfl⟩

theorem resetLink (p : Port) (tag : Byte) (body : List Byte) :
    Statement (.resetLink p tag body) := by
  intro r h w
  cases h
  exact ⟨frame_length _, (shape ⟨p, _, tag, body⟩ w).2, rfl, rfl⟩

theorem readRack (p : Port) (tag : Byte) (body : List Byte) :
    Statement (.readRack p tag body) := by
  intro r h w
  cases h
  exact ⟨frame_length _, (shape ⟨p, _, tag, body⟩ w).2, rfl, rfl⟩

theorem readWindow (p : Port) (tag : Byte) (body : List Byte) :
    Statement (.readWindow p tag body) := by
  intro r h w
  cases h
  exact ⟨frame_length _, (shape ⟨p, _, tag, body⟩ w).2, rfl, rfl⟩

theorem clearQuarantine (p : Port) (tag : Byte) (body : List Byte) :
    Statement (.clearQuarantine p tag body) := by
  intro r h w
  cases h
  exact ⟨frame_length _, (shape ⟨p, _, tag, body⟩ w).2, rfl, rfl⟩

theorem setDriftLimits (p : Port) (tag : Byte) (body : List Byte) :
    Statement (.setDriftLimits p tag body) := by
  intro r h w
  cases h
  exact ⟨frame_length _, (shape ⟨p, _, tag, body⟩ w).2, rfl, rfl⟩

theorem setSourceWindow (p : Port) (tag : Byte) (body : List Byte) :
    Statement (.setSourceWindow p tag body) := by
  intro r h w
  cases h
  exact ⟨frame_length _, (shape ⟨p, _, tag, body⟩ w).2, rfl, rfl⟩

theorem setClass (p : Port) (tag : Byte) (body : List Byte) :
    Statement (.setClass p tag body) := by
  intro r h w
  cases h
  exact ⟨frame_length _, (shape ⟨p, _, tag, body⟩ w).2, rfl, rfl⟩

theorem readStamps (p : Port) (tag : Byte) (body : List Byte) :
    Statement (.readStamps p tag body) := by
  intro r h w
  cases h
  exact ⟨frame_length _, (shape ⟨p, _, tag, body⟩ w).2, rfl, rfl⟩

theorem waitUntil (p : Port) (tag : Byte) (body : List Byte) :
    Statement (.waitUntil p tag body) := by
  intro r h w
  cases h
  exact ⟨frame_length _, (shape ⟨p, _, tag, body⟩ w).2, rfl, rfl⟩

theorem takeCondition (p : Port) (tag : Byte) (body : List Byte) :
    Statement (.takeCondition p tag body) := by
  intro r h w
  cases h
  exact ⟨frame_length _, (shape ⟨p, _, tag, body⟩ w).2, rfl, rfl⟩

theorem setReporting (p : Port) (tag : Byte) (body : List Byte) :
    Statement (.setReporting p tag body) := by
  intro r h w
  cases h
  exact ⟨frame_length _, (shape ⟨p, _, tag, body⟩ w).2, rfl, rfl⟩

theorem setRecording (p : Port) (tag : Byte) (body : List Byte) :
    Statement (.setRecording p tag body) := by
  intro r h w
  cases h
  exact ⟨frame_length _, (shape ⟨p, _, tag, body⟩ w).2, rfl, rfl⟩

theorem setAction (p : Port) (tag : Byte) (body : List Byte) :
    Statement (.setAction p tag body) := by
  intro r h w
  cases h
  exact ⟨frame_length _, (shape ⟨p, _, tag, body⟩ w).2, rfl, rfl⟩

theorem setRepost (p : Port) (tag : Byte) (body : List Byte) :
    Statement (.setRepost p tag body) := by
  intro r h w
  cases h
  exact ⟨frame_length _, (shape ⟨p, _, tag, body⟩ w).2, rfl, rfl⟩

theorem rateBoundary :
    Statement (.rateBoundary) := by
  intro r h
  cases h

theorem rtmStepNotice :
    Statement (.rtmStepNotice) := by
  intro r h
  cases h

theorem sduStepNotice :
    Statement (.sduStepNotice) := by
  intro r h
  cases h

theorem epgStepNotice :
    Statement (.epgStepNotice) := by
  intro r h
  cases h

theorem epgWrap :
    Statement (.epgWrap) := by
  intro r h
  cases h

theorem waitOutWrap :
    Statement (.waitOutWrap) := by
  intro r h
  cases h

theorem markArrival (r : RefId) (captured : Nat) :
    Statement (.markArrival r captured) := by
  intro r h
  cases h

theorem labelArrival (r : RefId) (labelSecond : BitVec 64) (quality : Byte) :
    Statement (.labelArrival r labelSecond quality) := by
  intro r h
  cases h

theorem labelRecordAbandoned (r : RefId) (cause : AbandonCause) :
    Statement (.labelRecordAbandoned r cause) := by
  intro r h
  cases h

theorem missingMark (r : RefId) :
    Statement (.missingMark r) := by
  intro r h
  cases h

theorem holdoverLimitExpiry :
    Statement (.holdoverLimitExpiry) := by
  intro r h
  cases h

theorem epochBoundary :
    Statement (.epochBoundary) := by
  intro r h
  cases h

theorem epaPulseEnd :
    Statement (.epaPulseEnd) := by
  intro r h
  cases h

theorem epbPulseStart :
    Statement (.epbPulseStart) := by
  intro r h
  cases h

theorem epbPulseEnd :
    Statement (.epbPulseEnd) := by
  intro r h
  cases h

theorem laneActivityGained (l : Link) :
    Statement (.laneActivityGained l) := by
  intro r h
  cases h

theorem laneActivityLost (l : Link) :
    Statement (.laneActivityLost l) := by
  intro r h
  cases h

theorem settleDeadline (l : Link) :
    Statement (.settleDeadline l) := by
  intro r h
  cases h

theorem trainingBlock (l : Link) (ready : Bool) :
    Statement (.trainingBlock l ready) := by
  intro r h
  cases h

theorem trainingDeadline (l : Link) :
    Statement (.trainingDeadline l) := by
  intro r h
  cases h

theorem receivedFrameCheckFailure (l : Link) :
    Statement (.receivedFrameCheckFailure l) := by
  intro r h
  cases h

theorem unknownKind (l : Link) :
    Statement (.unknownKind l) := by
  intro r h
  cases h

theorem linkErrorRateClear (l : Link) :
    Statement (.linkErrorRateClear l) := by
  intro r h
  cases h

theorem frameDeparted (l : Link) :
    Statement (.frameDeparted l) := by
  intro r h
  cases h

theorem hello (l : Link) (h : Hello) :
    Statement (.hello l h) := by
  intro r h
  cases h

theorem echo (l : Link) (arrival : Nat) (e : Echo) :
    Statement (.echo l arrival e) := by
  intro r h
  cases h

theorem trimDone (l : Link) (generation : BitVec 8) (appliedAt : BitVec 64) :
    Statement (.trimDone l generation appliedAt) := by
  intro r h
  cases h

theorem probeDue (l : Link) :
    Statement (.probeDue l) := by
  intro r h
  cases h

theorem exchangeTimeout (l : Link) :
    Statement (.exchangeTimeout l) := by
  intro r h
  cases h

theorem trimTimeout (l : Link) :
    Statement (.trimTimeout l) := by
  intro r h
  cases h

theorem lossDeadline (l : Link) :
    Statement (.lossDeadline l) := by
  intro r h
  cases h

theorem markFrame (l : Link) (m : Mark) :
    Statement (.markFrame l m) := by
  intro r h
  cases h

theorem waitOutRelease :
    Statement (.waitOutRelease) := by
  intro r h
  cases h

theorem repost (place : Nat) :
    Statement (.repost place) := by
  intro r h
  cases h

theorem managementPortByte (p : Port) (byte : Byte) :
    Statement (.managementPortByte p byte) := by
  intro r h
  cases h

theorem labelLineByte (r : RefId) (byte : Byte) :
    Statement (.labelLineByte r byte) := by
  intro r h
  cases h

theorem frameTransmissionBegins (l : Link) (departure : Nat) :
    Statement (.frameTransmissionBegins l departure) := by
  intro r h
  cases h

theorem trainingCountRestart (l : Link) :
    Statement (.trainingCountRestart l) := by
  intro r h
  cases h

end Sys2Proof.Laws.WellFormedShape
end

