-- ==== Sys2Proof/Laws/Ports.lean ====
section
/-!
SUPPORT. What the management ports do: the state a request is taken in, the reply it hands, and the
dispatch of a request frame.
-/

namespace Sys2Proof.Machine

variable (s : State) (p : Port) (kind tag : Byte)

/-! ## What taking a request and handing a reply leave alone -/

@[simp] theorem State.taken_osc :
    (s.taken p kind tag).osc = s.osc := by simp [State.taken]

@[simp] theorem State.taken_tsu :
    (s.taken p kind tag).tsu = s.tsu := by simp [State.taken]

@[simp] theorem State.taken_rdu :
    (s.taken p kind tag).rdu = s.rdu := by simp [State.taken]

@[simp] theorem State.taken_epg :
    (s.taken p kind tag).epg = s.epg := by simp [State.taken]

@[simp] theorem State.taken_links :
    (s.taken p kind tag).links = s.links := by simp [State.taken]

@[simp] theorem State.taken_rtmEra :
    (s.taken p kind tag).rtmEra = s.rtmEra := by simp [State.taken]

@[simp] theorem State.taken_entries :
    (s.taken p kind tag).entries = s.entries := by simp [State.taken]

@[simp] theorem State.taken_drift :
    (s.taken p kind tag).drift = s.drift := by simp [State.taken]

@[simp] theorem State.taken_sdu :
    (s.taken p kind tag).sdu = s.sdu := by simp [State.taken]

@[simp] theorem State.taken_cru :
    (s.taken p kind tag).cru = s.cru := by simp [State.taken]

@[simp] theorem State.taken_choices :
    (s.taken p kind tag).choices = s.choices := by simp [State.taken]

@[simp] theorem State.taken_pending :
    (s.taken p kind tag).pending = s.pending := by simp [State.taken]

@[simp] theorem State.taken_mgp_mode :
    (s.taken p kind tag).mgp.mode = s.mgp.mode := by simp [State.taken]

@[simp] theorem State.taken_mgp_restartPending :
    (s.taken p kind tag).mgp.restartPending = s.mgp.restartPending := by simp [State.taken]

@[simp] theorem State.taken_mgp_domainId :
    (s.taken p kind tag).mgp.domainId = s.mgp.domainId := by simp [State.taken]

@[simp] theorem State.taken_mgp_domainInstance :
    (s.taken p kind tag).mgp.domainInstance = s.mgp.domainInstance := by simp [State.taken]

@[simp] theorem State.taken_mgp_lineRate :
    (s.taken p kind tag).mgp.lineRate = s.mgp.lineRate := by simp [State.taken]

@[simp] theorem State.taken_link (x : Link) :
    (s.taken p kind tag).link x = s.link x := by simp [State.taken]

@[simp] theorem State.taken_entry (x : Link) :
    (s.taken p kind tag).entry x = s.entry x := by simp [State.taken]

@[simp] theorem State.taken_driftOf (x : Link) :
    (s.taken p kind tag).driftOf x = s.driftOf x := by simp [State.taken]

@[simp] theorem State.taken_ref (x : RefId) :
    (s.taken p kind tag).ref x = s.ref x := by simp [State.taken]

@[simp] theorem State.taken_port :
    (s.taken p kind tag).port p = { s.port p with receiver := .hunting, held := some (kind, tag) } := by
  simp [State.taken]

theorem State.taken_port_ne {q : Port} (h : q ≠ p) : (s.taken p kind tag).port q = s.port q :=
  State.port_setPort_ne s p _ q h

@[simp] theorem State.handReply_osc (r : Reply) :
    (s.handReply p r).osc = s.osc := by simp [State.handReply]

@[simp] theorem State.handReply_tsu (r : Reply) :
    (s.handReply p r).tsu = s.tsu := by simp [State.handReply]

@[simp] theorem State.handReply_rdu (r : Reply) :
    (s.handReply p r).rdu = s.rdu := by simp [State.handReply]

@[simp] theorem State.handReply_epg (r : Reply) :
    (s.handReply p r).epg = s.epg := by simp [State.handReply]

@[simp] theorem State.handReply_links (r : Reply) :
    (s.handReply p r).links = s.links := by simp [State.handReply]

@[simp] theorem State.handReply_rtmEra (r : Reply) :
    (s.handReply p r).rtmEra = s.rtmEra := by simp [State.handReply]

@[simp] theorem State.handReply_entries (r : Reply) :
    (s.handReply p r).entries = s.entries := by simp [State.handReply]

@[simp] theorem State.handReply_drift (r : Reply) :
    (s.handReply p r).drift = s.drift := by simp [State.handReply]

@[simp] theorem State.handReply_sdu (r : Reply) :
    (s.handReply p r).sdu = s.sdu := by simp [State.handReply]

@[simp] theorem State.handReply_cru (r : Reply) :
    (s.handReply p r).cru = s.cru := by simp [State.handReply]

@[simp] theorem State.handReply_choices (r : Reply) :
    (s.handReply p r).choices = s.choices := by simp [State.handReply]

@[simp] theorem State.handReply_pending (r : Reply) :
    (s.handReply p r).pending = s.pending := by simp [State.handReply]

@[simp] theorem State.handReply_mgp_mode (r : Reply) :
    (s.handReply p r).mgp.mode = s.mgp.mode := by
  simp [State.handReply]

@[simp] theorem State.handReply_mgp_restartPending (r : Reply) :
    (s.handReply p r).mgp.restartPending = s.mgp.restartPending := by
  simp [State.handReply]

@[simp] theorem State.handReply_mgp_domainId (r : Reply) :
    (s.handReply p r).mgp.domainId = s.mgp.domainId := by
  simp [State.handReply]

@[simp] theorem State.handReply_mgp_domainInstance (r : Reply) :
    (s.handReply p r).mgp.domainInstance = s.mgp.domainInstance := by
  simp [State.handReply]

@[simp] theorem State.handReply_mgp_lineRate (r : Reply) :
    (s.handReply p r).mgp.lineRate = s.mgp.lineRate := by
  simp [State.handReply]

@[simp] theorem State.handReply_link (r : Reply) (x : Link) :
    (s.handReply p r).link x = s.link x := by
  simp [State.handReply]

@[simp] theorem State.handReply_entry (r : Reply) (x : Link) :
    (s.handReply p r).entry x = s.entry x := by
  simp [State.handReply]

@[simp] theorem State.handReply_driftOf (r : Reply) (x : Link) :
    (s.handReply p r).driftOf x = s.driftOf x := by
  simp [State.handReply]

@[simp] theorem State.handReply_ref (r : Reply) (x : RefId) :
    (s.handReply p r).ref x = s.ref x := by
  simp [State.handReply]

@[simp] theorem State.handReply_port (r : Reply) :
    (s.handReply p r).port p = (s.port p).handReply r := by simp [State.handReply]

theorem State.handReply_port_ne (r : Reply) {q : Port} (h : q ≠ p) :
    (s.handReply p r).port q = s.port q := State.port_setPort_ne s p _ q h

/-! ## Replies -/

/-- A reply begun is still among the replies of the port. -/
@[simp] theorem PortState.beginNext_replies (x : PortState) : x.beginNext.replies = x.replies := by
  unfold PortState.beginNext PortState.replies
  split
  · rfl
  · split <;> simp_all

/-- A reply handed with room joins the replies of the port (R178). -/
theorem PortState.handReply_replies (x : PortState) (r : Reply) (h : x.queue.length < 16) :
    (x.handReply r).replies = x.replies ++ [r] := by
  have : ¬ 16 ≤ x.queue.length := by omega
  simp only [PortState.handReply, this, if_false, PortState.beginNext_replies]
  simp [PortState.replies]

/-! ## Dispatch (R176) -/

theorem State.hunt_taken :
    (s.hunt p).setPort p { (s.hunt p).port p with held := some (kind, tag) } = s.taken p kind tag := by
  simp [State.hunt, State.taken]

/-- What a request frame leads to on a port that takes it: the handler's effect and its reply. -/
theorem State.request_taken {s : State} {p : Port} (h : Accepts s p) (kind tag : Byte) (f : Handler) :
    s.request p kind tag f =
      match f (s.taken p kind tag) with
      | (t, some (res, body)) => t.replied p kind tag res body
      | (t, none) => t.setPort p { t.port p with held := none } := by
  obtain ⟨h1, h2, h3⟩ := h
  have e1 : (s.hunt p).mgp.restartPending = false := by simp [State.hunt, h1]
  have e2 : ((s.hunt p).port p).held = none := by simp [State.hunt, h2]
  have e3 : ¬ 16 ≤ ((s.hunt p).port p).queue.length := by simp [State.hunt]; omega
  unfold State.request State.dispatch
  rw [if_neg (by simp [e1]), if_neg (by simp [e2]), if_neg e3]
  unfold State.takeRequest
  simp only [State.hunt_taken]
  rcases f (s.taken p kind tag) with ⟨t, _ | ⟨res, body⟩⟩ <;> rfl

/-- A request answered without a deferred reply. -/
theorem State.request_answered {s t : State} {p : Port} {f : Handler} {res : Result}
    {body : List Byte} (h : Accepts s p) (kind tag : Byte)
    (k : f (s.taken p kind tag) = (t, some (res, body))) :
    s.request p kind tag f = t.replied p kind tag res body := by
  simp [State.request_taken h, k]

end Sys2Proof.Machine
end

