-- ==== Sys2Proof/Laws/Requests.lean ====
section
/-!
SUPPORT. A request command is a request frame handed to the handler of its kind, whichever of the 30
it is; and the checks of R177 that come before a handler's own.
-/

namespace Sys2Proof.Machine

/-- A kind byte that no request has is answered by the handler of unknown kinds. -/
theorem handlerOf_unknown (p : Port) (kind tag : Byte) (body : List Byte)
    (h : requestKinds.contains kind = false) : handlerOf p kind tag body = unknownHandler := by
  revert h
  unfold handlerOf requestKinds
  intro h
  split <;> first
    | rfl
    | (exfalso
       rename_i e
       have : kind = BitVec.ofNat 8 kind.toNat := by simp
       rw [e] at this
       subst this
       simp at h)

/-- What a request command does: its frame dispatched to the handler of its kind (R175 to R177). -/
theorem exec_request {c : Instr} {r : Request} (h : requestOf c = some r) (w : c.wellFormed = true)
    (s : State) :
    exec c s = .next (s.request r.port r.kind r.tag (handlerOf r.port r.kind r.tag r.body)) := by
  cases c <;> simp only [requestOf, Option.some.injEq, reduceCtorEq] at h <;> subst h <;>
    first
    | rfl
    | (rename_i p kind tag body
       have k : requestKinds.contains kind = false := by
         simp only [Instr.wellFormed, Bool.and_eq_true, Bool.not_eq_eq_eq_not, Bool.not_true] at w
         exact w.1
       rw [handlerOf_unknown p kind tag body k]
       rfl)

/-- Check 2 of R177 in a handler. -/
theorem withLength_of_ne {n : Nat} {body : List Byte} (f : Handler) (h : body.length ≠ n) (s : State) :
    withLength n body f s = (s, some (.malformed, [])) := by simp [withLength, h, bare]

@[simp] theorem withLength_of_eq {n : Nat} {body : List Byte} (f : Handler) (h : body.length = n) :
    withLength n body f = f := by funext s; simp [withLength, h]

@[simp] theorem withField_some {α : Type} (x : α) (f : α → Handler) : withField (some x) f = f x := rfl

theorem withField_none {α : Type} (f : α → Handler) (s : State) :
    withField none f s = (s, some (.malformed, [])) := rfl

/-- A body of another length than its kind's is answered MALFORMED by every handler. -/
theorem handlerOf_wrongLength (p : Port) (kind tag : Byte) (body : List Byte) (n : Nat)
    (h : requestLength kind = some n) (k : body.length ≠ n) (s : State) :
    handlerOf p kind tag body s = (s, some (.malformed, [])) := by
  revert h
  unfold requestLength handlerOf
  intro h
  split at h <;> simp_all [readSummaryH, serveH, haltH, restartH, readTimeH, setRateH, stepTimeH,
    setTimescaleH, setReferenceH, setEpochH, startEpochH, stopEpochH, setDomainH, setLinkH,
    setLinkRangeH, resetLinkH, readRackH, readWindowH, clearQuarantineH, setDriftLimitsH,
    setSourceWindowH, setClassH, readStampsH, waitUntilH, takeConditionH, setReportingH,
    setRecordingH, setActionH, setRepostH, withLength_of_ne]

end Sys2Proof.Machine
end

