-- ==== Sys2Proof/Tests/Slice0.lean ====
section
/-!
SUPPORT. The model's own tests: ill-formed commands refused, checks and layouts against values from
outside the model, single steps against the worked sequences of spec/, and for every statement with
hypotheses a named witness of a concrete state that meets them.
-/

-- Theorems one after the other: evaluated side by side they ask for more memory than a check has.
set_option Elab.async false

namespace Sys2Proof.Tests

open Sys2Proof Sys2Proof.Machine

/-! ## Well-formed commands -/

/-- A body one byte longer than a frame can hold (R174). -/
def longBody : List Byte := List.replicate 241 0#8

theorem test_long_bodies_refused :
    ([.unknownRequest .a 0#8 0#8 longBody, .readSummary .a 0#8 longBody, .serve .a 0#8 longBody,
      .halt .a 0#8 longBody, .restart .a 0#8 longBody, .readTime .a 0#8 longBody,
      .setRate .a 0#8 longBody, .stepTime .a 0#8 longBody, .setTimescale .a 0#8 longBody,
      .setReference .a 0#8 longBody, .setEpoch .a 0#8 longBody, .startEpoch .a 0#8 longBody,
      .stopEpoch .a 0#8 longBody, .setDomain .a 0#8 longBody, .setLink .a 0#8 longBody] :
        List Instr).all (fun c => !c.wellFormed) = true := by decide +kernel

theorem test_long_bodies_refused_rest :
    ([.setLinkRange .b 0#8 longBody, .resetLink .b 0#8 longBody, .readRack .b 0#8 longBody,
      .readWindow .b 0#8 longBody, .clearQuarantine .b 0#8 longBody, .setDriftLimits .b 0#8 longBody,
      .setSourceWindow .b 0#8 longBody, .setClass .b 0#8 longBody, .readStamps .b 0#8 longBody,
      .waitUntil .b 0#8 longBody, .takeCondition .b 0#8 longBody, .setReporting .b 0#8 longBody,
      .setRecording .b 0#8 longBody, .setAction .b 0#8 longBody, .setRepost .b 0#8 longBody] :
        List Instr).all (fun c => !c.wellFormed) = true := by decide +kernel

/-- Kind 0x54 is SET REPOST, so it is no unknown request. -/
theorem test_known_kind_refused : Instr.wellFormed (.unknownRequest .a 0x54#8 0#8 []) = false := by
  decide +kernel

theorem test_captured_instants_refused :
    Instr.wellFormed (.markArrival .a 18446744073709551616) = false ∧
    Instr.wellFormed (.echo 0 18446744073709551616 ⟨0, 0, 0, 0⟩) = false ∧
    Instr.wellFormed (.frameTransmissionBegins 0 18446744073709551616) = false := by decide +kernel

theorem test_label_cause_refused : Instr.wellFormed (.labelRecordAbandoned .a .badLength) = false := by
  decide +kernel

theorem test_event_kind_refused :
    Instr.wellFormed (.markFrame 0 ⟨16, 0, 0, 0, 0, 0⟩) = false ∧
    Instr.wellFormed (.markFrame 0 ⟨15, 0, 0, 0, 0, 0⟩) = true := by decide +kernel

theorem test_repost_place_refused : Instr.wellFormed (.repost 65) = false := by decide +kernel

/-! ## Checks and layouts -/

/-- The nine bytes "123456789". -/
def digits : List Byte := [0x31, 0x32, 0x33, 0x34, 0x35, 0x36, 0x37, 0x38, 0x39]

/-- The known check value of the polynomial x^16 + x^12 + x^5 + 1 preset to ones, not inverted. -/
theorem test_management_check : managementCheck digits = 0x29B1#16 := by decide +kernel

/-- The known check value of the 32-bit polynomial preset to ones, bits unreflected, inverted. -/
theorem test_span_check : spanCheck digits = 0xFC891918#32 := by decide +kernel

/-- No row of the opcode table has bits, so no word spells a command. -/
theorem test_no_word_spells : decodeTableWord 0 0 = none ∧ decodeTableWord 16 0x0102 = none := by
  decide +kernel

/-- A HELLO written out byte by byte: kind 81H, identity, domain id, instance, generation, endpoint
kind, one byte of padding (12, "Span-link frames"). -/
theorem test_decode_hello :
    let frame : List Byte := [0x81, 0x00, 0x07, 0x01, 0x02, 0x11, 0x22, 0x33, 0x44, 0x05, 0x01, 0x00]
    decodeSpanFrame 7 0 frame (spanCheck frame) =
      .hello 7 ⟨0x0007#16, 0x0102#16, 0x11223344#32, 5#8, 1#8⟩ := by decide +kernel

/-- A MARK written out byte by byte. -/
theorem test_decode_mark :
    let frame : List Byte := [0x84, 0x03, 0x12, 0x34, 0x00, 0x09, 0x00, 0x40, 0x06,
      0x00, 0x00, 0x00, 0x00, 0x3B, 0x9A, 0xCA, 0x00, 0x00, 0x00, 0x00]
    decodeSpanFrame 9 0 frame (spanCheck frame) =
      .markFrame 9 ⟨3#8, 0x1234#16, 9#16, 64#16, 6#8, 1000000000#64⟩ := by decide +kernel

/-- A TRIM-DONE and an ECHO written out byte by byte. -/
theorem test_decode_trim_done_and_echo :
    let trimDone : List Byte := [0x83, 0x2A, 0, 0, 0, 0, 0, 0, 1, 2, 0, 0]
    let echo : List Byte := [0x82, 0x2A, 0x00, 0x10, 0, 0, 0, 0, 0, 0, 0, 3, 0, 0, 0, 0, 0, 0, 0, 4]
    decodeSpanFrame 0 0 trimDone (spanCheck trimDone) = .trimDone 0 42#8 258#64 ∧
    decodeSpanFrame 0 77 echo (spanCheck echo) = .echo 0 77 ⟨42#8, 16#16, 3#64, 4#64⟩ := by
  decide +kernel

/-! ## Single steps against the worked sequences -/

/-- The state before event 1 of the worked sequence of chapter 1. -/
def chapter1 : State :=
  { State.reset with
    osc := 3000000250000000
    tsu := { Tsu.cold with inForce := ⟨3000000000000000, 5000000000000, 0, 7⟩, era := 7 } }

/-- The state after a command, the state before it where it does not answer one. -/
def after (c : Instr) (s : State) : State :=
  match exec c s with
  | .next t => t
  | .fault _ => s
  | .refused _ => s

/-- Event 1: SET RATE +40,000 gives the target second 5,001,000,000,000. -/
theorem test_set_rate_target :
    (after (.setRate .a 1 [0x00, 0x00, 0x9C, 0x40]) chapter1).tsu.pendingRate =
      some ⟨40000, 5001000000000⟩ := by decide +kernel

/-- Event 3: STEP TIME +2,000,000,500 taken at O = 3,000,000,700,000,000. -/
theorem test_step_time :
    (after (.stepTime .a 2 [0, 0, 0, 0, 0x77, 0x35, 0x95, 0xF4])
      { chapter1 with osc := 3000000700000000 }).tsu.inForce =
      ⟨3000000700000000, 5002700000500, 0, 8⟩ := by decide +kernel

/-- Event 4: the boundary instant 3,000,000,999,999,500 opens the segment of the pending rate. -/
theorem test_boundary_instant :
    ({ Tsu.cold with inForce := ⟨3000000700000000, 5002700000500, 0, 8⟩,
                     pendingRate := some ⟨-15000, 5003000000000⟩ } : Tsu).boundaryInstant =
      some 3000000999999500 := by decide +kernel

/-- The READ TIME at its end: 400,000,000 ns at −15,000 ppt. -/
theorem test_segment_correction :
    (⟨3000000999999500, 5003000000000, -15000, 8⟩ : Segment).hall 3000001399999500 =
      5003399999994 := by decide +kernel

/-! ## States the witnesses are built on -/

/-- The part right after reset with hall time in force from 0, at an oscillator instant. -/
def timed (o : Nat) : State := { State.reset with osc := o }

/-- In a timescale state. -/
def inTimescale (t : TsState) : State := State.reset.setRdu { Rdu.cold with tsState := t }

/-- In SERVING. -/
def servingPart : State := State.reset.setMgp { Mgp.cold with mode := .serving }

/-- With link 0 UP and a rack entry on it, in SERVING. -/
def withRack (r : LinkRecord) (e : RackEntry) (s : State) : State :=
  ((s.setMgp { Mgp.cold with mode := .serving }).setLink 0 r).setEntry 0 e

def linkUp : LinkRecord := { LinkRecord.cold 0 with enable := true, state := .up }

/-- An entry in service in a state, with a last accepted exchange at O = 0. -/
def rackIn (x : RackState) : RackEntry :=
  { RackEntry.cold with state := x, identity := some 0, lastAccepted := some 0 }

def restEstimate : Estimate := ⟨0, 0, 0, 0, 0, .fresh⟩

def someTrim : TrimInFlight := ⟨1, 5, 6, 7, true, some 0⟩

def someReply : Reply := ⟨0x90, 0, [0], true⟩

def restartReply : Reply := ⟨0x84, 0, [0], true⟩

def aNotice : StepNotice := ⟨5, 1, 0, 5⟩

def aWait : WaitOut := ⟨.a, 0, 5, 0, 0⟩

def aRecord : CondRecord :=
  { kind := .linkDown, scope := .link 0, posted := ⟨0, 0, 0⟩, active := true, repeats := 0,
    ancillary := false, pend := .broadcast true true, taken := false, takenSince := false,
    lastTake := none, repostDue := some 8, details := {} }

/-- A part about to restart, with its RESTART reply on port A. -/
def restarting : State :=
  (inTimescale .locked).setMgp
    { Mgp.cold with restartPending := true, portA := { PortState.cold with inTx := some restartReply } }

/-- Port A with a queue of some length and a reply in transmission or none. -/
def queued (n : Nat) (x : Option Reply) : State :=
  State.reset.setPort .a { PortState.cold with queue := List.replicate n someReply, inTx := x }

theorem accepts_of (s : State) (p : Port)
    (h : s.mgp.restartPending = false ∧ (s.port p).held = none ∧ (s.port p).queue.length < 16) :
    Accepts s p := ⟨h.1, h.2.1, h.2.2⟩

/-! ## Witnesses: the queue, the ports, the part -/

/-- Nothing is due at reset; the first second boundary is due at O = 1,000,000,000. -/
theorem witness_StepRunsFrontCommand :
    ({ State.reset with pending := [.rateBoundary] } : State).pending = [.rateBoundary] ∧
    State.reset.pending = [] ∧ State.reset.dueEvents = [] ∧ (timed 1000000000).dueEvents ≠ [] := by
  decide +kernel

theorem witness_RepliesLeaveInOrder :
    16 ≤ ((queued 16 none).port .a).queue.length ∧ ((queued 15 none).port .a).queue.length < 16 ∧
    ((queued 1 (some someReply)).port .a).inTx = some someReply ∧
    (queued 1 (some someReply)).restartPort ≠ some .a ∧
    ((queued 0 (some someReply)).port .a).queue = [] ∧ restarting.restartPort = some .a ∧
    (restarting.port .a).inTx = some restartReply := by decide +kernel

/-- R176: a queue of 16 discards the reply and ends the hold of the request that asked for it. -/
theorem test_discarded_reply_ends_the_hold :
    let x := { (queued 16 none).port .a with held := some (0x10#8, 0#8) }
    ((x.handReply someReply).held, (x.handReply someReply).dropped) = (none, 1) := by decide +kernel

theorem witness_ManagementReceiver :
    (((timed 10000000).setPort .a { PortState.cold with receiver := .assembling [] 0 }).port .a).receiver
      = .assembling [] 0 ∧ 0 + 10000000 ≤ (timed 10000000).osc ∧
    (State.reset.port .b).receiver = .hunting := by decide +kernel

theorem witness_FrameBytesRunTheRequest :
    requestOf (.readTime .a 7 []) = some ⟨.a, 0x10, 7, []⟩ ∧
    Instr.wellFormed (.readTime .a 7 []) = true ∧ (State.reset.port .a).receiver = .hunting ∧
    [0#8, 0#8] ≠ (Request.frame ⟨.a, 0x10, 7, []⟩).drop 4 := by decide +kernel

theorem witness_RequestsNotTaken :
    requestOf (.readTime .a 7 []) = some ⟨.a, 0x10, 7, []⟩ ∧ restarting.mgp.restartPending = true ∧
    ((State.reset.setPort .a { PortState.cold with held := some (1, 2) }).port .a).held ≠ none ∧
    (queued 16 none).mgp.restartPending = false ∧ ((queued 16 none).port .a).held = none ∧
    16 ≤ ((queued 16 none).port .a).queue.length := by decide +kernel

theorem witness_StructureOfRequestsChecked :
    Accepts (queued 15 (some someReply)) .a ∧
    Instr.wellFormed (.setRate .a 7 [0, 0, 0]) = true ∧ requestLength 0x11 = some 4 ∧
    requestLength 0x14 = some 3 ∧ namesThing 0x14 (field [2, 0, 0] 0 1) = false ∧
    Instr.wellFormed (.setReference .a 7 [2, 0, 0]) = true ∧
    Instr.wellFormed (.unknownRequest .a 0x05 7 []) = true :=
  ⟨accepts_of _ _ (by decide +kernel), by decide +kernel⟩

theorem witness_ReadsOfThePart :
    Accepts { State.reset with tsu := { Tsu.cold with era := 65535 } } .b ∧
    State.reset.sdu.journal.length ≤ 2048 ∧ State.reset.cru.list.length ≤ 64 ∧
    State.reset.sdu.waitOuts.length ≤ 16 ∧ State.reset.mgp.portA.dropped ≤ 255 ∧
    State.reset.mgp.portB.dropped ≤ 255 ∧ State.reset.rtmEra < 65536 ∧
    (State.reset.entry 39).window.length ≤ 8 :=
  ⟨accepts_of _ _ (by decide +kernel), by decide +kernel⟩

/-- Links 0 and 1 UP in SETUP, each with a held HELLO of identity 1, which lies in both ranges. -/
def twoHeld : State :=
  let h : Hello := ⟨1, 0, 0, 0, 0⟩
  (((State.reset.setLink 0 { LinkRecord.cold 0 with enable := true, state := .up, rangeLast := 1 }).setLink
    1 { LinkRecord.cold 1 with enable := true, state := .up }).setEntry
    0 { RackEntry.cold with heldHello := some h }).setEntry 1 { RackEntry.cold with heldHello := some h }

/-- At SERVE the lower-numbered link takes the identity and the other is its duplicate (R77, R80). -/
theorem test_serve_judges_held_hellos :
    ((after (.serve .a 0 []) twoHeld).entry 0).state = .attaching ∧
    ((after (.serve .a 0 []) twoHeld).entry 1).quarantineReason = some .duplicate := by decide +kernel

theorem witness_ServeRequest :
    Accepts State.reset .a ∧ Accepts servingPart .a ∧ Accepts twoHeld .a ∧
    (∀ l, FlagsMatch twoHeld l) ∧ ¬ TwinHello twoHeld ⟨1, 0, 0, 0, 0⟩ ∧
    ¬ StrayHello twoHeld 0 ⟨1, 0, 0, 0, 0⟩ ∧ (State.reset.link 0).state ≠ .up ∧
    servingPart.mgp.mode = .serving ∧ twoHeld.mgp.mode = .setup ∧
    (∀ l, (twoHeld.entry l).state = .idle ∧ (twoHeld.link l).txQueue.length ≤ 30) ∧
    (twoHeld.link 0).state = .up ∧ (twoHeld.entry 1).heldHello = some ⟨1, 0, 0, 0, 0⟩ ∧
    (twoHeld.entry 0).isolate = false :=
  ⟨accepts_of _ _ (by decide +kernel), accepts_of _ _ (by decide +kernel),
    accepts_of _ _ (by decide +kernel),
    fun l => ⟨by revert l; decide +kernel, by revert l; decide +kernel⟩,
    by unfold TwinHello; decide +kernel, by unfold StrayHello; decide +kernel, by decide +kernel⟩

theorem witness_HaltRequest :
    (let s := (withRack linkUp (rackIn .coasting) State.reset).setEntry 1 (rackIn .lost)
     Accepts s .a ∧ s.mgp.mode = .serving ∧ (s.entry 0).state = .coasting ∧
     (s.entry 1).state = .lost) ∧
    Accepts State.reset .a ∧ Accepts servingPart .b ∧ State.reset.mgp.mode = .setup ∧
    servingPart.mgp.mode = .serving :=
  ⟨⟨accepts_of _ _ (by decide +kernel), by decide +kernel⟩, accepts_of _ _ (by decide +kernel),
    accepts_of _ _ (by decide +kernel), by decide +kernel⟩

theorem witness_DomainRequest :
    Accepts State.reset .a ∧ Accepts servingPart .a ∧ State.reset.mgp.mode = .setup ∧
    servingPart.mgp.mode = .serving ∧ 65535 < 65536 ∧ 4294967295 < 4294967296 :=
  ⟨accepts_of _ _ (by decide +kernel), accepts_of _ _ (by decide +kernel), by decide +kernel⟩

theorem witness_WarmRestartTaken :
    Accepts State.reset .a ∧ restarting.sdu.waitsFit ∧ restarting.restartPort = some .a ∧
    restarting.rdu.tsState = .locked ∧
    ((restarting.setRef .a { Reference.cold with state := .qualified }).ref .a).state ≠ .off ∧
    (let s := (restarting.setRdu Rdu.cold).setEpg { Epg.cold with running := true }
     s.restartPort = some .a ∧ s.epg.running = true ∧ s.epg.schedule.squelch = true ∧
     s.rdu.tsState = .free) :=
  ⟨accepts_of _ _ (by decide +kernel), ⟨by decide +kernel, by decide +kernel, by decide +kernel⟩,
    by decide +kernel⟩

/-! ## Witnesses: hall time -/

theorem witness_HallTimeAndTargetSecond :
    rateInRange (-100000000) ∧ rateInRange 100000000 ∧ 18446744073709551615 < 18446744073709551616 ∧
    0 < 1000000000 ∧ 1000000000 % 1000000000 = 0 :=
  ⟨⟨by decide, by decide⟩, ⟨by decide, by decide⟩, by decide +kernel⟩

/-- A pending rate whose boundary instant is 1,000,000,000. -/
def pendingRatePart (o : Nat) : State :=
  { timed o with tsu := { Tsu.cold with pendingRate := some ⟨5, 1000000000⟩ } }

theorem witness_RateBoundary :
    rateInRange (⟨0, 7, -100000000, 0⟩ : Segment).rate ∧ (⟨0, 7, -100000000, 0⟩ : Segment).anchorH ≤ 7 ∧
    (pendingRatePart 0).tsu.pendingRate = some ⟨5, 1000000000⟩ ∧
    (pendingRatePart 999999999).osc < (pendingRatePart 0).tsu.inForce.firstReach 1000000000 ∧
    (pendingRatePart 0).tsu.inForce.firstReach 1000000000 ≤ (pendingRatePart 1000000000).osc :=
  ⟨⟨by decide, by decide⟩, by decide +kernel⟩

/-- In HOLDOVER since an oscillator instant. -/
def heldOver (start o : Nat) : State :=
  { timed o with rdu := { Rdu.cold with tsState := .holdover, holdoverStart := some start } }

theorem witness_ReadTimeAndUncertainty :
    Accepts (timed 18446744073709551608) .a ∧ (timed 18446744073709551608).tsu.ratesInRange ∧
    (inTimescale .locked).rdu.tsState = .locked ∧ (inTimescale .free).rdu.tsState = .free ∧
    (inTimescale .acquiring).rdu.tsState = .acquiring ∧
    (inTimescale .failed).rdu.tsState = .failed ∧ (heldOver 8 8).rdu.tsState = .holdover ∧
    (heldOver 8 8).rdu.holdoverStart = some 8 ∧ 8 ≤ (heldOver 8 8).osc ∧
    (timed 18446744073709551608).osc < 18446744073709551616 ∧
    (timed 18446744073709551608).readNow.era < 65536 :=
  ⟨accepts_of _ _ (by decide +kernel),
    ⟨⟨by decide, by decide⟩, fun _ h => absurd h (by simp [timed, State.reset, Tsu.cold]),
      fun _ h => absurd h (by simp [timed, State.reset, Tsu.cold])⟩,
    by decide +kernel⟩

/-- R15: a READ TIME taken at the boundary instant, before the boundary is opened, shows the rate
pending. -/
theorem test_read_time_at_the_boundary_instant :
    (field (pendingRatePart 1000000000).timeBody 28 4, field (pendingRatePart 1000000001).timeBody 28 4) =
      (5, 0) := by decide +kernel

theorem witness_SetRateRequest :
    Accepts (inTimescale .free) .a ∧ Accepts (inTimescale .locked) .b ∧
    (inTimescale .free).rdu.tsState = .free ∧ (inTimescale .locked).rdu.tsState ≠ .free ∧
    (-2147483648 : Int) ≤ -2147483648 ∧ (2147483647 : Int) < 2147483648 :=
  ⟨accepts_of _ _ (by decide +kernel), accepts_of _ _ (by decide +kernel), by decide +kernel⟩

/-- At reset H_now is 0: the step 0 is the least admitted, −1 is refused; from hall time 2^63 the step
2^63 − 1 is the greatest admitted. -/
theorem witness_StepTimeRequest :
    Accepts State.reset .a ∧ Accepts (inTimescale .locked) .a ∧ State.reset.rdu.tsState = .free ∧
    State.reset.tsu.stepTarget State.reset.osc 0 = 0 ∧
    State.reset.tsu.stepTarget State.reset.osc (-1) < 0 ∧
    (timed 9223372036854775808).tsu.stepTarget 9223372036854775808 9223372036854775807 =
      18446744073709551615 ∧ (inTimescale .locked).rdu.tsState ≠ .free :=
  ⟨accepts_of _ _ (by decide +kernel), accepts_of _ _ (by decide +kernel), by decide +kernel⟩

/-- A part with a step notice given to each block. -/
def noticed (s : State) : State :=
  s.setTsu { s.tsu with era := 2, rtmNotices := [aNotice], sduNotices := [aNotice],
                        epgNotices := [aNotice] }

theorem witness_RtmTakesStepNotice :
    let s := noticed (withRack linkUp { rackIn .tracking with stepOwed := some 1 } State.reset)
    let z := s.setTsu { s.tsu with rtmNotices := [{ aNotice with step := 0 }] }
    z.tsu.rtmNotices = [{ aNotice with step := 0 }] ∧ z.inService 0 = true ∧ aNotice.step ≠ 0 ∧
    s.tsu.rtmNotices = [aNotice] ∧ (∀ l, (s.link l).txQueue.length < 32) ∧ s.inService 0 = true ∧
    (s.entry 0).stepOwed = some 1 ∧ s.inService 1 = false := by decide +kernel

/-- R112: with no step owed, S itself is owed; only a sum with a step owed saturates at ±2^62; a step
of zero changes no step owed. -/
theorem test_step_owed_saturates_sums_alone :
    addStepOwed none 4611686018427387905 = some 4611686018427387905 ∧
    addStepOwed (some 1) 4611686018427387904 = some 4611686018427387904 ∧
    addStepOwed none 0 = none ∧
    addStepOwed (some 4611686018427387905) 0 = some 4611686018427387905 := by decide +kernel

theorem witness_StepNoticesAndWrapsTaken :
    (noticed State.reset).tsu.sduNotices = [aNotice] ∧
    ((noticed State.reset).port .a).queue.length + (noticed State.reset).sdu.share .a ≤ 16 ∧
    (noticed State.reset).tsu.epgNotices = [aNotice] ∧ (noticed State.reset).epg.alignEra ≠ aNotice.era ∧
    (noticed State.reset).epg.alignEra ≠ (noticed State.reset).tsu.era ∧
    ((noticed State.reset).setEpg { Epg.cold with alignEra := 1 }).epg.alignEra = aNotice.era ∧
    (let s := State.reset.setEpg { Epg.cold with lastReading := ⟨1, 0, 0⟩ }
     s.readNow.era = s.epg.alignEra ∧ s.readNow.era = s.epg.lastReading.era ∧
     s.readNow.hall < s.epg.lastReading.hall) ∧
    (let s := State.reset.setSdu { Sdu.cold with lastReading := ⟨1, 0, 0⟩, waitOuts := [aWait] }
     s.readNow.era = s.sdu.lastReading.era ∧ s.readNow.hall < s.sdu.lastReading.hall ∧
     (s.port .a).queue.length + s.sdu.share .a ≤ 16) := by decide +kernel

/-! ## Witnesses: references and epoch outputs -/

/-- Reference A in a state with its runs, and a mark one second ago under a held label. -/
def referenceA (x : RefState) (good bad : Nat) (label : Option Label) : State :=
  (timed 2000000000).setRef .a
    { Reference.cold with
      enable := true, state := x, previousMark := some 1000000000, heldLabel := label
      missingDeadline := some 2000000000, goodRun := good, badRun := bad }

theorem witness_MarkArrivals :
    ((State.reset.ref .a).state = .off) ∧ (referenceA .waiting 0 0 none).ref .a ≠ Reference.cold ∧
    Reference.classify { Reference.cold with state := .waiting } 5 = .opening ∧
    ((referenceA .waiting 0 0 (some ⟨2, 0⟩)).ref .a).classify 2000100000 = .good 2 ∧
    ((referenceA .qualifying 2 0 (some ⟨2, 0⟩)).ref .a).classify 1999900000 = .good 2 ∧
    ((referenceA .qualifying 3 0 (some ⟨2, 0⟩)).ref .a).goodRun = 3 ∧
    ((referenceA .qualified 0 1 none).ref .a).classify 2000000000 = .bad ∧
    ((referenceA .qualified 0 2 none).ref .a).badRun = 2 := by decide +kernel

/-- Reference A selected and QUALIFIED, in a timescale state. -/
def selectedA (t : TsState) (captured bad : Nat) : State :=
  let s := { referenceA .qualified 4 bad (some ⟨2, 0⟩) with osc := captured }
  s.setRdu { s.rdu with selected := some .a, tsState := t }

theorem goodMark_of (s : State) (r : RefId) (captured second : Nat)
    (h : (s.ref r).state = .qualified ∧ (s.ref r).classify captured = .good second ∧
      s.rdu.selected = some r ∧ s.rdu.candidate ≠ some r ∧ (s.tsu.convert captured).era = s.tsu.era) :
    SelectedGoodMark s r captured second := ⟨h.1, h.2.1, h.2.2.1, h.2.2.2.1, h.2.2.2.2⟩

/-- Reference A selected, and reference B, of lower priority value, its candidate. -/
def candidateB : State :=
  let x := (referenceA .qualified 4 0 (some ⟨2, 0⟩)).ref .a
  let s := ((selectedA .locked 2000000000 0).setRef .a { x with priority := 1 }).setRef .b
    { x with priority := 0 }
  s.setRdu { s.rdu with candidate := some .b }

/-- A mark 10,000 ns before its second is at the outlier gate; one 10,001 ns before is beyond it. -/
theorem witness_ServoRunOnGoodMark :
    SelectedGoodMark (selectedA .locked 1999990000 0) .a 1999990000 2 ∧
    SelectedGoodMark (selectedA .acquiring 1999900000 0) .a 1999900000 2 ∧
    (phaseError (selectedA .locked 1999990000 0) 1999990000 2).natAbs ≤ 10000 ∧
    (phaseError (selectedA .acquiring 1999900000 0) 1999900000 2).natAbs ≤ 100000 ∧
    (candidateB.ref .b).state = .qualified ∧ (candidateB.ref .b).classify 2000000000 = .good 2 ∧
    candidateB.rdu.candidate = some .b :=
  ⟨goodMark_of _ _ _ _ (by decide +kernel), goodMark_of _ _ _ _ (by decide +kernel), by decide +kernel⟩

/-- R26: at its next GOOD mark the candidate is selected, and the servo runs on that mark. -/
theorem test_candidate_takes_over :
    (after (.markArrival .b 2000000000) candidateB).rdu.selected = some .b ∧
    (after (.markArrival .b 2000000000) candidateB).tsu.pendingRate ≠ none := by decide +kernel

/-- R25, R29: the reference that qualifies is selected, and HOLDOVER ends in ACQUIRING. -/
theorem test_qualified_reference_selected :
    let s := referenceA .qualifying 3 0 (some ⟨2, 0⟩)
    let t := after (.markArrival .a 2000000000)
      (s.setRdu { s.rdu with tsState := .holdover, holdoverStart := some 1, lockCount := 3 })
    t.rdu.selected = some .a ∧ t.rdu.tsState = .acquiring ∧ t.rdu.holdoverStart = none ∧
    t.rdu.lockCount = 0 := by decide +kernel

theorem isBest_of (s : State) (r : RefId)
    (h : (s.ref r).state = .qualified ∧ ((s.ref (otherRef r)).state = .qualified →
      (s.ref r).priority < (s.ref (otherRef r)).priority ∨
        ((s.ref r).priority = (s.ref (otherRef r)).priority ∧ r = .a))) : IsBest s r := ⟨h.1, h.2⟩

/-- The best reference of `candidateB` is B; with none selected A alone is best of `referenceA`. -/
theorem witness_SelectionJudged :
    IsBest candidateB .b ∧ IsBest (referenceA .qualified 4 0 none) .a ∧
    (referenceA .qualified 4 0 none).rdu.selected = none ∧ candidateB.rdu.selected = some .a ∧
    ∀ r, (State.reset.ref r).state ≠ .qualified :=
  ⟨isBest_of _ _ (by decide +kernel), isBest_of _ _ (by decide +kernel), by decide +kernel,
    by decide +kernel, fun r => by cases r <;> decide +kernel⟩

theorem witness_RejectedAndSteppingMarks :
    SelectedGoodMark (selectedA .locked 1999989999 1) .a 1999989999 2 ∧
    SelectedGoodMark (selectedA .locked 1999989999 2) .a 1999989999 2 ∧
    (let s := (selectedA .acquiring 2000000000 1).setTsu { Tsu.cold with inForce := ⟨0, 100001, 0, 0⟩ }
     SelectedGoodMark s .a 2000000000 2 ∧ s.rdu.settings.stepThreshold ≠ 0 ∧
     s.rdu.settings.stepThreshold < (phaseError s 2000000000 2).natAbs ∧
     s.tsu.stepInRange s.osc (phaseError s 2000000000 2) = true) ∧
    (let s := { selectedA .acquiring 2000000000 1 with
                osc := 0, tsu := { Tsu.cold with inForce := ⟨0, 100001, 0, 0⟩ } }
     SelectedGoodMark s .a 2000000000 2 ∧
     s.rdu.settings.stepThreshold < (phaseError s 2000000000 2).natAbs) ∧
    10000 < (phaseError (selectedA .locked 1999989999 1) 1999989999 2).natAbs ∧
    10000 < (phaseError (selectedA .locked 1999989999 2) 1999989999 2).natAbs ∧
    ((selectedA .locked 1999989999 2).ref .a).badRun = 2 :=
  ⟨goodMark_of _ _ _ _ (by decide +kernel), goodMark_of _ _ _ _ (by decide +kernel),
    ⟨goodMark_of _ _ _ _ (by decide +kernel), by decide +kernel⟩,
    ⟨goodMark_of _ _ _ _ (by decide +kernel), by decide +kernel⟩, by decide +kernel⟩

/-- A part whose hall time is 100,000 now, for which a phase error of −200,000 ns is a refused step. -/
def refusing (bad : Nat) : State :=
  { selectedA .acquiring 2000100000 bad with
    osc := 0, tsu := { Tsu.cold with inForce := ⟨0, 100000, 0, 0⟩ } }

theorem witness_RefusedStep :
    SelectedGoodMark (refusing 1) .a 2000100000 2 ∧ SelectedGoodMark (refusing 2) .a 2000100000 2 ∧
    ((refusing 1).ref .a).badRun < 2 ∧ ((refusing 2).ref .a).badRun = 2 ∧
    (refusing 2).tsu.stepInRange (refusing 2).osc (-200000) = false ∧
    (refusing 2).rdu.settings.stepThreshold < 200000 ∧
    phaseError (refusing 2) 2000100000 2 = -200000 :=
  ⟨goodMark_of _ _ _ _ (by decide +kernel), goodMark_of _ _ _ _ (by decide +kernel), by decide +kernel⟩

/-- R24, R31, R34: the third rejection takes the reference out of QUALIFIED, and FREE follows. -/
theorem test_third_rejection :
    let t := after (.markArrival .a 2000100000) (refusing 2)
    (t.ref .a).state = .waiting ∧ t.rdu.selected = none ∧ t.rdu.tsState = .free := by decide +kernel

theorem witness_LabelRecords :
    ((referenceA .waiting 0 0 none).ref .a).state ≠ .off ∧
    ((referenceA .waiting 0 0 none).ref .a).receiver = .hunting ∧ (State.reset.ref .b).state = .off ∧
    (0#8 ≠ labelCheck (beBytes 8 5 ++ [0])) ∧
    (let s := (timed 10000000).setRef .a
       { Reference.cold with state := .waiting, receiver := .assembling [1] 0 }
     (s.ref .a).receiver = .assembling [1] 0 ∧ 0 + 10000000 ≤ s.osc) := by decide +kernel

theorem witness_MissingMarksAndHoldoverLimit :
    ((referenceA .waiting 0 0 none).ref .a).missingDeadline = some 2000000000 ∧
    2000000000 ≤ (referenceA .waiting 0 0 none).osc ∧
    ((referenceA .qualifying 3 0 none).ref .a).state = .qualifying ∧
    ((referenceA .qualified 4 1 none).ref .a).badRun = 1 ∧
    (selectedA .locked 2000000000 2).rdu.selected = some .a ∧
    ((selectedA .locked 2000000000 2).ref .b).state ≠ .qualified ∧
    (selectedA .acquiring 2000000000 2).rdu.tsState = .acquiring ∧
    (heldOver 0 14399999999999).osc < 0 + 14400 * 1000000000 ∧
    0 + (heldOver 0 14400000000000).rdu.settings.holdoverLimit * 1000000000 ≤
      (heldOver 0 14400000000000).osc ∧
    ((heldOver 0 14400000000000).port .a).queue.length + (heldOver 0 0).sdu.share .a ≤ 16 := by
  decide +kernel

/-- R34: from ACQUIRING the counters become 0, the clamp counter among them. -/
theorem test_none_remains_zeroes_counters :
    let s := (selectedA .acquiring 2000000000 2).setRdu
      { (selectedA .acquiring 2000000000 2).rdu with clampCount := 5, lockCount := 3 }
    let t := after (.missingMark .a) s
    t.rdu.tsState = .free ∧ (t.rdu.lockCount, t.rdu.unlockCount, t.rdu.clampCount) = (0, 0, 0) := by
  decide +kernel

theorem witness_SetTimescaleRequest :
    Accepts (heldOver 0 60000000000) .a ∧ (List.replicate 36 (0#8)).length = 36 ∧
    (heldOver 0 60000000000).rdu.tsState = .holdover ∧
    (heldOver 0 60000000000).rdu.holdoverStart = some 0 ∧ State.reset.rdu.tsState ≠ .holdover :=
  ⟨accepts_of _ _ (by decide +kernel), by decide +kernel⟩

theorem witness_SetReferenceRequest :
    Accepts State.reset .a ∧ Accepts (selectedA .locked 2000000000 0) .a ∧
    Accepts (selectedA .acquiring 2000000000 0) .b ∧ (State.reset.ref .a).state = .off ∧
    (selectedA .locked 2000000000 0).rdu.selected = some .a ∧
    ((selectedA .locked 2000000000 0).ref .a).state ≠ .off ∧
    ((selectedA .locked 2000000000 0).ref .b).state ≠ .qualified ∧
    (selectedA .acquiring 2000000000 0).rdu.tsState = .acquiring ∧
    (((selectedA .locked 2000000000 0).setRef .b { Reference.cold with state := .qualified }).ref
      (otherRef .a)).state = .qualified :=
  ⟨accepts_of _ _ (by decide +kernel), accepts_of _ _ (by decide +kernel),
    accepts_of _ _ (by decide +kernel), by decide +kernel⟩

/-- The outputs RUNNING and not squelched, with the boundary and the second at 1,000,000,000 reached. -/
def runningOutputs (m : EpbMode) : State :=
  (timed 1000000000).setEpg
    { Epg.cold with running := true, squelched := false,
                    schedule := { Schedule.cold with epbMode := m } }

theorem witness_EpochOutputEdges :
    Schedule.cold.drawable = true ∧ 0 % (1000 * 1000000) = 0 * 1000 ∧
    (runningOutputs .same).readNow.era = (runningOutputs .same).epg.alignEra ∧
    (timed 999999999).readNow.hall < (timed 0).epg.nextBoundary ∧
    (runningOutputs .same).epg.nextBoundary ≤ (runningOutputs .same).readNow.hall ∧
    (runningOutputs .same).epg.pendingSchedule = none ∧ (runningOutputs .same).epg.epbCarried = none ∧
    (runningOutputs .seconds).epg.nextSecond ≤ (runningOutputs .seconds).readNow.hall ∧
    (runningOutputs .seconds).epg.complementDue = none ∧
    ({ Schedule.cold with phase := 5 } : Schedule).firstBoundary 1000000000 ≠ 1000000000 ∧
    (let s := (runningOutputs .complement).setEpg
       { (runningOutputs .complement).epg with
         complementDue := some ⟨1000000000, 1000000001⟩, nextSecond := 1000000001
         epaPulse := some 1000000000, epbPulse := some ⟨1000000000, .low⟩ }
     s.epg.complementDue = some ⟨1000000000, 1000000001⟩ ∧ 1000000000 ≤ s.readNow.hall ∧
     s.readNow.hall < s.epg.nextSecond ∧ s.epg.epaPulse = some 1000000000 ∧
     s.epg.epbPulse = some ⟨1000000000, .low⟩) ∧
    (let s := (runningOutputs .complement).setEpg
       { (runningOutputs .complement).epg with epaPulse := some 1000000000 }
     s.epg.epbCarried = none ∧ s.epg.epaPulse = some 1000000000 ∧ 1000000000 ≤ s.readNow.hall ∧
     s.epg.schedule.width * 1000 ≤ 1000000000 ∧
     s.epg.schedule.deadGap * 1000 ≤ s.epg.schedule.period * 1000000) ∧
    (let s := (runningOutputs .seconds).setEpg
       { (runningOutputs .seconds).epg with epbPulse := some ⟨1000000001, .low⟩ }
     s.epg.epbPulse = some ⟨1000000001, .low⟩ ∧ s.epg.nextBoundary < 1000000001 ∧
     ({ Schedule.cold with squelch := false } : Schedule).squelchedIn s.rdu.tsState = false) ∧
    (let s := (runningOutputs .seconds).setEpg
       { (runningOutputs .seconds).epg with epbCarried := some ⟨1000000000, .low⟩ }
     s.epg.epbCarried = some ⟨1000000000, .low⟩ ∧ s.epg.epbPulse = none ∧
     1000000000 ≤ s.readNow.hall ∧ { s with osc := 999999999 }.readNow.hall < 1000000000) ∧
    (let s := (runningOutputs .same).setEpg { (runningOutputs .same).epg with alignEra := 1 }
     s.readNow.era ≠ s.epg.alignEra) := by decide +kernel

theorem witness_EpochRequests :
    Accepts State.reset .a ∧ Accepts (runningOutputs .off) .a ∧ Schedule.cold.drawable = true ∧
    ({ Schedule.cold with period := 0 } : Schedule).drawable = false ∧
    ({ Schedule.cold with deadGap := 1000000 } : Schedule).drawable = false ∧
    State.reset.epg.running = false ∧ (runningOutputs .off).epg.running = true :=
  ⟨accepts_of _ _ (by decide +kernel), accepts_of _ _ (by decide +kernel), by decide +kernel⟩

/-! ## Witnesses: span links -/

/-- Link 0 with a record, at an oscillator instant. -/
def linkPart (o : Nat) (r : LinkRecord) : State := (timed o).setLink 0 r

def downLink : LinkRecord := { LinkRecord.cold 0 with state := .down, settleDeadline := some 8 }

def trainingLink (run : Nat) : LinkRecord :=
  { LinkRecord.cold 0 with state := .training, trainingDeadline := some 8, trainRun := run }

theorem witness_LinkTraining :
    (State.reset.link 0).state = .disabled ∧ ((linkPart 8 downLink).link 0).settleDeadline = some 8 ∧
    8 ≤ (linkPart 8 downLink).osc ∧ (linkPart 7 downLink).osc < 8 ∧
    ((linkPart 8 downLink).link 0).activity = false ∧
    ((linkPart 8 { downLink with activity := true }).link 0).activity = true ∧
    ((linkPart 8 { downLink with settleDeadline := none }).link 0).settleDeadline = none ∧
    ((linkPart 8 (trainingLink 15)).link 0).state = .training ∧
    ((linkPart 8 (trainingLink 15)).link 0).trainRun = 15 ∧
    ((linkPart 8 (trainingLink 14)).link 0).readySent = false ∧
    ((linkPart 8 (trainingLink 15)).link 0).trainingDeadline = some 8 := by decide +kernel

theorem witness_LaneActivityLost :
    (State.reset.link 0).state = .disabled ∧ ((linkPart 8 downLink).link 0).state = .down ∧
    ((linkPart 8 (trainingLink 0)).link 0).state = .training ∧
    (let s := withRack linkUp (rackIn .tracking) State.reset
     (s.link 0).state = .up ∧ (s.entry 0).state = .tracking ∧ (s.entry 0).trim = none) ∧
    (let s := withRack linkUp { rackIn .tracking with trim := some someTrim } State.reset
     s.inService 0 = true ∧ (s.entry 0).trim ≠ none ∧ (s.entry 0).state ≠ .attaching) := by
  decide +kernel

theorem flags_reset (l : Link) : FlagsMatch State.reset l := by
  constructor <;> revert l <;> decide +kernel

theorem flags_of (s : State) (l : Link) (h : (s.entry l).degrade = (s.cru.driving l).degrade ∧
    (s.entry l).isolate = (s.cru.driving l).isolate) : FlagsMatch s l := ⟨h.1, h.2⟩

/-- A link UP whose error-rate flag is set, its newest error 5 s before and W at 10 s. -/
def erring : State :=
  linkPart 8000000000 { linkUp with
    errorFlag := true, errorTimes := [3000000000], clearInstant := some 13000000000 }

theorem witness_LinkErrorsCounted :
    let s := linkPart 8 { linkUp with errorTimes := List.replicate 16 0, checkRun := 7 }
    let u := linkPart 8 { linkUp with errorFlag := true, clearInstant := some 8 }
    FlagsMatch s 0 ∧ FlagsMatch u 0 ∧
    (s.link 0).state = .up ∧ (s.link 0).errorTimes.length ≤ 16 ∧ (s.link 0).txQueue.length < 32 ∧
    (u.link 0).errorFlag = true ∧ (u.link 0).clearInstant = some 8 ∧ 8 ≤ u.osc :=
  ⟨flags_of _ _ (by decide +kernel), flags_of _ _ (by decide +kernel), by decide +kernel⟩

theorem witness_FramesTransmitted :
    (let s := linkPart 8 { linkUp with txQueue := List.replicate 31 (.probe 0) }
     (s.link 0).state = .up ∧ (s.link 0).txQueue.length < 32 ∧ (s.link 0).inTx = none) ∧
    (let s := (linkPart 8 { linkUp with inTx := some ⟨.probe 3, 8, 8, 0⟩ }).setEntry 0
       { rackIn .tracking with probe := some ⟨3, none⟩ }
     (s.link 0).inTx = some ⟨.probe 3, 8, 8, 0⟩ ∧ (s.entry 0).probe = some ⟨3, none⟩) := by
  decide +kernel

/-- An entry in service on an UP link whose next probe was last reckoned from O = 0. -/
def pollingPart (o : Nat) : State :=
  withRack linkUp { rackIn .tracking with probeReckoned := some 0, nextProbeDue := some 4096000000 }
    (timed o)

theorem fitsFields_of (c : LinkSettings) (h : (c.pollInterval < 65536 ∧ c.delayGate < 4294967296 ∧
    c.maxDelay < 4294967296 ∧ c.asymmetry < 4294967296) ∧ c.rateUncertainty < 4294967296 ∧
    c.trimInterval < 256 ∧ c.phaseLimit < 4294967296 ∧ c.rateTrimLimit < 4294967296) : c.fitsFields :=
  ⟨h.1.1, h.1.2.1, h.1.2.2.1, h.1.2.2.2, h.2.1, h.2.2.1, h.2.2.2.1, h.2.2.2.2⟩

/-- A W of 5 puts the clear instant at now, one of 6 after it; a poll interval of 16 ms is over at
O = 16,000,000 and not at 15,999,999. -/
theorem witness_SetLinkRequest :
    Accepts State.reset .a ∧ LinkSettings.cold.fitsFields ∧ Accepts (linkPart 8 linkUp) .a ∧
    Accepts erring .a ∧ FlagsMatch erring 0 ∧ FlagsMatch (pollingPart 16000000) 0 ∧
    255 < 256 ∧ 65535 < 65536 ∧ (State.reset.link 0).state = .disabled ∧
    ((linkPart 8 linkUp).link 0).state ≠ .disabled ∧ (erring.link 0).errorFlag = true ∧
    (erring.link 0).errorTimes.getLast? = some 3000000000 ∧ (erring.link 0).txQueue.length ≤ 30 ∧
    3000000000 + 5 * 1000000000 ≤ erring.osc ∧ erring.osc < 3000000000 + 6 * 1000000000 ∧
    erring.inService 0 = false ∧ (pollingPart 16000000).inService 0 = true ∧
    ((pollingPart 16000000).entry 0).probeReckoned = some 0 ∧
    0 + 16 * 1000000 ≤ (pollingPart 16000000).osc ∧ (pollingPart 15999999).osc < 0 + 16 * 1000000 ∧
    ((pollingPart 16000000).link 0).state = .up ∧ ((pollingPart 16000000).entry 0).probe = none ∧
    (pollingPart 16000000).mgp.mode = .serving :=
  ⟨accepts_of _ _ (by decide +kernel), fitsFields_of _ (by decide +kernel),
    accepts_of _ _ (by decide +kernel), accepts_of _ _ (by decide +kernel),
    flags_of _ _ (by decide +kernel), flags_of _ _ (by decide +kernel), by decide +kernel⟩

theorem witness_LinkRangeAndReset :
    Accepts State.reset .a ∧ Accepts servingPart .a ∧ Accepts (linkPart 8 linkUp) .a ∧
    servingPart.mgp.mode = .serving ∧ State.reset.mgp.mode = .setup ∧
    (State.reset.link 0).enable = false ∧ ((linkPart 8 linkUp).link 0).enable = true ∧
    (∀ m, ((linkPart 8 linkUp).link m).rangeFirst ≤ ((linkPart 8 linkUp).link m).rangeLast) ∧
    (State.reset.link 0).state = .disabled ∧ ((linkPart 8 linkUp).link 0).state ≠ .disabled :=
  ⟨accepts_of _ _ (by decide +kernel), accepts_of _ _ (by decide +kernel),
    accepts_of _ _ (by decide +kernel), by decide +kernel⟩

/-! ## Witnesses: racks and trims -/

/-- Link 0 UP with a full transmit queue, its entry IDLE, in SERVING. -/
def fullQueue : State :=
  withRack { linkUp with txQueue := List.replicate 32 (.probe 9) } RackEntry.cold State.reset

/-- R81: a WELCOME withdrawn by a full queue is handed afresh before PROBE 0, so that attachment counts
three overruns. -/
theorem test_attach_over_full_queue :
    ((after (.hello 0 ⟨0, 0, 0, 0, 0⟩) fullQueue).link 0).errorTimes.length = 3 ∧
    ((after (.hello 0 ⟨0, 0, 0, 0, 0⟩) fullQueue).entry 0).welcomeOwed = true := by decide +kernel

/-- Link 0 takes identity 0 alone: 0 is within its range and 1 is not. -/
theorem witness_HelloJudged :
    let s := withRack { linkUp with txQueue := List.replicate 30 (.probe 0) } RackEntry.cold State.reset
    FlagsMatch s 0 ∧ ¬ TwinHello s ⟨0, 0, 0, 0, 0⟩ ∧ ¬ StrayHello s 0 ⟨0, 0, 0, 0, 0⟩ ∧
    (NoIsolation fullQueue 0 ∧ (fullQueue.link 0).state = .up ∧ fullQueue.mgp.mode = .serving ∧
     (fullQueue.entry 0).state ≠ .quarantined ∧ fullQueue.helloFailure 0 ⟨0, 0, 0, 0, 0⟩ = none ∧
     32 ≤ (fullQueue.link 0).txQueue.length ∧ (fullQueue.link 0).errorTimes.length ≤ 16) ∧
    (s.link 0).state = .up ∧ (s.link 0).txQueue.length ≤ 30 ∧ s.mgp.mode = .serving ∧
    (s.entry 0).state ≠ .quarantined ∧ (s.entry 0).isolate = false ∧ (s.link 0).rangeLast < 1 ∧
    s.inService 0 = false ∧
    (let u := s.setEntry 0 { RackEntry.cold with state := .quarantined,
                                                 quarantineReason := some .wrongRack }
     (u.entry 0).quarantineReason = some .wrongRack) :=
  ⟨⟨by decide +kernel, by decide +kernel⟩, by unfold TwinHello; decide +kernel,
    by unfold StrayHello; decide +kernel,
    ⟨⟨by decide +kernel, by decide +kernel⟩, by decide +kernel⟩, by decide +kernel⟩

theorem witness_ProbesAndMisses :
    (let s := withRack linkUp { rackIn .tracking with nextProbeDue := some 8, welcomeOwed := true }
       (timed 8)
     s.inService 0 = true ∧ (s.link 0).state = .up ∧ (s.entry 0).probe = none ∧
     s.mgp.mode = .serving ∧ (s.entry 0).nextProbeDue = some 8 ∧ 8 ≤ s.osc ∧
     (s.link 0).txQueue.length ≤ 30) ∧
    State.reset.mgp.mode = .setup ∧
    (let s := withRack linkUp { rackIn .tracking with
         probe := some ⟨3, some ⟨0, 0, 0⟩⟩, missed := 2, nextProbeDue := some 2000001 }
       (timed 2000000)
     (s.entry 0).probe = some ⟨3, some ⟨0, 0, 0⟩⟩ ∧ 0 + 2000000 ≤ s.osc ∧
     (s.entry 0).missed = 2 ∧ s.osc < 2000001) := by decide +kernel

/-- The default actions have no ISOLATE. -/
theorem noIsolation_of (s : State) (l : Link)
    (h : s.cru.actions[groupIndex l].driftAlarm ≠ .isolate ∧
      s.cru.actions[groupIndex l].linkErrorRate ≠ .isolate) : NoIsolation s l := ⟨h.1, h.2⟩

/-- A probe of number 3 sent at hall time 0, its echo due before the next probe. -/
def probing : State :=
  withRack linkUp { rackIn .acquiring with probe := some ⟨3, some ⟨0, 0, 0⟩⟩, nextProbeDue := some 1000 }
    (timed 100)

/-- A delay of 0 is the least kept; a maximum delay of 50,000 turns 50,001 away. -/
theorem witness_EchoesTaken :
    NoIsolation probing 0 ∧
    NewestLeast [⟨1, 0, 0, 0, 1, 0, 5⟩, ⟨2, 0, 0, 0, 2, 0, 5⟩] ⟨2, 0, 0, 0, 2, 0, 5⟩ ∧
    (probing.link 0).state = .up ∧ (probing.link 0).txQueue.length < 32 ∧
    probing.inService 0 = true ∧ (probing.entry 0).unsettled = false ∧
    (probing.entry 0).probe = some ⟨3, some ⟨0, 0, 0⟩⟩ ∧
    (probing.tsu.convert 96).era = probing.rtmEra ∧ (probing.entry 0).trimGeneration = 0 ∧
    (probing.entry 0).nextProbeDue = some 1000 ∧ probing.osc < 1000 ∧
    (probing.entry 0).window = [] ∧ (probing.tsu.convert 50001).hall - 0 = 50001 ∧
    (probing.entry 0).settings.maxDelay < 50001 ∧ (probing.link 0).errorTimes.length ≤ 16 :=
  ⟨noIsolation_of _ _ (by decide +kernel),
    ⟨[⟨1, 0, 0, 0, 1, 0, 5⟩], [], rfl, by decide +kernel, by decide +kernel⟩, by decide +kernel⟩

/-- The same probe for an entry given otherwise. -/
def probingAs (e : RackEntry) : State :=
  withRack linkUp { e with probe := some ⟨3, some ⟨0, 0, 0⟩⟩, nextProbeDue := some 1000 } (timed 100)

theorem matching_of (d : ProbeDeparture) (x : Echo) (s : State)
    (h : (s.link 0).state = .up ∧ (s.link 0).txQueue.length < 32 ∧
      (s.cru.actions[groupIndex 0].driftAlarm ≠ .isolate ∧
        s.cru.actions[groupIndex 0].linkErrorRate ≠ .isolate) ∧ s.inService 0 = true ∧
      (s.entry 0).probe = some ⟨x.exchange.toNat, some d⟩ ∧ (s.entry 0).nextProbeDue = some 1000 ∧
      s.osc < 1000) : MatchingEcho s 0 x d :=
  ⟨h.1, h.2.1, noIsolation_of s 0 h.2.2.1, h.2.2.2.1, h.2.2.2.2.1, ⟨1000, h.2.2.2.2.2⟩⟩

/-- An ECHO of generation 1 over the trim in flight of generation 1, over none, over one of another
generation, for an unsettled entry, with a delay below zero, and one whose t4 is not above the newest. -/
theorem witness_EchoesBeyondTheGeneration :
    (let s := probingAs { rackIn .acquiring with trim := some someTrim }
     MatchingEcho s 0 ⟨1, 3, 0, 0⟩ ⟨0, 0, 0⟩ ∧ SameEras s 96 ⟨0, 0, 0⟩ ∧
     (∃ u, exec (.trimDone 0 1#8 (BitVec.ofNat 64 someTrim.applyAt)) s = .next u) ∧
     (s.entry 0).unsettled = false ∧ (1#8).toNat = someTrim.generation ∧
     (1#8).toNat ≠ (s.entry 0).trimGeneration ∧ someTrim.applyAt < 18446744073709551616 ∧
     0 ≤ (measured s 96 ⟨1, 3, 0, 0⟩ ⟨0, 0, 0⟩).delta ∧ (2#8).toNat ≠ someTrim.generation) ∧
    (let s := probingAs (rackIn .coasting)
     MatchingEcho s 0 ⟨1, 3, 0, 0⟩ ⟨0, 0, 0⟩ ∧ (s.entry 0).trim = none ∧
     s.cru.records? .trimLost = true ∧ s.cru.wants .a .trimLost = true ∧ s.cru.list.length < 63) ∧
    (let s := probingAs { rackIn .acquiring with unsettled := true }
     MatchingEcho s 0 ⟨1, 3, 0, 0⟩ ⟨0, 0, 0⟩ ∧ (s.entry 0).unsettled = true ∧
     (s.entry 0).window = []) ∧
    (let s := probingAs { rackIn .acquiring with window := [⟨2, 0, 0, 0, 96, 0, 5⟩] }
     MatchingEcho s 0 ⟨0, 3, 0, 0⟩ ⟨0, 0, 0⟩ ∧ (0#8).toNat = (s.entry 0).trimGeneration ∧
     (measured s 96 ⟨0, 3, 0, 0⟩ ⟨0, 0, 0⟩).t4 ≤ 96 ∧
     (measured s 96 ⟨0, 3, 0, 97⟩ ⟨0, 0, 0⟩).delta < 0 ∧
     (s.entry 0).window.getLast? = some ⟨2, 0, 0, 0, 96, 0, 5⟩) ∧
    ¬ SameEras probing 96 ⟨0, 1, 0⟩ :=
  ⟨⟨matching_of _ _ _ (by decide +kernel), ⟨by decide +kernel, by decide +kernel⟩, ⟨_, rfl⟩,
      by decide +kernel⟩,
    ⟨matching_of _ _ _ (by decide +kernel), by decide +kernel⟩,
    ⟨matching_of _ _ _ (by decide +kernel), by decide +kernel⟩,
    ⟨matching_of _ _ _ (by decide +kernel), by decide +kernel⟩,
    by unfold SameEras; decide +kernel⟩

theorem witness_TrimsBuilt :
    (let s := withRack linkUp { rackIn .tracking with current := some restEstimate, sinceTrim := 16 }
       State.reset
     (s.link 0).state = .up ∧ (s.link 0).txQueue.length < 32 ∧ s.readNow.era = s.rtmEra ∧
     s.rdu.tsState ≠ .failed ∧ (s.entry 0).trim = none ∧ (s.entry 0).current = some restEstimate ∧
     (0 : Int) ≤ s.readNow.hall + 10000000 + restEstimate.theta ∧ (s.entry 0).stepOwed = none ∧
     (s.entry 0).settings.trimInterval ≤ (s.entry 0).sinceTrim ∧ (s.entry 0).isolate = false) ∧
    (let s := withRack linkUp { rackIn .coasting with
         current := some restEstimate, stepOwed := some 2147483648 } State.reset
     (s.entry 0).stepOwed = some 2147483648 ∧ (s.entry 0).state = .coasting) ∧
    (let s := withRack linkUp { rackIn .attaching with
         current := some restEstimate, stepOwed := some 5 } State.reset
     (s.entry 0).stepOwed = some 5 ∧ (s.entry 0).state ≠ .tracking ∧ (s.entry 0).state ≠ .acquiring ∧
     (s.entry 0).state ≠ .coasting) ∧
    (let s := withRack (LinkRecord.cold 0) { rackIn .coasting with stepOwed := some 5 } State.reset
     (s.entry 0).stepOwed = some 5 ∧ (s.link 0).state ≠ .up) ∧
    (let s := withRack linkUp { rackIn .tracking with
         current := some { restEstimate with source := .carried } } State.reset
     (s.entry 0).stepOwed = none ∧
     ∀ x ∈ (s.entry 0).current.toList, x.source = .carried) ∧
    (inTimescale .failed).rdu.tsState = .failed := by decide +kernel

theorem witness_TrimsSettled :
    let s := withRack linkUp { rackIn .tracking with
        trim := some someTrim, current := some restEstimate, stepOwed := some 5 } (timed 200000000)
    (s.entry 0).trim = some someTrim ∧ (s.link 0).state = .up ∧ (s.link 0).txQueue.length < 32 ∧
    (1#8).toNat = someTrim.generation ∧ (2#8).toNat ≠ someTrim.generation ∧
    someTrim.sentAt = some 0 ∧ 0 + 200000000 ≤ s.osc ∧ (s.entry 0).current = some restEstimate := by
  decide +kernel

/-- 6.3: the drift of an estimate and the rate of the trim applied to it stay within ±200,000 together. -/
theorem test_drift_held_in_range :
    ({ restEstimate with rho := 150000 }.afterTrim { someTrim with rate := 100000 } 6).rho = 200000 := by
  decide +kernel

theorem witness_LossAndClearing :
    (let s := withRack linkUp { RackEntry.cold with state := .quarantined } State.reset
     Accepts s .a ∧ (s.entry 0).state = .quarantined) ∧ Accepts State.reset .a ∧
    (let s := withRack linkUp (rackIn .acquiring) (timed 120000000000)
     (s.entry 0).lastAccepted = some 0 ∧ 0 + 120000000000 ≤ s.osc ∧ s.inService 0 = true ∧
     (s.entry 0).state ≠ .tracking) ∧ (State.reset.entry 0).state ≠ .quarantined :=
  ⟨⟨accepts_of _ _ (by decide +kernel), by decide +kernel⟩, accepts_of _ _ (by decide +kernel),
    by decide +kernel⟩

theorem witness_SetDriftLimitsRequest :
    Accepts (State.reset.setDrift 0 { DriftRecord.cold with notified := .tracking }) .a ∧
    Limits.cold.fitsFields ∧
    ((State.reset.setDrift 0 { DriftRecord.cold with notified := .tracking }).driftOf 0).notified =
      .tracking :=
  ⟨accepts_of _ _ (by decide +kernel),
    ⟨by decide, by decide, by decide, by decide, by decide, by decide, by decide, by decide⟩,
    by decide +kernel⟩

theorem witness_DriftLevelMoves :
    (let x : Limits := { Limits.cold with driftWatch := 200001, driftAlarm := 200001 }
     200000 < x.driftWatch ∧ 200000 < x.driftAlarm ∧
     x.evalLevel 0 200000 0 = .normal ∧ Limits.cold.evalLevel 0 200000 0 ≠ .normal) ∧
    DriftRecord.cold.raiseCount = 0 ∧ DriftRecord.cold.raiseMin = none ∧ 1 ≤ DriftRecord.cold.limits.k ∧
    (∀ v ∈ List.replicate 4 (DriftLevel.watch, DriftLevel.alarm),
      DriftRecord.cold.level.code < v.1.code) ∧
    (List.replicate 4 (DriftLevel.watch, DriftLevel.alarm)).length = DriftRecord.cold.limits.k ∧
    (∀ v ∈ List.replicate 8 (DriftLevel.normal, DriftLevel.watch),
      v.2.code < DriftLevel.alarm.code ∧ v.1.code ≤ v.2.code) ∧
    (List.replicate 8 (DriftLevel.normal, DriftLevel.watch)).length = DriftRecord.cold.limits.m ∧
    (let s := State.reset.setDrift 0 { DriftRecord.cold with raiseCount := 3, raiseMin := some .alarm }
     let e : Estimate := { restEstimate with theta := 4294967295 }
     ((s.driftOf 0).evaluate e 0).record.level ≠ (s.driftOf 0).level ∧
     ((s.driftOf 0).evaluate e 0).record.level = .alarm ∧ s.cru.records? .driftAlarm = true ∧
     s.cru.wants .a .driftAlarm = true ∧ s.cru.list.length < 64) := by decide +kernel

/-! ## Witnesses: dating, journal, wait-outs -/

/-- A rack TRACKING with an estimate of generation 0, window 0 open for sources 0 to 63. -/
def dating : State :=
  let s := withRack linkUp { rackIn .tracking with current := some restEstimate } (inTimescale .locked)
  s.setSdu { Sdu.cold with windows := Sdu.cold.windows.set 0 ⟨true, 0, 63, 0⟩ }

theorem witness_MarksAnswered :
    NoIsolation dating 0 ∧ (dating.link 0).state = .up ∧ (dating.link 0).txQueue.length ≤ 30 ∧
    dating.sdu.nextSequence < 4294967296 ∧ dating.inService 0 = true ∧ dating.mgp.mode = .serving ∧
    (dating.link 0).rangeFirst ≤ 0 ∧ 0 ≤ (dating.link 0).rangeLast ∧
    dating.sdu.classFor 63 = some 0 ∧ dating.sdu.classFor 64 = none ∧
    dating.sdu.journal.length < 2048 ∧ State.reset.mgp.mode = .setup ∧
    dating.sdu.windows[0].enable = true ∧ dating.sdu.windows[0].limit = 63 :=
  ⟨noIsolation_of _ _ (by decide +kernel), by decide +kernel⟩

theorem witness_MarksDated :
    let u := dating.setEntry 0 { dating.entry 0 with trim := some someTrim }
    NoIsolation dating 0 ∧ NoIsolation u 0 ∧
    (∃ t, exec (.trimDone 0 1#8 (BitVec.ofNat 64 someTrim.applyAt)) u = .next t) ∧
    dating.sdu.classFor 63 = some 0 ∧ (dating.link 0).txQueue.length ≤ 30 ∧
    (dating.entry 0).current = some restEstimate ∧ (dating.entry 0).unsettled = false ∧
    (dating.entry 0).trimGeneration = 0 ∧ dating.uHall = some 100 ∧
    ((64000000000 : Int) - restEstimate.tau).natAbs ≤ 64000000000 ∧
    64000000000 < ((64000000001 : Int) - restEstimate.tau).natAbs ∧
    dating.rdu.tsState = .locked ∧ (dating.entry 0).state = .tracking ∧ (dating.link 0).state = .up ∧
    (u.entry 0).trim = some someTrim ∧ (1#8).toNat = someTrim.generation ∧
    (1#8).toNat ≠ (u.entry 0).trimGeneration ∧ (u.entry 0).predecessor = none ∧
    someTrim.applyAt < 18446744073709551616 :=
  ⟨noIsolation_of _ _ (by decide +kernel), noIsolation_of _ _ (by decide +kernel), ⟨_, rfl⟩,
    by decide +kernel⟩

theorem witness_ReadStampsRequest :
    Accepts dating .a ∧ dating.sdu.journal.length ≤ 1024 + 1 ∧
    (let e : JournalEntry := ⟨0, 0, 0, 0, 0, 0, 0, 0, 0, .undated .stale, 0⟩
     1024 + 1 < (dating.setSdu { dating.sdu with journal := List.replicate 1026 e }).sdu.journal.length) :=
  ⟨accepts_of _ _ (by decide +kernel), by decide +kernel⟩

theorem witness_WindowAndClassRequests :
    Accepts State.reset .a ∧ Accepts servingPart .a ∧ State.reset.mgp.mode = .setup ∧
    servingPart.mgp.mode = .serving ∧ 63 - 63 % 64 + 63 < 64 - 64 % 64 ∧
    64 - 64 % 64 ≤ 64 - 64 % 64 + 63 ∧ 65535 < 65536 :=
  ⟨accepts_of _ _ (by decide +kernel), accepts_of _ _ (by decide +kernel), by decide +kernel⟩

/-- LOCKED with u_lock 100 at hall time 200: the target 100 is released at once, 101 is parked. -/
theorem witness_WaitOuts :
    let s : State := { inTimescale .locked with osc := 200 }
    Accepts s .a ∧
    (let full := s.setSdu { Sdu.cold with waitOuts := List.replicate 8 aWait }
     8 ≤ full.sdu.share .a ∧ Accepts full .a ∧ (full.port .a).queue.length + full.sdu.share .a ≤ 16) ∧
    ¬ (s.readNow.era = s.sdu.lastReading.era ∧ s.readNow.hall < s.sdu.lastReading.hall) ∧
    s.uHall = some 100 ∧ s.declaresTime = true ∧ 100 + 100 ≤ s.readNow.hall ∧
    s.readNow.hall < 101 + 100 ∧ s.readNow.hall + 10000000000 < 10000000201 ∧
    s.sdu.waitOuts.length < 16 ∧ s.sdu.share .a < 8 ∧ State.reset.declaresTime = false :=
  ⟨accepts_of _ _ (by decide +kernel),
    ⟨by decide +kernel, accepts_of _ _ (by decide +kernel), by decide +kernel⟩, by decide +kernel⟩

/-! ## Witnesses: conditions -/

/-- The condition list with one record. -/
def listed (o : Nat) (x : CondRecord) : State :=
  (timed o).setCru { Cru.cold with list := [x], active := [(.linkDown, .link 0)] }

/-- CONDITION_LIST_FULL in the reserved slot. -/
def slotRecord : CondRecord :=
  { kind := .conditionListFull, scope := .part, posted := ⟨0, 0, 0⟩, active := true, repeats := 0,
    ancillary := false, pend := .broadcast true true, taken := false, takenSince := false,
    lastTake := none, repostDue := some 8, details := {} }

/-- A list of so many active LINK_DOWN records, all taken, with the reserved record above it. -/
def slotted (n : Nat) : State :=
  (timed 8).setCru { Cru.cold with
    list := List.replicate n
      { aRecord with pend := .floating false, taken := true, takenSince := true, lastTake := some 0 }
    reserved := some slotRecord
    active := [(.linkDown, .link 0), (.conditionListFull, .part)]
    listFullRefusals := 1 }

theorem slotApart_of (c : Cru) (h : (∀ r ∈ c.list, r.kind ≠ .conditionListFull) ∧
    ∀ r ∈ c.reserved.toList, r.kind = .conditionListFull ∧ r.scope = .part) : c.SlotApart :=
  ⟨h.1, fun r e => h.2 r (by simp [e])⟩

theorem witness_ConditionsRaisedAndCleared :
    State.reset.cru.SlotApart ∧ (slotted 64).cru.SlotApart ∧
    (let s := State.reset.setCru { Cru.cold with recordingOff := [.linkUp] }
     s.cru.records? .linkUp = false) ∧ State.reset.cru.records? .linkDown = true ∧
    State.reset.cru.list.length < 64 ∧
    (listed 8 { aRecord with repostDue := none }).cru.list =
      [] ++ { aRecord with repostDue := none } :: [] ∧
    ({ aRecord with repostDue := none } : CondRecord).takenSince = false ∧
    (listed 8 aRecord).cru.isActive .linkDown (.link 0) = true ∧ 64 ≤ (slotted 64).cru.list.length ∧
    (∀ y ∈ (slotted 64).cru.list, y.active = true) ∧
    (∀ y ∈ (slotted 64).cru.list, ¬ (y.kind = .linkDown ∧ y.scope = .link 0 ∧ y.takenSince = false)) ∧
    (slotted 64).cru.reserved = some slotRecord ∧ slotRecord.takenSince = false ∧
    (let s := (timed 8).setCru { Cru.cold with
         list := { aRecord with active := false, takenSince := true } ::
           List.replicate 63 { aRecord with takenSince := true } }
     64 ≤ s.cru.list.length ∧ s.cru.list.head? = some { aRecord with active := false, takenSince := true }) ∧
    (0 : Link).val / 8 = (7 : Link).val / 8 :=
  ⟨slotApart_of _ (by decide +kernel),
    slotApart_of _ (by decide +kernel), by decide +kernel⟩

theorem witness_TakeConditionRequest :
    Accepts (listed 8 aRecord) .a ∧ (listed 8 aRecord).cru.SlotApart ∧ Accepts State.reset .a ∧
    State.reset.cru.SlotApart ∧ Accepts (slotted 48) .a ∧ (slotted 48).cru.SlotApart ∧
    (listed 8 aRecord).cru.list = [] ++ aRecord :: [] ∧
    (listed 8 aRecord).cru.deliverable .a aRecord = true ∧ State.reset.cru.list = [] ∧
    State.reset.cru.reserved = none ∧
    (∀ y ∈ (slotted 48).cru.list, (slotted 48).cru.deliverable .a y = false) ∧
    (slotted 48).cru.reserved = some slotRecord ∧
    (slotted 48).cru.deliverable .a slotRecord = true ∧
    (slotted 48).cru.isActive .conditionListFull .part = true ∧ (slotted 48).cru.list.length ≤ 48 ∧
    48 < (slotted 49).cru.list.length :=
  ⟨accepts_of _ _ (by decide +kernel), slotApart_of _ (by decide +kernel),
    accepts_of _ _ (by decide +kernel), slotApart_of _ (by decide +kernel),
    accepts_of _ _ (by decide +kernel), slotApart_of _ (by decide +kernel),
    by decide +kernel⟩

/-- At 48 records CONDITION_LIST_FULL is cleared in the event, and at 49 it stands (R162). -/
theorem test_list_full_judged :
    (after (.repost 64) (slotted 48)).cru.isActive .conditionListFull .part = false ∧
    (after (.repost 64) (slotted 49)).cru.isActive .conditionListFull .part = true := by
  decide +kernel

theorem witness_ReportingAndReposts :
    Accepts (listed 8 aRecord) .b ∧ (listed 8 aRecord).cru.SlotApart ∧ Accepts (slotted 49) .a ∧
    (slotted 49).cru.SlotApart ∧ 65535 < 65536 ∧ (listed 8 aRecord).cru.list[0]? = some aRecord ∧
    aRecord.active = true ∧ aRecord.repostDue = some 8 ∧ 8 ≤ (listed 8 aRecord).osc ∧
    (listed 7 aRecord).osc < 8 ∧ (slotted 49).cru.reserved = some slotRecord ∧
    slotRecord.repostDue = some 8 ∧ 8 ≤ (slotted 49).osc :=
  ⟨accepts_of _ _ (by decide +kernel), slotApart_of _ (by decide +kernel),
    accepts_of _ _ (by decide +kernel), slotApart_of _ (by decide +kernel),
    by decide +kernel⟩

/-- R166: each of two records whose dues are reached may be reposted first. -/
theorem test_every_due_repost_offered :
    ((timed 8).setCru { Cru.cold with list := [aRecord, aRecord] }).repostDue = [.repost 0, .repost 1] := by
  decide +kernel

/-- R72, R158: on a list of 64 active records RESET LINK withdraws LINK_ERROR_RATE first, and its
LINK_DOWN finds that room. -/
theorem test_reset_link_clears_first :
    let other := { aRecord with scope := .link 1 }
    let t := after (.resetLink .a 0 [0]) (erring.setCru { Cru.cold with
      list := { aRecord with kind := .linkErrorRate } :: List.replicate 63 other
      active := [(.linkErrorRate, .link 0), (.linkDown, .link 1)] })
    (t.cru.listFullRefusals, t.cru.isActive .linkErrorRate (.link 0)) = (0, false) ∧
    (t.cru.list.getLast?.map (fun r => (r.kind, r.scope))) = some (.linkDown, .link 0) := by
  decide +kernel

/-- With DRIFT_ALARM active on link 0 and the default action DEGRADE. -/
def alarmed : State :=
  (withRack linkUp { rackIn .tracking with degrade := true } State.reset).setCru
    { Cru.cold with active := [(.driftAlarm, .link 0)] }

theorem witness_RecordingAndActions :
    Accepts State.reset .a ∧ FlagsMatch State.reset 0 ∧ Accepts alarmed .a ∧ FlagsMatch alarmed 0 ∧
    CondKind.isExigent .restarted = true ∧ CondKind.isExigent .linkDown = false ∧
    alarmed.inService 0 = true ∧ alarmed.cru.isActive .driftAlarm (.link 0) = true ∧
    (alarmed.entry 0).isolate = false :=
  ⟨accepts_of _ _ (by decide +kernel), flags_reset 0, accepts_of _ _ (by decide +kernel),
    ⟨by decide +kernel, by decide +kernel⟩, by decide +kernel⟩

/-! ## Witnesses: encodings and whole-part rules -/

theorem witness_SpanFramesRoundTrip :
    framePayload (.trimDone 0 1#8 2#64) = some (trimDonePayload 1#8 2#64) ∧
    0#32 ≠ spanCheck (trimDonePayload 1#8 2#64) ∧ field [128#8] 0 1 < 129 ∧
    132 < field [133#8] 0 1 := by decide +kernel

theorem witness_LinkEventsStayOnTheirLink :
    linkEventOf (.settleDeadline 0) = some 0 ∧
    ∃ t, exec (.settleDeadline 0) (linkPart 8 downLink) = .next t := ⟨rfl, _, rfl⟩

theorem witness_ClockEventsTouchNoLink :
    isClockEvent .epochBoundary = true ∧
    ∃ t, exec .epochBoundary (runningOutputs .same) = .next t := ⟨rfl, _, rfl⟩

theorem witness_EraAndModeMoves :
    ∃ t, exec (.coldReset true false) servingPart = .next t := ⟨_, rfl⟩

/-- A part other than at reset, with a command waiting. -/
def waiting : State := { linkPart 8 downLink with pending := [.settleDeadline 0] }

theorem witness_TablesStayInBounds : InBounds waiting ∧ ∃ t, step waiting = .next t :=
  ⟨{ journal := ⟨by decide, by decide, fun i h => absurd h (by simp [waiting, linkPart, timed,
       State.setLink, State.reset, Sdu.cold])⟩
     conditions := by unfold Cru.listFits; decide +kernel
     slot := slotApart_of _ (by decide +kernel)
     waits := ⟨by decide +kernel, by decide +kernel, by decide +kernel⟩
     ports := fun p => by cases p <;> exact ⟨by decide +kernel, by decide +kernel⟩
     links := fun l => ⟨by revert l; decide +kernel, by revert l; decide +kernel,
       by revert l; decide +kernel⟩
     windows := fun l => by unfold RackEntry.windowFits; revert l; decide +kernel
     drifts := fun l => by unfold RackEntry.driftsFit; revert l; decide +kernel
     history := by unfold Tsu.historyFits; decide +kernel
     rates := ⟨⟨by decide, by decide⟩, fun _ h => absurd h (by simp [waiting, linkPart, timed,
       State.setLink, State.reset, Tsu.cold]), fun _ h => absurd h (by simp [waiting, linkPart, timed,
       State.setLink, State.reset, Tsu.cold])⟩ }, _, rfl⟩

theorem witness_ServiceStaysSound : SoundService waiting ∧ ∃ t, step waiting = .next t :=
  ⟨{ oneHolder := fun l m id h => absurd h (by revert l; decide +kernel)
     serving := fun l h => absurd h (by revert l; decide +kernel)
     quiet := fun l _ => by revert l; decide +kernel
     flags := fun l => ⟨by revert l; decide +kernel, by revert l; decide +kernel⟩ }, _, rfl⟩

end Sys2Proof.Tests
end

section
/-!
PROOFS. Cold reset of the reference discipline unit (R40).

Cold reset reads nothing of the block it clears: each block of the new state is the block's cold
value. These rules are stated once per block; R40 then reads its items off the cold values.
-/

namespace Sys2Proof.Machine

variable (s : State) (baud1 baud0 : Bool)

/-! ### What cold reset leaves in a block -/

theorem exec_coldReset : exec (.coldReset baud1 baud0) s = .next (s.coldReset baud1 baud0) := rfl

@[simp] theorem State.coldReset_tsu : (s.coldReset baud1 baud0).tsu = .cold := rfl
@[simp] theorem State.coldReset_rdu : (s.coldReset baud1 baud0).rdu = .cold := rfl
@[simp] theorem State.coldReset_cru : (s.coldReset baud1 baud0).cru = .cold := rfl

@[simp] theorem State.coldReset_ref (r : RefId) : (s.coldReset baud1 baud0).ref r = .cold := by
  cases r with
  | a => rfl
  | b => rfl

/-! ### The items of R40 -/

/-- R40, first two items: the reference is OFF and disabled, with no mark, label or deadline held and
every run 0. -/
theorem State.coldReset_ref_off (r : RefId) :
    let x := (s.coldReset baud1 baud0).ref r
    x.state = .off ∧ x.enable = false ∧ x.priority = 0 ∧ x.previousMark = none ∧
      x.heldLabel = none ∧ x.missingDeadline = none ∧
      (x.goodRun, x.badRun, x.outlierRun) = (0, 0, 0) := by
  simp [Reference.cold]

/-- R39: the defaults, in the units of the settings' fields. -/
theorem Discipline.cold_eq :
    Discipline.cold = { p := 400, q := 20, stepThreshold := 100000, lockWindow := 1000,
                        outlierGate := 10000, holdoverLimit := 14400 } := rfl

/-- R40, the other items: no selection, integral and counters 0, no holdover start, FREE, and the
default settings. -/
theorem Rdu.cold_items :
    Rdu.cold.selected = none ∧ Rdu.cold.candidate = none ∧ Rdu.cold.integral = 0 ∧
      (Rdu.cold.lockCount, Rdu.cold.unlockCount, Rdu.cold.clampCount) = (0, 0, 0) ∧
      Rdu.cold.holdoverStart = none ∧ Rdu.cold.tsState = .free ∧ Rdu.cold.settings = .cold :=
  ⟨rfl, rfl, rfl, rfl, rfl, rfl, rfl⟩

/-- Settles O12: cold reset answers in every state; each reference and the unit itself stand at their
cold values, and the condition list is empty, so nothing is posted. -/
theorem coldResetOfTheDiscipline : Obligations.ColdResetOfTheDiscipline := by
  intro baud1 baud0 s
  obtain ⟨selected, candidate, integral, counters, holdover, free, settings⟩ := Rdu.cold_items
  refine ⟨s.coldReset baud1 baud0, exec_coldReset s baud1 baud0,
    s.coldReset_ref_off baud1 baud0, ?_⟩
  rw [State.coldReset_rdu, State.coldReset_tsu, State.coldReset_cru]
  exact ⟨selected, candidate, integral, counters, holdover, free,
    settings.trans Discipline.cold_eq, rfl, rfl, rfl, rfl⟩

end Sys2Proof.Machine
end

section
/-!
PROOFS. READ STAMPS and the journal under HALT (R150, R151, R181).

READ STAMPS drains the journal, settles the journal-full flag at the fill that remains, and ends its
event. The clear of JOURNAL_FULL is of the part, so no link's fault action follows: the end of the
event judges the condition list only. HALT works link by link, and no operation of one link reaches
the SDU.
-/

namespace Sys2Proof.Machine

variable (s : State)

/-! ### HALT leaves the SDU -/

theorem State.halt_sdu : s.halt.sdu = s.sdu := by
  unfold State.halt
  split
  · exact forLinks_keeps (P := fun st => st.sdu = s.sdu)
      (fun l st hst => (OnlyLink.goIdle l st true).core.sdu.trans hst) _ rfl
  · rfl

theorem haltH_sdu (body : List Byte) : (haltH body s).1.sdu = s.sdu := by
  unfold haltH withLength
  split
  · exact (State.endEvent_sameCore s s.halt).sdu.trans s.halt_sdu
  · rfl

@[simp] theorem State.hunt_sdu (p : Port) : (s.hunt p).sdu = s.sdu := by simp [State.hunt]

/-- Whatever a port answers to a frame (R176), the SDU changes by what the handler does only. -/
theorem State.request_sdu (p : Port) (kind tag : Byte) {f : Handler} (h : ∀ t, (f t).1.sdu = t.sdu) :
    (s.request p kind tag f).sdu = s.sdu := by
  unfold State.request State.dispatch
  split_ifs with restarting held full
  · simp
  · simp
  · simp
  · unfold State.takeRequest
    have keeps := h ((s.hunt p).setPort p { (s.hunt p).port p with held := some (kind, tag) })
    dsimp only
    split <;> simp [keeps]

/-! ### The journal-full flag (R150) -/

theorem State.settleJournal_of_low (full : s.sdu.journalFull = true)
    (low : s.sdu.journal.length ≤ 1024) :
    s.settleJournal =
      (s.setSdu { s.sdu with journalFull := false, fullRefusals := 0 }).clearCond
        .journalFull .part := by
  simp [State.settleJournal, full, low]

theorem State.settleJournal_of_high (high : 1024 < s.sdu.journal.length) : s.settleJournal = s := by
  simp [State.settleJournal, high]

theorem State.settleJournal_of_not_full (h : s.sdu.journalFull = false) : s.settleJournal = s := by
  simp [State.settleJournal, h]

/-- Settling the flag reaches the SDU and the conditions only. -/
theorem State.settleJournal_frame :
    s.settleJournal = { s with sdu := s.settleJournal.sdu, cru := s.settleJournal.cru } := by
  unfold State.settleJournal
  split <;> rfl

@[simp] theorem State.settleJournal_journal : s.settleJournal.sdu.journal = s.sdu.journal := by
  unfold State.settleJournal
  split <;> rfl

@[simp] theorem State.settleJournal_nextSequence :
    s.settleJournal.sdu.nextSequence = s.sdu.nextSequence := by
  unfold State.settleJournal
  split <;> rfl

@[simp] theorem State.settleJournal_waitOuts : s.settleJournal.sdu.waitOuts = s.sdu.waitOuts := by
  unfold State.settleJournal
  split <;> rfl

theorem State.settleJournal_driving (m : Link) :
    s.settleJournal.cru.driving m = s.cru.driving m := by
  unfold State.settleJournal
  split
  · exact State.clearCond_driving _ _ (part_ne_link m)
  · rfl

/-! ### What is no longer active after a clear, and stays so to the end of the event -/

theorem Cru.isActive_clear_self (c : Cru) (k : CondKind) (sc : Scope) :
    (c.clear k sc).isActive k sc = false := by
  unfold Cru.clear
  split
  · simp [Cru.isActive]
  · next inactive => simpa using inactive

theorem Cru.isActive_clear_of_inactive {c : Cru} {k : CondKind} {sc : Scope}
    (h : c.isActive k sc = false) (k' : CondKind) (sc' : Scope) :
    (c.clear k' sc').isActive k sc = false := by
  unfold Cru.clear
  split
  · simp_all [Cru.isActive]
  · exact h

theorem State.settleCru_inactive {k : CondKind} {sc : Scope} (h : s.cru.isActive k sc = false) :
    s.settleCru.cru.isActive k sc = false := by
  change s.cru.settleListFull.isActive k sc = false
  unfold Cru.settleListFull
  split
  · exact Cru.isActive_clear_of_inactive h .conditionListFull .part
  · exact h

/-! ### READ STAMPS (R151) -/

theorem clampRange_eq_max_min {lo hi : Nat} (h : lo ≤ hi) (v : Nat) :
    clampRange lo hi v = max lo (min hi v) := by
  unfold clampRange
  split_ifs <;> omega

@[simp] theorem Sdu.drain_journal (d : Sdu) (n : Nat) : (d.drain n).journal = d.journal.drop n := rfl

/-- What the event of a READ STAMPS leaves when it removes up to `n` entries. -/
def State.drained (n : Nat) : State := (s.setSdu (s.sdu.drain n)).settleJournal.settleCru

/-- The end of the event drives no fault action. -/
theorem State.endEvent_drain (n : Nat) :
    State.endEvent s (s.setSdu (s.sdu.drain n)).settleJournal = s.drained n :=
  State.endEvent_quiet s _ fun m => ((s.setSdu (s.sdu.drain n)).settleJournal_driving m).symm

/-- The handler of READ STAMPS: the clamped count leaves the journal for the reply. -/
theorem readStampsH_eq (count : Byte) :
    let n := max 1 (min 6 count.toNat)
    readStampsH [count] s = (s.drained n, some (if n = count.toNat then .done else .doneClamped,
      stampsBody (s.sdu.journal.take n) (s.sdu.journal.length - n))) := by
  have fill : ∀ n, (s.drained n).sdu.journal.length = s.sdu.journal.length - n := fun n => by
    simp [State.drained, State.settleCru]
  simp only [readStampsH, withLength_of_eq _ (List.length_singleton (a := count)), field_cons_zero,
    clampRange_eq_max_min (show 1 ≤ 6 by decide), finish, State.endEvent_drain, answer, fill]
  by_cases h : max 1 (min 6 count.toNat) = count.toNat <;> simp [clampResult, h]

theorem State.drained_frame (n : Nat) :
    s.drained n = { s with sdu := (s.drained n).sdu, cru := (s.drained n).cru } := by
  unfold State.drained State.settleCru
  rw [State.settleJournal_frame]
  rfl

theorem State.drained_journal (n : Nat) :
    (s.drained n).sdu.journal = s.sdu.journal.drop n :=
  (s.setSdu (s.sdu.drain n)).settleJournal_journal

theorem State.drained_nextSequence (n : Nat) :
    (s.drained n).sdu.nextSequence = s.sdu.nextSequence :=
  (s.setSdu (s.sdu.drain n)).settleJournal_nextSequence

theorem State.drained_waitOuts (n : Nat) : (s.drained n).sdu.waitOuts = s.sdu.waitOuts :=
  (s.setSdu (s.sdu.drain n)).settleJournal_waitOuts

/-- R150 where 1,024 or fewer entries remain. -/
theorem State.drained_low {n : Nat} (low : s.sdu.journal.length ≤ 1024 + n) :
    (s.drained n).sdu.journalFull = false ∧
      (s.sdu.journalFull = true → (s.drained n).sdu.fullRefusals = 0 ∧
        (s.drained n).cru.isActive .journalFull .part = false) := by
  have remain : (s.setSdu (s.sdu.drain n)).sdu.journal.length ≤ 1024 := by simp; omega
  cases full : s.sdu.journalFull with
  | true =>
    unfold State.drained
    rw [State.settleJournal_of_low (s.setSdu (s.sdu.drain n)) full remain]
    exact ⟨rfl, fun _ => ⟨rfl, State.settleCru_inactive _ (Cru.isActive_clear_self _ _ _)⟩⟩
  | false =>
    unfold State.drained
    rw [State.settleJournal_of_not_full (s.setSdu (s.sdu.drain n)) full]
    exact ⟨full, fun h => absurd h (by decide)⟩

/-- R150 where more than 1,024 entries remain. -/
theorem State.drained_high {n : Nat} (high : 1024 + n < s.sdu.journal.length) :
    (s.drained n).sdu.journalFull = s.sdu.journalFull ∧
      (s.drained n).sdu.fullRefusals = s.sdu.fullRefusals := by
  have remain : 1024 < (s.setSdu (s.sdu.drain n)).sdu.journal.length := by simp; omega
  unfold State.drained
  rw [State.settleJournal_of_high _ remain]
  exact ⟨rfl, rfl⟩

/-- Settles O47: HALT keeps the SDU on every path of the dispatch; a READ STAMPS taken leaves the
state `State.drained`, whose parts are read off one lemma each. -/
theorem readStampsRequest : Obligations.ReadStampsRequest := by
  constructor
  · intro p tag s t run
    have ht : s.request p 0x03#8 tag (haltH []) = t := Host.Outcome.next.inj run
    rw [← ht]
    exact s.request_sdu p _ tag (haltH_sdu · [])
  · intro p tag count s accepts
    set n := max 1 (min 6 count.toNat)
    let taken := s.taken p 0x42#8 tag
    have same : taken.sdu = s.sdu := s.taken_sdu p 0x42#8 tag
    have reply := State.request_answered accepts 0x42#8 tag (readStampsH_eq taken count)
    have low := taken.drained_low (n := n)
    have high := taken.drained_high (n := n)
    rw [same] at reply low high
    exact ⟨taken.drained n, congrArg Host.Outcome.next reply,
      (taken.drained_journal n).trans (by rw [same]),
      (taken.drained_nextSequence n).trans (by rw [same]),
      (taken.drained_waitOuts n).trans (by rw [same]),
      low, high, taken.drained_frame n⟩

end Sys2Proof.Machine
end

section
/-!
PROOFS. The domain: SET DOMAIN (R184), where the domain is read (R77, R81), and what the resets and
the mode changes do to it (R180 to R182, R185).

SET DOMAIN is judged by its handler alone, mode by mode. For the mode changes the domain is followed
as one relation between states, `SameDomain`: each holds on the way of SERVE, HALT and a warm restart
because no operation of one link reaches the management ports and no wait-out changes their settings.
-/

namespace Sys2Proof.Machine

variable (s : State)

/-! ### SET DOMAIN (R184) -/

/-- The values a body of SET DOMAIN spells. -/
theorem field_domainBody {id inst : Nat} (hid : id < 65536) (hinst : inst < 4294967296) :
    field (beBytes 2 id ++ beBytes 4 inst) 0 2 = id ∧
      field (beBytes 2 id ++ beBytes 4 inst) 2 4 = inst := by
  constructor
  · rw [field_zero_append _ _ 2 (beBytes_length 2 id), natOfBytes_beBytes 2 id hid]
  · rw [field_append _ _ 2 4 (beBytes_length 2 id).le, beBytes_length,
      ← List.append_nil (beBytes 4 inst), field_zero_append _ _ 4 (beBytes_length 4 inst),
      natOfBytes_beBytes 4 inst hinst]

theorem setDomainH_setup {id inst : Nat} (setup : s.mgp.mode = .setup) (hid : id < 65536)
    (hinst : inst < 4294967296) :
    setDomainH (beBytes 2 id ++ beBytes 4 inst) s =
      (s.setMgp { s.mgp with domainId := id, domainInstance := inst },
        some (.done, beBytes 2 id ++ beBytes 4 inst)) := by
  obtain ⟨idField, instField⟩ := field_domainBody hid hinst
  unfold setDomainH
  rw [withLength_of_eq _ (by simp)]
  simp [setup, idField, instField, answer, State.domainBody, State.setMgp]

theorem setDomainH_serving {id inst : Nat} (serving : s.mgp.mode = .serving) :
    setDomainH (beBytes 2 id ++ beBytes 4 inst) s = (s, some (.wrongMode, s.domainBody)) := by
  unfold setDomainH
  rw [withLength_of_eq _ (by simp)]
  simp [serving, answer]

/-! ### Where the domain is read -/

/-- Check 1 of R77 is the first, and no later check fails for its reason. -/
theorem State.helloFailure_twinDomain_iff (l : Link) (h : Hello) :
    s.helloFailure l h = some .twinDomain ↔ TwinHello s h := by
  unfold State.helloFailure TwinHello
  dsimp only
  split_ifs with twin stray duplicate isolate <;> simp [twin]

/-! ### What keeps the domain -/

/-- Both values of the domain in force stand. -/
def SameDomain (s t : State) : Prop :=
  t.mgp.domainId = s.mgp.domainId ∧ t.mgp.domainInstance = s.mgp.domainInstance

variable {s} {t u : State}

theorem SameDomain.refl (s : State) : SameDomain s s := ⟨rfl, rfl⟩

theorem SameDomain.trans (h : SameDomain s t) (k : SameDomain t u) : SameDomain s u :=
  ⟨k.1.trans h.1, k.2.trans h.2⟩

theorem SameCore.sameDomain (h : SameCore s t) : SameDomain s t :=
  ⟨congrArg Mgp.domainId h.mgp, congrArg Mgp.domainInstance h.mgp⟩

theorem ClockOnly.sameDomain (h : ClockOnly s t) : SameDomain s t :=
  ⟨h.settings.domainId, h.settings.domainInstance⟩

/-- A fold over links of operations of one link each. -/
theorem SameDomain.forLinks {f : Link → State → State} (h : ∀ l st, OnlyLink l st (f l st))
    (k : SameDomain s t) : SameDomain s (forLinks f t) :=
  forLinks_keeps (P := SameDomain s) (fun l st hst => hst.trans (h l st).core.sameDomain) t k

theorem OnlyLink.judgeHeld (l : Link) (s : State) : OnlyLink l s (s.judgeHeld l) := by
  unfold State.judgeHeld
  split
  · split
    · exact .judgeHello l s _
    · exact .refl l s
  · exact .refl l s

variable (s)

theorem State.serve_sameDomain : SameDomain s s.serve := by
  unfold State.serve
  split
  · exact SameDomain.forLinks OnlyLink.judgeHeld ⟨rfl, rfl⟩
  · exact .refl s

theorem State.halt_sameDomain : SameDomain s s.halt := by
  unfold State.halt
  split
  · exact SameDomain.forLinks (fun l st => .goIdle l st true) ⟨rfl, rfl⟩
  · exact .refl s

/-- The blocks, the ABORTED completions and the RESTARTED posting leave the domain. -/
theorem State.warmRestart_sameDomain (p : Port) : SameDomain s (s.warmRestart p) := by
  have blocks : SameDomain s (s.warmBlocks p) := ⟨rfl, rfl⟩
  have aborted : ClockOnly (s.warmBlocks p) (s.warmBlocks p).abortWaits := .completeWaits _ _ _ _
  have posted := ClockOnly.raise (s.warmBlocks p).abortWaits .restarted
    { era := some (s.warmBlocks p).abortWaits.tsu.era } part_ne_link
  exact blocks.trans (aborted.trans (posted.trans (.settleCru _))).sameDomain

/-- A request answered at the end of its event keeps the domain where its effect does. -/
theorem finish_sameDomain {f : State → State} (h : ∀ st, SameDomain st (f st)) (res : Result)
    (out : State → List Byte) : SameDomain s (finish s (f s) res out).1 :=
  (h s).trans (State.endEvent_sameCore s (f s)).sameDomain

/-- Whatever a port answers to a frame (R176), the domain changes by what the handler does only. -/
theorem State.request_sameDomain (p : Port) (kind tag : Byte) {f : Handler}
    (h : ∀ st, SameDomain st (f st).1) : SameDomain s (s.request p kind tag f) := by
  have hunting : SameDomain s (s.hunt p) := (ClockOnly.setPort s p _).sameDomain
  unfold State.request State.dispatch
  split_ifs with restarting held full
  · exact hunting.trans (ClockOnly.handReply _ p _).sameDomain
  · exact hunting.trans (ClockOnly.handReply _ p _).sameDomain
  · exact hunting.trans (ClockOnly.setPort _ p _).sameDomain
  · have begun := hunting.trans (ClockOnly.setPort (s.hunt p) p
      { (s.hunt p).port p with held := some (kind, tag) }).sameDomain
    have handled := begun.trans (h _)
    unfold State.takeRequest
    dsimp only
    split
    · exact handled.trans (ClockOnly.handReply _ p _).sameDomain
    · exact handled.trans (ClockOnly.setPort _ p _).sameDomain

theorem exec_serve_sameDomain {p : Port} {tag : Byte} (run : exec (.serve p tag []) s = .next t) :
    SameDomain s t := by
  rw [exec_request rfl rfl] at run
  rw [← Host.Outcome.next.inj run]
  exact s.request_sameDomain p _ tag fun st => finish_sameDomain st State.serve_sameDomain _ _

theorem exec_halt_sameDomain {p : Port} {tag : Byte} (run : exec (.halt p tag []) s = .next t) :
    SameDomain s t := by
  rw [exec_request rfl rfl] at run
  rw [← Host.Outcome.next.inj run]
  exact s.request_sameDomain p _ tag fun st => finish_sameDomain st State.halt_sameDomain _ _

/-- R182: with the RESTART reply in transmission on a port, the part warm-restarts as it ends. -/
theorem exec_warmRestart_of_port {p : Port} (h : s.restartPort = some p) :
    exec .warmRestart s = .next (s.warmRestart p) := by
  change execWarmRestart s = _
  simp [execWarmRestart, h]

theorem exec_warmRestart_of_no_port (h : s.restartPort = none) : exec .warmRestart s = .next s := by
  change execWarmRestart s = _
  simp [execWarmRestart, h]

theorem exec_warmRestart_sameDomain (run : exec .warmRestart s = .next t) : SameDomain s t := by
  cases port : s.restartPort with
  | none =>
    rw [exec_warmRestart_of_no_port s port] at run
    rw [← Host.Outcome.next.inj run]
    exact .refl s
  | some p =>
    rw [exec_warmRestart_of_port s port] at run
    rw [← Host.Outcome.next.inj run]
    exact s.warmRestart_sameDomain p

/-- Settles O10: SET DOMAIN by the handler's two modes, the readers by their definitions, cold reset
by the cold ports, and the mode changes by `SameDomain`. -/
theorem domainRequest : Obligations.DomainRequest := by
  refine ⟨fun p tag id inst s accepts hid hinst => ⟨fun setup => ?_, fun serving => ?_⟩,
    fun l h s => ⟨rfl, s.helloFailure_twinDomain_iff l h⟩,
    fun p tag s t => ⟨fun x y run => ?_, ?_⟩⟩
  · rw [exec_request rfl rfl]
    exact congrArg Host.Outcome.next (State.request_answered accepts 0x30#8 tag
      (setDomainH_setup _ (by simpa using setup) hid hinst))
  · have taken : (s.taken p 0x30#8 tag).domainBody = s.domainBody := by simp [State.domainBody]
    rw [exec_request rfl rfl]
    exact congrArg Host.Outcome.next ((State.request_answered accepts 0x30#8 tag
      (setDomainH_serving _ (by simpa using serving))).trans (by rw [taken]; rfl))
  · rw [exec_coldReset] at run
    rw [← Host.Outcome.next.inj run]
    exact ⟨rfl, rfl⟩
  · rintro (warm | serve | halt)
    · exact exec_warmRestart_sameDomain s warm
    · exact exec_serve_sameDomain s serve
    · exact exec_halt_sameDomain s halt

end Sys2Proof.Machine
end

section
/-!
PROOFS. Whole-part rules: what the events of one link and the events of the clock side leave alone
(R53, R54, R74; 00_scope, "Paths between the blocks").

Every operation of a link is `OnlyLink`, every operation of the clock side is `ClockOnly`, and so is
the end of their events. What remains is one line per command: the operation it calls.
-/

namespace Sys2Proof.Machine

/-! ### Events of one link -/

theorem OnlyLink.of_next {l : Link} {s t u : State}
    (run : (Host.Outcome.next u : Host.Outcome State Fault Refusal) = .next t)
    (h : OnlyLink l s u) : OnlyLink l s t := Host.Outcome.next.inj run ▸ h

/-- An event of the link side touches the link it names only. -/
theorem OnlyLink.of_linkEvent {c : Instr} {l : Link} {s t : State} (on : linkEventOf c = some l)
    (run : exec c s = .next t) : OnlyLink l s t := by
  cases c with
  | laneActivityGained m => cases on; exact .of_next run (.setLink l s _)
  | laneActivityLost m => cases on; exact .of_next run (OnlyLink.loseActivity l s).endEvent
  | settleDeadline m => cases on; exact .of_next run (.setLink l s _)
  | trainingBlock m ready =>
    cases on; exact .of_next run (OnlyLink.takeTrainingBlock l s ready).endEvent
  | trainingDeadline m => cases on; exact .of_next run (.setLink l s _)
  | trainingCountRestart m => cases on; exact .of_next run (.setLink l s _)
  | receivedFrameCheckFailure m => cases on; exact .of_next run (OnlyLink.failCheck l s).endEvent
  | unknownKind m =>
    cases on; exact .of_next run (OnlyLink.goodFrame l s (OnlyLink.linkError l)).endEvent
  | linkErrorRateClear m => cases on; exact .of_next run (OnlyLink.errorRateClearDue l s).endEvent
  | frameTransmissionBegins m o => cases on; exact .of_next run (.beginTransmission l s o)
  | frameDeparted m => cases on; exact .of_next run (.frameDeparts l s)
  | hello m h =>
    cases on; exact .of_next run (OnlyLink.goodFrame l s (OnlyLink.takeHello l · h)).endEvent
  | echo m o e =>
    cases on; exact .of_next run (OnlyLink.goodFrame l s (OnlyLink.takeEcho l · e o)).endEvent
  | trimDone m g a =>
    cases on
    exact .of_next run (OnlyLink.goodFrame l s (OnlyLink.takeTrimDone l · g.toNat a.toNat)).endEvent
  | probeDue m => cases on; exact .of_next run (OnlyLink.probeIfDue l s).endEvent
  | exchangeTimeout m => cases on; exact .of_next run (OnlyLink.exchangeTimeout l s).endEvent
  | trimTimeout m => cases on; exact .of_next run (OnlyLink.trimTimeout l s).endEvent
  | lossDeadline m => cases on; exact .of_next run (OnlyLink.lossDeadline l s).endEvent
  | _ => cases on

/-- Settles O55: each event of a link is an operation of that link, with its end. -/
theorem linkEventsStayOnTheirLink : Obligations.LinkEventsStayOnTheirLink := by
  intro c l s t on run
  exact .of_linkEvent on run

/-! ### Events of the clock side -/

theorem ClockOnly.of_next {s t u : State}
    (run : (Host.Outcome.next u : Host.Outcome State Fault Refusal) = .next t)
    (h : ClockOnly s u) : ClockOnly s t := Host.Outcome.next.inj run ▸ h

/-- An event of the clock side touches the clock side only. -/
theorem ClockOnly.of_clockEvent {c : Instr} {s t : State} (on : isClockEvent c = true)
    (run : exec c s = .next t) : ClockOnly s t := by
  cases c with
  | rateBoundary => exact .of_next run (.openBoundary s)
  | sduStepNotice => exact .of_next run (.takeSduNotice s)
  | epgStepNotice => exact .of_next run (.takeEpgNotice s)
  | epgWrap => exact .of_next run (.setEpg s _)
  | waitOutWrap => exact .of_next run (.waitWrap s)
  | waitOutRelease => exact .of_next run (.releaseWaits s)
  | markArrival r o => exact .of_next run (ClockOnly.markArrival s r o).endEvent
  | labelArrival r n q => exact .of_next run ((ClockOnly.huntLabel s r).trans (.holdLabel _ r _ _))
  | labelRecordAbandoned r cause => exact .of_next run (.abandonLabel s r cause)
  | labelLineByte r b => exact .of_next run (.labelByte s r b)
  | missingMark r => exact .of_next run (ClockOnly.missingMark s r).endEvent
  | holdoverLimitExpiry => exact .of_next run (ClockOnly.expireHoldover s).endEvent
  | epochBoundary => exact .of_next run (.setEpg s _)
  | epaPulseEnd => exact .of_next run (.setEpg s _)
  | epbPulseStart => exact .of_next run (.setEpg s _)
  | epbPulseEnd => exact .of_next run (.setEpg s _)
  | _ => cases on

/-- Settles O56: each event of the clock side is an operation of it, with its end. -/
theorem clockEventsTouchNoLink : Obligations.ClockEventsTouchNoLink := by
  intro c s t on run
  exact .of_clockEvent on run

end Sys2Proof.Machine
end

section
/-!
PROOFS. Frames of the condition reporting unit: what a raise, a clear and the end of an event leave
alone, one lemma per field.
-/

namespace Sys2Proof.Machine

/-! ### A raise -/

section

variable (s : State) (k : CondKind) (sc : Scope) (d : Details) (f : Bool)

@[simp] theorem State.raiseWith_osc : (s.raiseWith k sc d f).osc = s.osc := by
  unfold State.raiseWith; split <;> rfl
@[simp] theorem State.raiseWith_tsu : (s.raiseWith k sc d f).tsu = s.tsu := by
  unfold State.raiseWith; split <;> rfl
@[simp] theorem State.raiseWith_rdu : (s.raiseWith k sc d f).rdu = s.rdu := by
  unfold State.raiseWith; split <;> rfl
@[simp] theorem State.raiseWith_epg : (s.raiseWith k sc d f).epg = s.epg := by
  unfold State.raiseWith; split <;> rfl
@[simp] theorem State.raiseWith_links : (s.raiseWith k sc d f).links = s.links := by
  unfold State.raiseWith; split <;> rfl
@[simp] theorem State.raiseWith_rtmEra : (s.raiseWith k sc d f).rtmEra = s.rtmEra := by
  unfold State.raiseWith; split <;> rfl
@[simp] theorem State.raiseWith_entries : (s.raiseWith k sc d f).entries = s.entries := by
  unfold State.raiseWith; split <;> rfl
@[simp] theorem State.raiseWith_drift : (s.raiseWith k sc d f).drift = s.drift := by
  unfold State.raiseWith; split <;> rfl
@[simp] theorem State.raiseWith_sdu : (s.raiseWith k sc d f).sdu = s.sdu := by
  unfold State.raiseWith; split <;> rfl
@[simp] theorem State.raiseWith_mgp : (s.raiseWith k sc d f).mgp = s.mgp := by
  unfold State.raiseWith; split <;> rfl
@[simp] theorem State.raiseWith_choices : (s.raiseWith k sc d f).choices = s.choices := by
  unfold State.raiseWith; split <;> rfl
@[simp] theorem State.raiseWith_pending : (s.raiseWith k sc d f).pending = s.pending := by
  unfold State.raiseWith; split <;> rfl
@[simp] theorem State.raiseWith_link (m : Link) : (s.raiseWith k sc d f).link m = s.link m := by
  unfold State.raiseWith; split <;> rfl
@[simp] theorem State.raiseWith_entry (m : Link) : (s.raiseWith k sc d f).entry m = s.entry m := by
  unfold State.raiseWith; split <;> rfl
@[simp] theorem State.raiseWith_driftOf (m : Link) : (s.raiseWith k sc d f).driftOf m = s.driftOf m := by
  unfold State.raiseWith; split <;> rfl
@[simp] theorem State.raiseWith_port (p : Port) : (s.raiseWith k sc d f).port p = s.port p := by
  unfold State.raiseWith; split <;> simp
@[simp] theorem State.raiseWith_ref (r : RefId) : (s.raiseWith k sc d f).ref r = s.ref r := by
  unfold State.raiseWith; split <;> simp

end

/-! ### A raise without a cause -/

section

variable (s : State) (k : CondKind) (sc : Scope) (d : Details)

@[simp] theorem State.raise_osc : (s.raise k sc d).osc = s.osc := by simp [State.raise]
@[simp] theorem State.raise_tsu : (s.raise k sc d).tsu = s.tsu := by simp [State.raise]
@[simp] theorem State.raise_rdu : (s.raise k sc d).rdu = s.rdu := by simp [State.raise]
@[simp] theorem State.raise_epg : (s.raise k sc d).epg = s.epg := by simp [State.raise]
@[simp] theorem State.raise_links : (s.raise k sc d).links = s.links := by simp [State.raise]
@[simp] theorem State.raise_rtmEra : (s.raise k sc d).rtmEra = s.rtmEra := by simp [State.raise]
@[simp] theorem State.raise_entries : (s.raise k sc d).entries = s.entries := by simp [State.raise]
@[simp] theorem State.raise_drift : (s.raise k sc d).drift = s.drift := by simp [State.raise]
@[simp] theorem State.raise_sdu : (s.raise k sc d).sdu = s.sdu := by simp [State.raise]
@[simp] theorem State.raise_mgp : (s.raise k sc d).mgp = s.mgp := by simp [State.raise]
@[simp] theorem State.raise_choices : (s.raise k sc d).choices = s.choices := by simp [State.raise]
@[simp] theorem State.raise_pending : (s.raise k sc d).pending = s.pending := by simp [State.raise]
@[simp] theorem State.raise_link (m : Link) : (s.raise k sc d).link m = s.link m := by simp [State.raise]
@[simp] theorem State.raise_entry (m : Link) : (s.raise k sc d).entry m = s.entry m := by simp [State.raise]
@[simp] theorem State.raise_driftOf (m : Link) : (s.raise k sc d).driftOf m = s.driftOf m := by simp [State.raise]
@[simp] theorem State.raise_port (p : Port) : (s.raise k sc d).port p = s.port p := by simp [State.raise]
@[simp] theorem State.raise_ref (r : RefId) : (s.raise k sc d).ref r = s.ref r := by simp [State.raise]

end

/-! ### A clear -/

section

variable (s : State) (k : CondKind) (sc : Scope)

@[simp] theorem State.clearCond_osc : (s.clearCond k sc).osc = s.osc := rfl
@[simp] theorem State.clearCond_tsu : (s.clearCond k sc).tsu = s.tsu := rfl
@[simp] theorem State.clearCond_rdu : (s.clearCond k sc).rdu = s.rdu := rfl
@[simp] theorem State.clearCond_epg : (s.clearCond k sc).epg = s.epg := rfl
@[simp] theorem State.clearCond_links : (s.clearCond k sc).links = s.links := rfl
@[simp] theorem State.clearCond_rtmEra : (s.clearCond k sc).rtmEra = s.rtmEra := rfl
@[simp] theorem State.clearCond_entries : (s.clearCond k sc).entries = s.entries := rfl
@[simp] theorem State.clearCond_drift : (s.clearCond k sc).drift = s.drift := rfl
@[simp] theorem State.clearCond_sdu : (s.clearCond k sc).sdu = s.sdu := rfl
@[simp] theorem State.clearCond_mgp : (s.clearCond k sc).mgp = s.mgp := rfl
@[simp] theorem State.clearCond_choices : (s.clearCond k sc).choices = s.choices := rfl
@[simp] theorem State.clearCond_pending : (s.clearCond k sc).pending = s.pending := rfl
@[simp] theorem State.clearCond_link (m : Link) : (s.clearCond k sc).link m = s.link m := rfl
@[simp] theorem State.clearCond_entry (m : Link) : (s.clearCond k sc).entry m = s.entry m := rfl
@[simp] theorem State.clearCond_driftOf (m : Link) : (s.clearCond k sc).driftOf m = s.driftOf m := rfl
@[simp] theorem State.clearCond_port (p : Port) : (s.clearCond k sc).port p = s.port p := by simp [State.clearCond]
@[simp] theorem State.clearCond_ref (r : RefId) : (s.clearCond k sc).ref r = s.ref r := by simp [State.clearCond]

end

/-! ### The end of an event in the condition reporting unit -/

section

variable (s : State)

@[simp] theorem State.settleCru_osc : (s.settleCru).osc = s.osc := rfl
@[simp] theorem State.settleCru_tsu : (s.settleCru).tsu = s.tsu := rfl
@[simp] theorem State.settleCru_rdu : (s.settleCru).rdu = s.rdu := rfl
@[simp] theorem State.settleCru_epg : (s.settleCru).epg = s.epg := rfl
@[simp] theorem State.settleCru_links : (s.settleCru).links = s.links := rfl
@[simp] theorem State.settleCru_rtmEra : (s.settleCru).rtmEra = s.rtmEra := rfl
@[simp] theorem State.settleCru_entries : (s.settleCru).entries = s.entries := rfl
@[simp] theorem State.settleCru_drift : (s.settleCru).drift = s.drift := rfl
@[simp] theorem State.settleCru_sdu : (s.settleCru).sdu = s.sdu := rfl
@[simp] theorem State.settleCru_mgp : (s.settleCru).mgp = s.mgp := rfl
@[simp] theorem State.settleCru_choices : (s.settleCru).choices = s.choices := rfl
@[simp] theorem State.settleCru_pending : (s.settleCru).pending = s.pending := rfl
@[simp] theorem State.settleCru_link (m : Link) : (s.settleCru).link m = s.link m := rfl
@[simp] theorem State.settleCru_entry (m : Link) : (s.settleCru).entry m = s.entry m := rfl
@[simp] theorem State.settleCru_driftOf (m : Link) : (s.settleCru).driftOf m = s.driftOf m := rfl
@[simp] theorem State.settleCru_port (p : Port) : (s.settleCru).port p = s.port p := by simp [State.settleCru]
@[simp] theorem State.settleCru_ref (r : RefId) : (s.settleCru).ref r = s.ref r := by simp [State.settleCru]

end

end Sys2Proof.Machine
end

section
/-!
PROOFS. What a request can do (11.5): one inversion for the handlers of all thirty kinds.

Every handler either leaves the part as it stands or applies one of the effects below. A rule kept by
each effect, and by what the ports do around it, is kept by every request frame, whole or byte by
byte.
-/

namespace Sys2Proof.Machine

/-! ### The effects of the requests -/

/-- What a request of kind `k`, taken in a state, may leave behind before its reply is handed. -/
inductive RequestEffect (k : Nat) (s : State) : State → Prop where
  | nothing : RequestEffect k s s
  | serve (kind : k = 0x02) : RequestEffect k s (State.endEvent s s.serve)
  | halt (kind : k = 0x03) : RequestEffect k s (State.endEvent s s.halt)
  | restart : RequestEffect k s (s.setMgp { s.mgp with restartPending := true })
  | domain (id inst : Nat) :
      RequestEffect k s (s.setMgp { s.mgp with domainId := id, domainInstance := inst })
  | rate (v : Int) : RequestEffect k s (s.writeRate v)
  | stepTime (kind : k = 0x12) (v : Int) (u : State) (taken : s.stepHall v = some u) :
      RequestEffect k s (State.endEvent s u)
  | timescale (d : Discipline) (u b : Nat) : RequestEffect k s (State.endEvent s
      ((s.setRdu { s.rdu with settings := d }).setTsu
        { s.tsu with uLock := u, holdoverBound := b }).expireHoldover)
  | reference (r : RefId) (enable : Bool) (priority : Nat) :
      RequestEffect k s (State.endEvent s (s.setReference r enable priority))
  | outputs (g : Epg) : RequestEffect k s (s.setEpg g)
  | link (l : Link) (enable : Bool) (n w : Nat) (c : LinkSettings) :
      RequestEffect k s (State.endEvent s (s.setLinkRequest l enable n w c))
  | range (l : Link) (first last : Nat) :
      RequestEffect k s (s.setLink l { s.link l with rangeFirst := first, rangeLast := last })
  | resetLink (l : Link) : RequestEffect k s (State.endEvent s (s.resetLink l))
  | clearQuarantine (l : Link) : RequestEffect k s (State.endEvent s (s.goIdle l false))
  | limits (l : Link) (x : Limits) :
      RequestEffect k s (s.setDrift l ((s.driftOf l).writeLimits x))
  | allLimits (x : Limits) : RequestEffect k s
      (forLinks (fun l st => st.setDrift l ((st.driftOf l).writeLimits x)) s)
  | window (w : Fin 8) (x : SourceWindow) :
      RequestEffect k s (s.setSdu { s.sdu with windows := s.sdu.windows.set w x })
  | cls (c : Fin 4) (x : StampClass) : RequestEffect k s (State.endEvent s (s.writeClass c x))
  | drain (n : Nat) :
      RequestEffect k s (State.endEvent s (s.setSdu (s.sdu.drain n)).settleJournal)
  | wait (p : Port) (tag : Byte) (target era : Nat) :
      RequestEffect k s (State.waitUntil p tag target era s).1
  | take (p : Port) : RequestEffect k s (State.endEvent s (s.setCru (s.cru.take p s.osc).2))
  | mask (p : Port) (m : BitVec 7) :
      RequestEffect k s (State.endEvent s (s.setCru (s.cru.setMask p m)))
  | recording (x : CondKind) (on : Bool) (repressible : x.isExigent = false) :
      RequestEffect k s (State.endEvent s (s.setCru (s.cru.setRecording x on)))
  | action (sel : Option (Fin 5)) (drift : Bool) (a : Action) :
      RequestEffect k s (State.endEvent s (s.setCru (s.cru.setAction sel drift a)))
  | repost (interval : Nat) :
      RequestEffect k s (State.endEvent s (s.setCru (s.cru.setRepost interval s.osc)))

/-- A handler that, for a request of kind `k`, applies one of the effects. -/
def Handler.Does (k : Nat) (f : Handler) : Prop := ∀ s, RequestEffect k s (f s).1

variable {k : Nat}

theorem withLength_does {n : Nat} {body : List Byte} {f : Handler} (h : f.Does k) :
    (withLength n body f).Does k := by
  intro s
  unfold withLength
  split
  · exact h s
  · exact .nothing

theorem withField_does {α : Type} {v : Option α} {f : α → Handler} (h : ∀ x, (f x).Does k) :
    (withField v f).Does k := by
  intro s
  unfold withField
  split
  · exact h _ s
  · exact .nothing

/-! ### One lemma per request -/

section

variable (p : Port) (tag : Byte) (body : List Byte)

theorem unknownHandler_does : unknownHandler.Does k := fun _ => .nothing

theorem readSummaryH_does : (readSummaryH body).Does k := withLength_does fun _ => .nothing

theorem serveH_does (h : k = 0x02) : (serveH body).Does k := withLength_does fun _ => .serve h

theorem haltH_does (h : k = 0x03) : (haltH body).Does k := withLength_does fun _ => .halt h

theorem restartH_does : (restartH body).Does k := withLength_does fun _ => .restart

theorem setDomainH_does : (setDomainH body).Does k := by
  refine withLength_does fun s => ?_
  dsimp only
  split
  · exact .nothing
  · exact .domain _ _

theorem readTimeH_does : (readTimeH body).Does k := withLength_does fun _ => .nothing

theorem setRateH_does : (setRateH body).Does k := by
  refine withLength_does fun s => ?_
  dsimp only
  split
  · exact .rate _
  · exact .nothing

theorem stepTimeH_does (h : k = 0x12) : (stepTimeH body).Does k := by
  refine withLength_does fun s => ?_
  split
  · split
    · next u taken => exact .stepTime h _ u taken
    · exact .nothing
  · exact .nothing

theorem setTimescaleH_does : (setTimescaleH body).Does k :=
  withLength_does fun _ => .timescale _ _ _

theorem setReferenceH_does : (setReferenceH body).Does k :=
  withLength_does <| withField_does fun _ => withField_does fun _ _ => .reference _ _ _

theorem setEpochH_does : (setEpochH body).Does k := by
  refine withLength_does <| withField_does fun c s => ?_
  dsimp only
  split
  · exact .outputs _
  · exact .nothing

theorem startEpochH_does : (startEpochH body).Does k := withLength_does fun _ => .outputs _

theorem stopEpochH_does : (stopEpochH body).Does k := withLength_does fun _ => .outputs _

theorem setLinkH_does : (setLinkH body).Does k :=
  withLength_does <| withField_does fun _ => withField_does fun _ _ => .link _ _ _ _ _

theorem setLinkRangeH_does : (setLinkRangeH body).Does k := by
  refine withLength_does <| withField_does fun l s => ?_
  dsimp only
  split
  · exact .nothing
  · split
    · exact .nothing
    · split
      · exact .nothing
      · exact .range _ _ _

theorem resetLinkH_does : (resetLinkH body).Does k := by
  refine withLength_does <| withField_does fun l s => ?_
  split
  · exact .nothing
  · exact .resetLink l

theorem readRackH_does : (readRackH body).Does k :=
  withLength_does <| withField_does fun _ _ => .nothing

theorem readWindowH_does : (readWindowH body).Does k :=
  withLength_does <| withField_does fun _ => withField_does fun _ _ => .nothing

theorem clearQuarantineH_does : (clearQuarantineH body).Does k := by
  refine withLength_does <| withField_does fun l s => ?_
  split
  · exact .clearQuarantine l
  · exact .nothing

theorem setDriftLimitsH_does : (setDriftLimitsH body).Does k := by
  refine withLength_does <| withField_does fun sel => withField_does fun write s => ?_
  dsimp only
  split
  · exact .nothing
  · exact .nothing
  · exact .limits _ _
  · exact .allLimits _

theorem setSourceWindowH_does : (setSourceWindowH body).Does k := by
  refine withLength_does <| withField_does fun w => withField_does fun on =>
    withField_does fun c s => ?_
  dsimp only
  split
  · exact .nothing
  · split
    · exact .nothing
    · exact .window _ _

theorem setClassH_does : (setClassH body).Does k := by
  refine withLength_does <| withField_does fun c => withField_does fun write =>
    withField_does fun report s => ?_
  split
  · exact .cls _ _
  · exact .nothing

theorem readStampsH_does : (readStampsH body).Does k := withLength_does fun _ => .drain _

theorem waitUntilH_does : (waitUntilH p tag body).Does k := withLength_does fun _ => .wait _ _ _ _

theorem takeConditionH_does : (takeConditionH p body).Does k := withLength_does fun _ => .take p

theorem setReportingH_does : (setReportingH body).Does k :=
  withLength_does <| withField_does fun _ => withField_does fun _ _ => .mask _ _

theorem setRecordingH_does : (setRecordingH body).Does k := by
  refine withLength_does <| withField_does fun x => withField_does fun on s => ?_
  split
  · exact .nothing
  · next repressible => exact .recording x on (by simpa using repressible)

theorem setActionH_does : (setActionH body).Does k :=
  withLength_does <| withField_does fun _ => withField_does fun _ =>
    withField_does fun _ _ => .action _ _ _

theorem setRepostH_does : (setRepostH body).Does k := withLength_does fun _ => .repost _

/-! ### Every kind -/

/-- The handler of a kind byte applies an effect of that kind. -/
theorem handlerOf_does (kind : Byte) : (handlerOf p kind tag body).Does kind.toNat := by
  unfold handlerOf
  split
  · exact readSummaryH_does body
  · next h => exact serveH_does body h
  · next h => exact haltH_does body h
  · exact restartH_does body
  · exact readTimeH_does body
  · exact setRateH_does body
  · next h => exact stepTimeH_does body h
  · exact setTimescaleH_does body
  · exact setReferenceH_does body
  · exact setEpochH_does body
  · exact startEpochH_does body
  · exact stopEpochH_does body
  · exact setDomainH_does body
  · exact setLinkH_does body
  · exact setLinkRangeH_does body
  · exact resetLinkH_does body
  · exact readRackH_does body
  · exact readWindowH_does body
  · exact clearQuarantineH_does body
  · exact setDriftLimitsH_does body
  · exact setSourceWindowH_does body
  · exact setClassH_does body
  · exact readStampsH_does body
  · exact waitUntilH_does p tag body
  · exact takeConditionH_does p body
  · exact setReportingH_does body
  · exact setRecordingH_does body
  · exact setActionH_does body
  · exact setRepostH_does body
  · exact unknownHandler_does

end

/-- A request command is its frame dispatched to a handler that applies an effect of its kind. -/
theorem exec_request_does {c : Instr} {r : Request} (h : requestOf c = some r) :
    ∃ f : Handler, f.Does r.kind.toNat ∧
      ∀ s, exec c s = .next (s.request r.port r.kind r.tag f) := by
  cases c with
  | unknownRequest p kind tag body =>
    cases h
    exact ⟨unknownHandler, unknownHandler_does, fun _ => rfl⟩
  | _ =>
    cases h <;> next p tag body => exact ⟨_, handlerOf_does p tag body _, fun _ => rfl⟩

end Sys2Proof.Machine
end

section
/-!
PROOFS. Frames of the clock side: what the wait-outs and the timescale machine leave alone, and what
the operations of the reference discipline do to the TSU (chapters 1, 2 and 9).

A transition of the timescale state writes no rate: only `noneRemains`, a servo run and a step reach
the TSU. `Tsu.Runs` is what every rate write and boundary keeps; a step alone moves the era.
-/

namespace Sys2Proof.Machine

variable (s : State)

/-! ### Completions of wait-outs -/

/-- Completing wait-outs one after the other reaches the ports only. -/
theorem State.foldWaits_frame (res : Result) (b : List Byte) (ws : List WaitOut) :
    ws.foldl (fun st w => st.completeWait w res b) s =
      s.setMgp (ws.foldl (fun st w => st.completeWait w res b) s).mgp := by
  induction ws generalizing s with
  | nil => rfl
  | cons w ws ih =>
    have one : s.completeWait w res b = s.setMgp (s.completeWait w res b).mgp := by
      unfold State.completeWait State.handReply State.setPort
      cases w.port <;> rfl
    rw [List.foldl_cons, ih, one]
    rfl

section

variable (test : WaitOut → Bool) (res : Result) (b : List Byte)

theorem State.completeWaits_frame : s.completeWaits test res b =
    (s.setSdu { s.sdu with waitOuts := s.sdu.waitOuts.filter (fun w => !test w) }).setMgp
      (s.completeWaits test res b).mgp :=
  State.foldWaits_frame _ res b _

@[simp] theorem State.completeWaits_osc : (s.completeWaits test res b).osc = s.osc := by
  rw [State.completeWaits_frame]; rfl
@[simp] theorem State.completeWaits_tsu : (s.completeWaits test res b).tsu = s.tsu := by
  rw [State.completeWaits_frame]; rfl
@[simp] theorem State.completeWaits_rdu : (s.completeWaits test res b).rdu = s.rdu := by
  rw [State.completeWaits_frame]; rfl
@[simp] theorem State.completeWaits_epg : (s.completeWaits test res b).epg = s.epg := by
  rw [State.completeWaits_frame]; rfl
@[simp] theorem State.completeWaits_cru : (s.completeWaits test res b).cru = s.cru := by
  rw [State.completeWaits_frame]; rfl
@[simp] theorem State.completeWaits_ref (r : RefId) :
    (s.completeWaits test res b).ref r = s.ref r := by
  rw [State.completeWaits_frame]; simp
@[simp] theorem State.completeWaits_sdu : (s.completeWaits test res b).sdu =
    { s.sdu with waitOuts := s.sdu.waitOuts.filter (fun w => !test w) } := by
  rw [State.completeWaits_frame]; rfl

end

/-! ### Transitions of the timescale state (2.5) -/

section

variable (t : TsState)

@[simp] theorem State.announceTimescale_osc : (s.announceTimescale t).osc = s.osc := by
  cases t <;> simp [State.announceTimescale, State.untimeWaits]
@[simp] theorem State.announceTimescale_tsu : (s.announceTimescale t).tsu = s.tsu := by
  cases t <;> simp [State.announceTimescale, State.untimeWaits]
@[simp] theorem State.announceTimescale_rdu : (s.announceTimescale t).rdu = s.rdu := by
  cases t <;> simp [State.announceTimescale, State.untimeWaits]
@[simp] theorem State.announceTimescale_cru : (s.announceTimescale t).cru = s.cru := by
  cases t <;> simp [State.announceTimescale, State.untimeWaits]
@[simp] theorem State.announceTimescale_epg :
    (s.announceTimescale t).epg = s.epg.timescaleChanged t := by
  cases t <;> simp [State.announceTimescale, State.untimeWaits]

@[simp] theorem State.clearOutlier_osc (r : RefId) : (s.clearOutlier r).osc = s.osc := rfl
@[simp] theorem State.clearOutlier_tsu (r : RefId) : (s.clearOutlier r).tsu = s.tsu := rfl
@[simp] theorem State.clearOutlier_rdu (r : RefId) : (s.clearOutlier r).rdu = s.rdu := rfl
@[simp] theorem State.clearOutlier_epg (r : RefId) : (s.clearOutlier r).epg = s.epg := rfl
@[simp] theorem State.clearOutlier_sdu (r : RefId) : (s.clearOutlier r).sdu = s.sdu := rfl
@[simp] theorem State.clearOutlier_mgp (r : RefId) : (s.clearOutlier r).mgp = s.mgp := rfl
@[simp] theorem State.clearOutlier_ref (r x : RefId) : (s.clearOutlier r).ref x = s.ref x := by
  simp [State.clearOutlier]

/-- A transition up to the posting of TIMESCALE_STATE: the state, and REF_OUTLIER cleared on leaving
LOCKED. -/
def State.leaveTimescale (t : TsState) : State :=
  let s1 := s.setRdu { s.rdu with tsState := t }
  if s.rdu.tsState = .locked then (s1.clearOutlier .a).clearOutlier .b else s1

theorem State.enterTimescale_eq : s.enterTimescale t =
    ((s.leaveTimescale t).raise .timescaleState .part
      { oldState := some s.rdu.tsState.code, newState := some t.code,
        era := some s.tsu.era }).announceTimescale t := by
  unfold State.enterTimescale State.leaveTimescale
  dsimp only
  split <;> rfl

@[simp] theorem State.leaveTimescale_osc : (s.leaveTimescale t).osc = s.osc := by
  unfold State.leaveTimescale; dsimp only; split <;> rfl
@[simp] theorem State.leaveTimescale_tsu : (s.leaveTimescale t).tsu = s.tsu := by
  unfold State.leaveTimescale; dsimp only; split <;> rfl
@[simp] theorem State.leaveTimescale_rdu :
    (s.leaveTimescale t).rdu = { s.rdu with tsState := t } := by
  unfold State.leaveTimescale; dsimp only; split <;> rfl
@[simp] theorem State.leaveTimescale_epg : (s.leaveTimescale t).epg = s.epg := by
  unfold State.leaveTimescale; dsimp only; split <;> rfl
@[simp] theorem State.leaveTimescale_sdu : (s.leaveTimescale t).sdu = s.sdu := by
  unfold State.leaveTimescale; dsimp only; split <;> rfl
@[simp] theorem State.leaveTimescale_mgp : (s.leaveTimescale t).mgp = s.mgp := by
  unfold State.leaveTimescale; dsimp only; split <;> rfl

@[simp] theorem State.enterTimescale_osc : (s.enterTimescale t).osc = s.osc := by
  simp [State.enterTimescale_eq]
@[simp] theorem State.enterTimescale_tsu : (s.enterTimescale t).tsu = s.tsu := by
  simp [State.enterTimescale_eq]
@[simp] theorem State.enterTimescale_rdu :
    (s.enterTimescale t).rdu = { s.rdu with tsState := t } := by
  simp [State.enterTimescale_eq]
@[simp] theorem State.enterTimescale_epg :
    (s.enterTimescale t).epg = s.epg.timescaleChanged t := by
  simp [State.enterTimescale_eq]

end

/-! ### Rate writes and boundaries -/

@[simp] theorem Tsu.applyBoundary_era (t : Tsu) : t.applyBoundary.era = t.era := by
  unfold Tsu.applyBoundary; split <;> rfl

@[simp] theorem Tsu.settledTo_era (t : Tsu) (o : Nat) : (t.settledTo o).era = t.era := by
  unfold Tsu.settledTo; repeat' split
  all_goals simp

@[simp] theorem Tsu.settledBefore_era (t : Tsu) (o : Nat) : (t.settledBefore o).era = t.era := by
  unfold Tsu.settledBefore; repeat' split
  all_goals simp

@[simp] theorem Tsu.writeRate_era (t : Tsu) (o : Nat) (v : Int) : (t.writeRate o v).era = t.era := by
  simp [Tsu.writeRate]

@[simp] theorem Tsu.applyStep_era (t : Tsu) (o : Nat) (v : Int) :
    (t.applyStep o v).era = nextEra t.era := by
  simp [Tsu.applyStep]

/-- R3, R4: what the TSU keeps at every write, boundary and step. -/
structure Tsu.Bounded (t : Tsu) : Prop where
  history : t.historyFits
  rates : t.ratesInRange

theorem rateInRange_clampSym (v : Int) : rateInRange (clampSym 100000000 v) :=
  ⟨neg_le_clampSym 100000000 v, clampSym_le 100000000 v⟩

theorem Tsu.Bounded.openSegment {t : Tsu} (h : t.Bounded) {g : Segment} (hg : rateInRange g.rate) :
    (t.openSegment g).Bounded := by
  obtain ⟨force, older, wish⟩ := h.rates
  refine ⟨by simp [Tsu.historyFits, Tsu.openSegment], hg, fun x hx => ?_, wish⟩
  obtain rfl | hx := List.mem_cons.mp (List.mem_of_mem_take hx)
  · exact force
  · exact older x hx

theorem Tsu.Bounded.applyBoundary {t : Tsu} (h : t.Bounded) : t.applyBoundary.Bounded := by
  unfold Tsu.applyBoundary
  split
  · exact h
  · next p hp =>
    have opened := h.openSegment (g := ⟨t.inForce.firstReach p.goal, p.goal % two64, p.rate, t.era⟩)
      (h.rates.2.2 p hp)
    exact ⟨opened.history, opened.rates.1, opened.rates.2.1, fun _ none => by cases none⟩

theorem Tsu.Bounded.settledTo {t : Tsu} (h : t.Bounded) (o : Nat) : (t.settledTo o).Bounded := by
  unfold Tsu.settledTo
  repeat' split
  · exact h.applyBoundary
  · exact h
  · exact h

theorem Tsu.Bounded.settledBefore {t : Tsu} (h : t.Bounded) (o : Nat) :
    (t.settledBefore o).Bounded := by
  unfold Tsu.settledBefore
  repeat' split
  · exact h.applyBoundary
  · exact h
  · exact h

theorem Tsu.Bounded.writeRate {t : Tsu} (h : t.Bounded) (o : Nat) (v : Int) :
    (t.writeRate o v).Bounded := by
  have settled := h.settledTo o
  refine ⟨settled.history, settled.rates.1, settled.rates.2.1, fun p hp => ?_⟩
  cases hp
  exact rateInRange_clampSym v

theorem Tsu.Bounded.applyStep {t : Tsu} (h : t.Bounded) (o : Nat) (v : Int) :
    (t.applyStep o v).Bounded := by
  have settled := h.settledBefore o
  have opened := settled.openSegment
    (g := ⟨o, (t.stepTarget o v).toNat, (t.settledBefore o).inForce.rate, nextEra t.era⟩)
    settled.rates.1
  refine ⟨opened.history, settled.rates.1, opened.rates.2.1, fun p hp => ?_⟩
  obtain ⟨q, hq, rfl⟩ := Option.map_eq_some_iff.mp hp
  exact settled.rates.2.2 q hq

/-- The era stands and the bounds of the TSU are kept: true of every operation but a step. -/
structure Tsu.Runs (t u : Tsu) : Prop where
  era : u.era = t.era
  bounded : t.Bounded → u.Bounded

theorem Tsu.Runs.refl (t : Tsu) : t.Runs t := ⟨rfl, id⟩

theorem Tsu.Runs.trans {t u v : Tsu} (h : t.Runs u) (k : u.Runs v) : t.Runs v :=
  ⟨k.era.trans h.era, k.bounded ∘ h.bounded⟩

theorem Tsu.Runs.of_eq {t u : Tsu} (h : u = t) : t.Runs u := h ▸ .refl t

theorem Tsu.Runs.writeRate (t : Tsu) (o : Nat) (v : Int) : t.Runs (t.writeRate o v) :=
  ⟨by simp, fun h => h.writeRate o v⟩

theorem Tsu.Runs.settledTo (t : Tsu) (o : Nat) : t.Runs (t.settledTo o) :=
  ⟨by simp, fun h => h.settledTo o⟩

/-! ### The discipline and the TSU -/

@[simp] theorem State.zeroLock_tsu : s.zeroLock.tsu = s.tsu := rfl
@[simp] theorem State.zeroCounters_tsu : s.zeroCounters.tsu = s.tsu := rfl
@[simp] theorem State.resetBadRun_tsu (r : RefId) : (s.resetBadRun r).tsu = s.tsu := by
  simp [State.resetBadRun]
@[simp] theorem State.resetRuns_tsu (r : RefId) : (s.resetRuns r).tsu = s.tsu := by
  simp [State.resetRuns]
@[simp] theorem State.countLock_tsu (e : Int) : (s.countLock e).tsu = s.tsu := rfl
@[simp] theorem State.countUnlock_tsu (e : Int) : (s.countUnlock e).tsu = s.tsu := rfl

@[simp] theorem State.becomesSelected_tsu : s.becomesSelected.tsu = s.tsu := by
  unfold State.becomesSelected; dsimp only; split <;> simp

@[simp] theorem State.loseRef_tsu (r : RefId) (new : RefState) : (s.loseRef r new).tsu = s.tsu := by
  simp [State.loseRef]

@[simp] theorem State.enterFailed_tsu : s.enterFailed.tsu = s.tsu := by simp [State.enterFailed]

@[simp] theorem State.lockIfReached_tsu : s.lockIfReached.tsu = s.tsu := by
  unfold State.lockIfReached; split <;> simp

@[simp] theorem State.unlockIfReached_tsu : s.unlockIfReached.tsu = s.tsu := by
  unfold State.unlockIfReached; split <;> simp

@[simp] theorem State.judgeAcquiring_tsu : s.judgeAcquiring.tsu = s.tsu := by
  unfold State.judgeAcquiring; split <;> simp

@[simp] theorem State.judgeLocked_tsu : s.judgeLocked.tsu = s.tsu := by
  unfold State.judgeLocked; split <;> simp

@[simp] theorem State.moveCandidate_tsu (r : RefId) : (s.moveCandidate r).tsu = s.tsu := by
  unfold State.moveCandidate; split <;> simp

@[simp] theorem State.expireHoldover_tsu : s.expireHoldover.tsu = s.tsu := by
  unfold State.expireHoldover; split <;> simp

/-- Entry to HOLDOVER writes the integral term (R34); the other moves write no rate. -/
theorem State.noneRemains_tsu : s.noneRemains.tsu =
    if s.rdu.tsState = .locked then s.tsu.writeRate s.osc s.rdu.integral else s.tsu := by
  unfold State.noneRemains
  dsimp only
  split <;> simp_all [State.zeroLock, State.zeroCounters, State.writeRate]

theorem State.noneRemains_runs : s.tsu.Runs s.noneRemains.tsu := by
  rw [State.noneRemains_tsu]
  split
  · exact .writeRate _ _ _
  · exact .refl _

theorem State.rejudge_runs : s.tsu.Runs s.rejudge.tsu := by
  unfold State.rejudge
  repeat' split
  all_goals
    first
    | exact .refl _
    | exact .of_eq (State.becomesSelected_tsu _)
    | exact (Tsu.Runs.of_eq (by rfl)).trans (State.noneRemains_runs _)

theorem State.badQualified_runs (r : RefId) : s.tsu.Runs (s.badQualified r).tsu := by
  unfold State.badQualified
  dsimp only
  split
  · exact (Tsu.Runs.of_eq (by simp)).trans (State.rejudge_runs _)
  · exact .of_eq (by simp)

theorem State.badMark_runs (r : RefId) : s.tsu.Runs (s.badMark r).tsu := by
  unfold State.badMark
  dsimp only
  split
  · exact .refl _
  · exact .refl _
  · exact .of_eq (by simp)
  · exact s.badQualified_runs r

theorem State.servoRun_tsu (e : Int) : (s.servoRun e).tsu = s.tsu.writeRate s.osc
    (clampSym 100000000 (clampSym 100000000 (s.rdu.integral + e * s.rdu.settings.q) +
      e * s.rdu.settings.p)) := rfl

theorem State.servoRun_runs (e : Int) : s.tsu.Runs (s.servoRun e).tsu := .writeRate _ _ _

theorem State.actLocked_runs (r : RefId) (e : Int) : s.tsu.Runs (s.actLocked r e).tsu := by
  unfold State.actLocked
  split
  · simpa using s.servoRun_runs e
  · unfold State.rejectOutlier
    exact (Tsu.Runs.of_eq (by simp)).trans (State.badQualified_runs _ r)

/-- What a step taken leaves of the TSU (R9 to R12). -/
theorem State.stepHall_tsu {v : Int} {u : State} (h : s.stepHall v = some u) :
    u.tsu = s.tsu.applyStep s.osc v := by
  unfold State.stepHall at h
  split at h
  · cases h
    simp
  · cases h

/-- What an event of the clock side may do to the TSU: rate writes and boundaries, or one step. -/
def TsuMoves (s t : State) : Prop :=
  s.tsu.Runs t.tsu ∨ ∃ v, t.tsu = s.tsu.applyStep s.osc v

theorem State.actAcquiring_tsu (r : RefId) (e : Int) : TsuMoves s (s.actAcquiring r e) := by
  unfold State.actAcquiring
  split
  · split
    · next u taken => exact .inr ⟨e, by simp [s.stepHall_tsu taken]⟩
    · unfold State.refuseStep
      exact .inl ((Tsu.Runs.of_eq (by rfl)).trans (State.badQualified_runs _ r))
  · exact .inl (by simpa using s.servoRun_runs e)

theorem State.actOnMark_tsu (r : RefId) (l o : Nat) : TsuMoves s (s.actOnMark r l o) := by
  unfold State.actOnMark
  dsimp only
  split
  · exact .inl (.of_eq (by simp))
  · split
    · exact s.actAcquiring_tsu r _
    · exact .inl (s.actLocked_runs r _)
    all_goals exact .inl (.of_eq (by simp))

@[simp] theorem State.moveCandidate_osc (r : RefId) : (s.moveCandidate r).osc = s.osc := by
  unfold State.moveCandidate; split <;> simp

theorem State.goodMark_tsu (r : RefId) (l o : Nat) : TsuMoves s (s.goodMark r l o) := by
  unfold State.goodMark
  dsimp only
  split
  · exact .inl (.refl _)
  · exact .inl (.of_eq (by simp))
  · split
    · exact .inl ((Tsu.Runs.of_eq (by simp)).trans (State.rejudge_runs _))
    · exact .inl (.of_eq (by simp))
  · split
    · simpa [TsuMoves] using (s.moveCandidate r).actOnMark_tsu r l o
    · exact .inl (.of_eq (by simp))

theorem State.markArrival_tsu (r : RefId) (o : Nat) : TsuMoves s (s.markArrival r o) := by
  unfold State.markArrival
  dsimp only
  split
  · exact .inl (.refl _)
  · split
    · exact .inl (.of_eq (by simp))
    · next l _ => simpa [TsuMoves] using (s.setRef r _).goodMark_tsu r l o
    · exact .inl ((Tsu.Runs.of_eq (by simp)).trans (State.badMark_runs _ r))

theorem State.missingMark_runs (r : RefId) : s.tsu.Runs (s.missingMark r).tsu := by
  unfold State.missingMark
  dsimp only
  split
  · exact (Tsu.Runs.of_eq (by simp)).trans (State.badMark_runs _ r)
  · exact .refl _

@[simp] theorem State.enableRef_tsu (r : RefId) : (s.enableRef r).tsu = s.tsu := by
  unfold State.enableRef; dsimp only; split <;> simp

@[simp] theorem State.disableRef_tsu (r : RefId) : (s.disableRef r).tsu = s.tsu := by
  unfold State.disableRef; dsimp only; split <;> simp

theorem State.setReference_runs (r : RefId) (enable : Bool) (priority : Nat) :
    s.tsu.Runs (s.setReference r enable priority).tsu := by
  unfold State.setReference
  refine (Tsu.Runs.of_eq ?_).trans (State.rejudge_runs _)
  cases enable <;> simp

@[simp] theorem State.waitWrap_tsu : s.waitWrap.tsu = s.tsu := by
  unfold State.waitWrap; dsimp only; split <;> simp

@[simp] theorem State.waitUntil_tsu (p : Port) (tag : Byte) (target era : Nat) :
    (State.waitUntil p tag target era s).1.tsu = s.tsu := by
  unfold State.waitUntil
  dsimp only
  repeat' split
  all_goals simp [bare]

@[simp] theorem State.huntLabel_tsu (r : RefId) : (s.huntLabel r).tsu = s.tsu := by
  simp [State.huntLabel]

@[simp] theorem State.holdLabel_tsu (r : RefId) (l q : Nat) : (s.holdLabel r l q).tsu = s.tsu := by
  unfold State.holdLabel; dsimp only; split <;> simp

@[simp] theorem State.labelByte_tsu (r : RefId) (b : Byte) : (s.labelByte r b).tsu = s.tsu := by
  unfold State.labelByte; dsimp only; repeat' split
  all_goals simp

@[simp] theorem State.abandonLabel_tsu (r : RefId) (c : AbandonCause) :
    (s.abandonLabel r c).tsu = s.tsu := by
  unfold State.abandonLabel; repeat' split
  all_goals simp

/-- Dropping a step notice that has been taken leaves the clock. -/
theorem Tsu.Runs.of_clock {t u : Tsu} (force : u.inForce = t.inForce) (older : u.older = t.older)
    (era : u.era = t.era) (wish : u.pendingRate = t.pendingRate) : t.Runs u :=
  ⟨era, fun h => ⟨by simpa [Tsu.historyFits, older] using h.history,
    by simpa [Tsu.ratesInRange, force, older, wish] using h.rates⟩⟩

theorem State.takeSduNotice_runs : s.tsu.Runs s.takeSduNotice.tsu := by
  unfold State.takeSduNotice
  split
  · exact .refl _
  · exact .of_clock (by simp [State.stepWaits]) (by simp [State.stepWaits])
      (by simp [State.stepWaits]) (by simp [State.stepWaits])

theorem State.takeEpgNotice_runs : s.tsu.Runs s.takeEpgNotice.tsu := by
  unfold State.takeEpgNotice
  split
  · exact .refl _
  · exact .of_clock rfl rfl rfl rfl

theorem Tsu.Runs.of_next {t : Tsu} {u v : State}
    (run : (Host.Outcome.next u : Host.Outcome State Fault Refusal) = .next v)
    (h : t.Runs u.tsu) : t.Runs v.tsu := Host.Outcome.next.inj run ▸ h

/-- An event of the clock side but a mark arrival takes no step. -/
theorem exec_clockEvent_runs {c : Instr} {t : State} (on : isClockEvent c = true)
    (noMark : ∀ r o, c ≠ .markArrival r o) (run : exec c s = .next t) : s.tsu.Runs t.tsu := by
  cases c with
  | rateBoundary => exact .of_next run (.settledTo _ _)
  | sduStepNotice => exact .of_next run s.takeSduNotice_runs
  | epgStepNotice => exact .of_next run s.takeEpgNotice_runs
  | epgWrap => exact .of_next run (.refl _)
  | waitOutWrap => exact .of_next run (.of_eq s.waitWrap_tsu)
  | waitOutRelease => exact .of_next run (.of_eq (State.completeWaits_tsu _ _ _ _))
  | markArrival r o => exact absurd rfl (noMark r o)
  | labelArrival r n q => exact .of_next run (.of_eq (by simp))
  | labelRecordAbandoned r cause => exact .of_next run (.of_eq (s.abandonLabel_tsu r cause))
  | labelLineByte r b => exact .of_next run (.of_eq (s.labelByte_tsu r b))
  | missingMark r =>
    exact .of_next run ((s.missingMark_runs r).trans (.of_eq (State.endEvent_sameCore _ _).tsu))
  | holdoverLimitExpiry =>
    exact .of_next run
      (.of_eq ((State.endEvent_sameCore s s.expireHoldover).tsu.trans s.expireHoldover_tsu))
  | epochBoundary => exact .of_next run (.refl _)
  | epaPulseEnd => exact .of_next run (.refl _)
  | epbPulseStart => exact .of_next run (.refl _)
  | epbPulseEnd => exact .of_next run (.refl _)
  | _ => cases on

theorem exec_markArrival_tsu {r : RefId} {o : Nat} {t : State}
    (run : exec (.markArrival r o) s = .next t) : TsuMoves s t := by
  have run : State.endEvent s (s.markArrival r o) = t := Host.Outcome.next.inj run
  rw [← run, TsuMoves, (State.endEvent_sameCore s (s.markArrival r o)).tsu]
  exact s.markArrival_tsu r o

end Sys2Proof.Machine
end

section
/-!
PROOFS. The classes of commands, and where the era and the mode move (1.5, 11.3).

Every command is an event of a link, an event of the clock side, a request, or one of nine others.
The era moves at a step only, which a mark or STEP TIME takes; the mode at SERVE, HALT and the two
resets.
-/

namespace Sys2Proof.Machine

variable (s : State) (l : Link)

/-! ### The classes of commands -/

/-- Every command by what it concerns. -/
inductive CommandClass : Instr → Prop where
  | link {c : Instr} (l : Link) (on : linkEventOf c = some l) : CommandClass c
  | clock {c : Instr} (on : isClockEvent c = true) : CommandClass c
  | request {c : Instr} (r : Request) (on : requestOf c = some r) : CommandClass c
  | mark (l : Link) (m : Mark) : CommandClass (.markFrame l m)
  | rtmStep : CommandClass .rtmStepNotice
  | repost (place : Nat) : CommandClass (.repost place)
  | coldReset (baud1 baud0 : Bool) : CommandClass (.coldReset baud1 baud0)
  | warmRestart : CommandClass .warmRestart
  | checkFail (p : Port) : CommandClass (.requestFrameCheckFail p)
  | abandoned (p : Port) (cause : AbandonCause) : CommandClass (.managementFrameAbandoned p cause)
  | replyEnd (p : Port) : CommandClass (.replyTransmissionEnd p)
  | portByte (p : Port) (b : Byte) : CommandClass (.managementPortByte p b)

theorem commandClass (c : Instr) : CommandClass c := by
  cases c with
  | markFrame l m => exact .mark l m
  | rtmStepNotice => exact .rtmStep
  | repost place => exact .repost place
  | coldReset x y => exact .coldReset x y
  | warmRestart => exact .warmRestart
  | requestFrameCheckFail p => exact .checkFail p
  | managementFrameAbandoned p cause => exact .abandoned p cause
  | replyTransmissionEnd p => exact .replyEnd p
  | managementPortByte p b => exact .portByte p b
  | _ => first | exact .link _ rfl | exact .clock rfl | exact .request _ rfl

/-! ### Ports -/

@[simp] theorem State.setPort_port_self (p : Port) : s.setPort p (s.port p) = s := by
  cases p <;> rfl

theorem PortState.beginNext_fits {x : PortState} (h : x.fits) : x.beginNext.fits := by
  obtain ⟨hq, hd⟩ := h
  unfold PortState.beginNext
  split
  · exact ⟨hq, hd⟩
  · split
    · exact ⟨hq, hd⟩
    · next q => exact ⟨by simp [q] at hq; simp; omega, hd⟩

theorem PortState.handReply_fits {x : PortState} (h : x.fits) (r : Reply) : (x.handReply r).fits := by
  unfold PortState.handReply
  split
  · exact ⟨h.1, satAdd_le _ _ _⟩
  · refine PortState.beginNext_fits ⟨?_, h.2⟩
    simp
    omega

/-- What a port keeps around a request, and what its handler keeps, is kept by the request frame. -/
theorem State.request_keeps {P Q : State → Prop} {p : Port} {kind tag : Byte} {f : Handler}
    (before : ∀ st x, ((st.port p).fits → x.fits) → P st → P (st.setPort p x))
    (after : ∀ st x, ((st.port p).fits → x.fits) → Q st → Q (st.setPort p x))
    (weaken : ∀ st, P st → Q st) (handled : ∀ st, P st → Q (f st).1) (h : P s) :
    Q (s.request p kind tag f) := by
  have hunting : P (s.hunt p) := before s _ (fun fits => ⟨fits.1, fits.2⟩) h
  unfold State.request State.dispatch
  split_ifs with restarting held full
  · exact after _ _ (fun fits => PortState.handReply_fits fits _) (weaken _ hunting)
  · exact after _ _ (fun fits => PortState.handReply_fits fits _) (weaken _ hunting)
  · exact after _ _ (fun fits => ⟨fits.1, satAdd_le _ _ _⟩) (weaken _ hunting)
  · have taken := handled _
      (before (s.hunt p) { (s.hunt p).port p with held := some (kind, tag) } id hunting)
    unfold State.takeRequest
    dsimp only
    split
    · exact after _ _ (fun fits => PortState.handReply_fits fits _) taken
    · exact after _ _ id taken

/-- What a byte on a receive line leads to: the receiver moves, or a request frame is complete. -/
theorem State.portByte_cases (p : Port) (b : Byte) :
    (∃ r, s.portByte p b = s.setPort p { s.port p with receiver := r }) ∨
      ∃ kind tag body, s.portByte p b = s.request p kind tag (handlerOf p kind tag body) := by
  have still : s = s.setPort p { s.port p with receiver := (s.port p).receiver } :=
    (s.setPort_port_self p).symm
  unfold State.portByte
  split
  · split
    · exact .inl ⟨_, rfl⟩
    · exact .inl ⟨_, still⟩
  · unfold State.assemble
    split
    · exact .inl ⟨_, still⟩
    · split_ifs
      · exact .inl ⟨_, rfl⟩
      · exact .inl ⟨_, rfl⟩
      · unfold State.frameComplete
        dsimp only
        split
        · exact .inr ⟨_, _, _, rfl⟩
        · exact .inl ⟨_, rfl⟩

theorem State.abandonFrame_cases (p : Port) (cause : AbandonCause) :
    ∃ r, s.abandonFrame p cause = s.setPort p { s.port p with receiver := r } := by
  have still : s = s.setPort p { s.port p with receiver := (s.port p).receiver } :=
    (s.setPort_port_self p).symm
  unfold State.abandonFrame
  repeat' split
  all_goals first | exact ⟨_, rfl⟩ | exact ⟨_, still⟩

/-! ### Requests of one link -/

theorem OnlyLink.dropErrorRate : OnlyLink l s (s.dropErrorRate l) := by
  unfold State.dropErrorRate
  split
  · exact .clearErrorRate l s
  · exact .refl l s

theorem OnlyLink.disableLink : OnlyLink l s (s.disableLink l) := by
  unfold State.disableLink
  dsimp only
  split
  · exact .refl l s
  · refine OnlyLink.trans ?_ (.dropErrorRate _ l)
    refine OnlyLink.trans ?_ (.setLink l _ _)
    refine OnlyLink.trans ?_ (.clearCond l _ _)
    split
    · exact .leaveUp l s _ _
    · exact (OnlyLink.setLink l s _).trans (.linkNotice l _ _)

theorem OnlyLink.enableLink : OnlyLink l s (s.enableLink l) := by
  unfold State.enableLink
  dsimp only
  split
  · exact .setLink l s _
  · exact .refl l s

theorem OnlyLink.resetLink : OnlyLink l s (s.resetLink l) := by
  unfold State.resetLink
  dsimp only
  refine OnlyLink.trans ?_ (.setLink l _ _)
  refine (OnlyLink.dropErrorRate s l).trans ?_
  split
  · exact .leaveUp l _ _ _
  · exact (OnlyLink.setLink l _ _).trans (.linkNotice l _ _)

theorem OnlyLink.setLinkRequest (enable : Bool) (n w : Nat) (c : LinkSettings) :
    OnlyLink l s (s.setLinkRequest l enable n w c) := by
  unfold State.setLinkRequest
  dsimp only
  refine OnlyLink.trans ?_ (.probeIfDue l _)
  refine OnlyLink.trans ?_ (.setEntry l _ _)
  refine (OnlyLink.setErrorRate l s n w).trans ?_
  split
  · exact .enableLink _ l
  · exact .disableLink _ l

/-! ### MARK frames -/

theorem SameAt.setSdu (m : Link) (d : Sdu) : SameAt m s (s.setSdu d) := ⟨rfl, rfl, rfl, rfl⟩

theorem SameAt.raise {m : Link} (k : CondKind) {sc : Scope} (d : Details) (h : sc ≠ .link m) :
    SameAt m s (s.raise k sc d) := ⟨by simp, by simp, by simp, s.raise_driving k d h⟩

theorem SameAt.clearCond {m : Link} (k : CondKind) {sc : Scope} (h : sc ≠ .link m) :
    SameAt m s (s.clearCond k sc) := ⟨rfl, rfl, rfl, s.clearCond_driving k h⟩

/-- Nothing but one link and its entry, the journal and the condition reporting unit has changed. -/
structure OnlyMark (l : Link) (s t : State) : Prop where
  osc : t.osc = s.osc
  tsu : t.tsu = s.tsu
  rdu : t.rdu = s.rdu
  epg : t.epg = s.epg
  rtmEra : t.rtmEra = s.rtmEra
  mgp : t.mgp = s.mgp
  choices : t.choices = s.choices
  pending : t.pending = s.pending
  waits : t.sdu.waitOuts = s.sdu.waitOuts
  journal : s.sdu.journalOrdered → t.sdu.journalOrdered
  others : ∀ m, m ≠ l → SameAt m s t

variable {l}

theorem OnlyMark.trans {s t u : State} (h : OnlyMark l s t) (k : OnlyMark l t u) : OnlyMark l s u :=
  ⟨k.osc.trans h.osc, k.tsu.trans h.tsu, k.rdu.trans h.rdu, k.epg.trans h.epg,
    k.rtmEra.trans h.rtmEra, k.mgp.trans h.mgp, k.choices.trans h.choices,
    k.pending.trans h.pending, k.waits.trans h.waits, k.journal ∘ h.journal,
    fun m hm => (h.others m hm).trans (k.others m hm)⟩

theorem OnlyLink.mark {s t : State} (h : OnlyLink l s t) : OnlyMark l s t :=
  ⟨h.core.osc, h.core.tsu, h.core.rdu, h.core.epg, h.core.rtmEra, h.core.mgp, h.core.choices,
    h.core.pending, congrArg Sdu.waitOuts h.core.sdu, fun j => h.core.sdu ▸ j, h.others⟩

theorem OnlyMark.setSdu {d : Sdu} (waits : d.waitOuts = s.sdu.waitOuts)
    (journal : s.sdu.journalOrdered → d.journalOrdered) : OnlyMark l s (s.setSdu d) :=
  ⟨rfl, rfl, rfl, rfl, rfl, rfl, rfl, rfl, waits, journal, fun m _ => .setSdu s m d⟩

theorem OnlyMark.setCru {c : Cru} (h : ∀ m, m ≠ l → c.driving m = s.cru.driving m) :
    OnlyMark l s (s.setCru c) := (OnlyLink.setCru h).mark

theorem OnlyMark.raise (k : CondKind) {sc : Scope} (d : Details) (h : ∀ m, sc ≠ .link m) :
    OnlyMark l s (s.raise k sc d) := by
  obtain ⟨c, hc⟩ := s.raise_eq k sc d
  have drives := fun m (_ : m ≠ l) => s.raise_driving k d (h m)
  rw [hc] at drives ⊢
  exact .setCru s drives

theorem OnlyMark.clearCond (k : CondKind) {sc : Scope} (h : ∀ m, sc ≠ .link m) :
    OnlyMark l s (s.clearCond k sc) :=
  .setCru s fun m _ => Cru.clear_driving _ _ (h m)

theorem cls_ne_link (c : Fin 4) (m : Link) : Scope.cls c ≠ Scope.link m := fun e => by cases e

/-- An entry appended to a journal with room keeps the order of the sequence numbers (R145, R146). -/
theorem Sdu.journalOrdered_append {d : Sdu} (h : d.journalOrdered) (room : d.isFull = false)
    (e : JournalEntry) : (d.append e).journalOrdered := by
  obtain ⟨-, next, run⟩ := h
  have room : d.journal.length < 2048 := by simpa [Sdu.isFull] using room
  refine ⟨by simp [Sdu.append]; omega, Nat.mod_lt _ (by decide), fun i hi => ?_⟩
  simp only [Sdu.append, List.length_append, List.length_singleton] at hi ⊢
  by_cases old : i < d.journal.length
  · have := run i old
    rw [List.getElem_append_left old, nextSequenceAfter]
    omega
  · have last : i = d.journal.length := by omega
    subst last
    simp [nextSequenceAfter]

theorem OnlyLink.chooseEstimate (g : Nat) : OnlyLink l s (s.chooseEstimate l g).1 := by
  unfold State.chooseEstimate
  dsimp only
  repeat' split
  all_goals first | exact .refl l s | exact .completeTrim l s _ _

theorem OnlyMark.reportDating (c : Fin 4) (era : Nat) (d : Dating) :
    OnlyMark l s (s.reportDating l c era d) := by
  unfold State.reportDating
  split
  · exact .clearCond s _ (cls_ne_link c)
  · split
    · exact .raise s _ _ (cls_ne_link c)
    · exact (OnlyLink.refl l s).mark
  · exact (OnlyLink.refl l s).mark

theorem OnlyMark.acceptMark (m : Mark) (c : Fin 4) (room : s.sdu.isFull = false) :
    OnlyMark l s (s.acceptMark l m c) := by
  unfold State.acceptMark
  dsimp only
  have chosen := OnlyLink.chooseEstimate (l := l) s m.generation.toNat
  refine OnlyMark.trans ?_ (OnlyLink.handFrame l _ _).mark
  refine OnlyMark.trans ?_ (.reportDating _ _ _ _)
  refine chosen.mark.trans (.setSdu _ rfl fun j => ?_)
  exact Sdu.journalOrdered_append j (by rw [chosen.core.sdu]; exact room) _

theorem OnlyMark.refuseFull : OnlyMark l s (s.refuseFull l) := by
  unfold State.refuseFull
  extract_lets n
  exact OnlyMark.trans (.setSdu (d := { s.sdu with journalFull := true, fullRefusals := n }) s rfl id)
    (.raise _ _ _ part_ne_link)

theorem OnlyMark.refuseMark (m : Mark) (reason : VerdictResult) :
    OnlyMark l s (s.refuseMark l m reason) := by
  unfold State.refuseMark
  dsimp only
  refine OnlyMark.trans ?_ (OnlyLink.handFrame l _ _).mark
  split
  · exact .refuseFull s
  · exact (OnlyLink.refl l s).mark

/-- An accepted MARK finds the journal with room (R132, fourth check). -/
theorem State.isFull_of_accepted {m : Mark} {routed : Bool} {c : Fin 4}
    (h : s.judgeMark l m routed = .accepted c) : s.sdu.isFull = false := by
  unfold State.judgeMark at h
  split_ifs at h with _ _ full
  · split at h <;> cases h
  · simpa using full

theorem OnlyMark.takeMark (m : Mark) (routed : Bool) : OnlyMark l s (s.takeMark l m routed) := by
  unfold State.takeMark
  split
  · exact .refuseMark s m _
  · next c accepted => exact .acceptMark s m c (s.isFull_of_accepted accepted)

theorem OnlyLink.routeMark (m : Mark) : OnlyLink l s (s.routeMark l m) := by
  unfold State.routeMark
  split
  · exact .refl l s
  · exact (OnlyLink.linkError l s).trans (.raise l _ _ _)

theorem OnlyMark.endEvent {before t : State} (h : OnlyMark l before t) :
    OnlyMark l before (State.endEvent before t) := by
  have core := State.endEvent_sameCore before t
  exact ⟨core.osc.trans h.osc, core.tsu.trans h.tsu, core.rdu.trans h.rdu, core.epg.trans h.epg,
    core.rtmEra.trans h.rtmEra, core.mgp.trans h.mgp, core.choices.trans h.choices,
    core.pending.trans h.pending, (congrArg Sdu.waitOuts core.sdu).trans h.waits,
    fun j => by rw [core.sdu]; exact h.journal j, fun m hm => (h.others m hm).trans
      (State.endEvent_sameAt before t m (h.others m hm).driving.symm)⟩

theorem OnlyMark.markFrame (m : Mark) : OnlyMark l s
    (State.endEvent s (s.goodFrame l (fun t => (t.routeMark l m).takeMark l m (t.isRouted l m)))) := by
  refine OnlyMark.endEvent ?_
  unfold State.goodFrame
  split
  · have routed := OnlyLink.routeMark (l := l) (s.setLink l { s.link l with checkRun := 0 }) m
    exact OnlyMark.trans ((OnlyLink.setLink l s _).trans routed).mark (.takeMark _ m _)
  · exact (OnlyLink.refl l s).mark

/-! ### The hall step taken by the RTM -/

theorem State.rtmStep_sameCore (n : StepNotice) : SameCore (s.setRtmEra n.era) (s.rtmStep n) := by
  unfold State.rtmStep
  have rebased := forLinks_keeps (P := SameCore (s.setRtmEra n.era))
    (f := fun l st => st.setEntry l ((st.entry l).rebase n.step))
    (fun l st hst => hst.trans (OnlyLink.setEntry l st _).core) _ (.refl _)
  refine forLinks_keeps (P := SameCore (s.setRtmEra n.era)) (fun l st hst => ?_) _ rebased
  split
  · exact hst.trans (OnlyLink.trimTest l st).core
  · exact hst

/-! ### The mode -/

theorem State.serve_sameCore : SameCore (s.setMgp { s.mgp with mode := .serving }) s.serve := by
  unfold State.serve
  split
  · exact forLinks_keeps (P := SameCore _)
      (fun l st hst => hst.trans (OnlyLink.judgeHeld l st).core) _ (.refl _)
  · next serving =>
    have same : ({ s.mgp with mode := .serving } : Mgp) = s.mgp := by simp [← serving]
    rw [same]
    exact .refl s

theorem State.halt_sameCore : SameCore (s.setMgp { s.mgp with mode := .setup }) s.halt := by
  unfold State.halt
  split
  · exact forLinks_keeps (P := SameCore _)
      (fun l st hst => hst.trans (OnlyLink.goIdle l st true).core) _ (.refl _)
  · next setup =>
    have same : ({ s.mgp with mode := .setup } : Mgp) = s.mgp := by simp [← setup]
    rw [same]
    exact .refl s

/-! ### What a request moves -/

/-- How a command may move the era and the mode: by one step where it may step, to any mode where it
may change it; the queue of commands stands. -/
structure Moves (mayStep mayTurn : Prop) (s t : State) : Prop where
  pending : t.pending = s.pending
  era : t.tsu.era = s.tsu.era ∨ mayStep ∧ t.tsu.era = nextEra s.tsu.era
  mode : t.mgp.mode = s.mgp.mode ∨ mayTurn

variable {s} {t u : State} {a b : Prop}

theorem Moves.mono {a' b' : Prop} (h : Moves a b s t) (ha : a → a') (hb : b → b') : Moves a' b' s t :=
  ⟨h.pending, h.era.imp_right (.imp_left ha), h.mode.imp_right hb⟩

/-- A command that moves neither, around one that may. -/
theorem Moves.trans (h : Moves False False s t) (k : Moves a b t u) : Moves a b s u := by
  have era : t.tsu.era = s.tsu.era := h.era.resolve_right fun x => x.1
  have mode : t.mgp.mode = s.mgp.mode := h.mode.resolve_right id
  exact ⟨k.pending.trans h.pending, era ▸ k.era, mode ▸ k.mode⟩

theorem Moves.trans_still (h : Moves a b s t) (k : Moves False False t u) : Moves a b s u := by
  have era : u.tsu.era = t.tsu.era := k.era.resolve_right fun x => x.1
  have mode : u.mgp.mode = t.mgp.mode := k.mode.resolve_right id
  exact ⟨k.pending.trans h.pending, era ▸ h.era, mode ▸ h.mode⟩

/-- A command that moves neither may have moved either. -/
theorem Moves.neither (h : Moves False False s t) : t.pending = s.pending ∧
    (t.tsu.era = s.tsu.era ∨ a) ∧ (t.mgp.mode = s.mgp.mode ∨ b) :=
  ⟨h.pending, .inl (h.era.resolve_right (·.1)), .inl (h.mode.resolve_right id)⟩

theorem SameCore.moves (h : SameCore s t) : Moves a b s t :=
  ⟨h.pending, .inl (congrArg Tsu.era h.tsu), .inl (congrArg Mgp.mode h.mgp)⟩

theorem ClockOnly.moves (h : ClockOnly s t) (k : s.tsu.Runs t.tsu) : Moves a b s t :=
  ⟨h.pending, .inl k.era, .inl h.settings.mode⟩

theorem Moves.setPort (p : Port) (x : PortState) : Moves a b s (s.setPort p x) :=
  (ClockOnly.setPort s p x).moves (.of_eq (by simp))

theorem Moves.endEvent (before : State) (h : Moves a b s t) : Moves a b s (State.endEvent before t) :=
  h.trans_still (State.endEvent_sameCore before t).moves

theorem ClockOnly.waitUntil (p : Port) (tag : Byte) (target era : Nat) (s : State) :
    ClockOnly s (State.waitUntil p tag target era s).1 := by
  unfold State.waitUntil
  dsimp only
  have wrap := ClockOnly.waitWrap s
  repeat' split
  all_goals first | exact wrap | exact wrap.trans (.setWaits _ _ s.waitWrap.sdu.lastReading)

theorem ClockOnly.enableRef (r : RefId) : ClockOnly s (s.enableRef r) := by
  unfold State.enableRef; dsimp only; split <;> exact .setRef s r _

theorem ClockOnly.disableRef (r : RefId) : ClockOnly s (s.disableRef r) := by
  unfold State.disableRef
  dsimp only
  split
  · exact (ClockOnly.loseRef s r _).trans (.setRef _ r _)
  · exact .setRef s r _

theorem ClockOnly.setReference (r : RefId) (enable : Bool) (priority : Nat) :
    ClockOnly s (s.setReference r enable priority) := by
  unfold State.setReference
  dsimp only
  refine ClockOnly.trans ?_ (.rejudge _)
  refine ClockOnly.trans ?_ (.setRef _ r _)
  split
  · exact .enableRef r
  · exact .disableRef r

/-- What a request of a kind may move: SERVE and HALT the mode, STEP TIME the era. -/
theorem RequestEffect.moves {k : Nat} (h : RequestEffect k s t) :
    Moves (k = 0x12) (k = 0x02 ∨ k = 0x03) s t := by
  have still {x : State} (h : SameCore s x) : Moves (k = 0x12) (k = 0x02 ∨ k = 0x03) s x := h.moves
  cases h with
  | nothing => exact still (.refl s)
  | serve kind =>
    refine Moves.endEvent s ?_
    exact ⟨s.serve_sameCore.pending, .inl (congrArg Tsu.era s.serve_sameCore.tsu), .inr (.inl kind)⟩
  | halt kind =>
    refine Moves.endEvent s ?_
    exact ⟨s.halt_sameCore.pending, .inl (congrArg Tsu.era s.halt_sameCore.tsu), .inr (.inr kind)⟩
  | restart => exact ⟨rfl, .inl rfl, .inl rfl⟩
  | domain id inst => exact ⟨rfl, .inl rfl, .inl rfl⟩
  | rate v => exact (ClockOnly.writeRate s v).moves (.writeRate _ _ _)
  | stepTime kind v u taken =>
    have clock := ClockOnly.stepHall s taken
    exact Moves.endEvent s ⟨clock.pending, .inr ⟨kind, by simp [s.stepHall_tsu taken]⟩,
      .inl clock.settings.mode⟩
  | timescale d u b =>
    refine Moves.endEvent s ?_
    refine (((ClockOnly.setRdu s _).trans (.setTsu _ _)).trans (.expireHoldover _)).moves ?_
    exact .of_clock (by simp) (by simp) (by simp) (by simp)
  | reference r enable priority =>
    exact Moves.endEvent s ((ClockOnly.setReference r enable priority).moves
      (s.setReference_runs r enable priority))
  | outputs g => exact ⟨rfl, .inl rfl, .inl rfl⟩
  | link l enable n w c => exact still (OnlyLink.setLinkRequest s l enable n w c).endEvent.core
  | range l first last => exact still (OnlyLink.setLink l s _).core
  | resetLink l => exact still (OnlyLink.resetLink s l).endEvent.core
  | clearQuarantine l => exact still (OnlyLink.goIdle l s false).endEvent.core
  | limits l x => exact still (OnlyLink.setDrift l s _).core
  | allLimits x =>
    exact still (forLinks_keeps (P := SameCore s)
      (fun l st hst => hst.trans (OnlyLink.setDrift l st _).core) s (.refl s))
  | window w x => exact ⟨rfl, .inl rfl, .inl rfl⟩
  | cls c x =>
    refine Moves.endEvent s ?_
    unfold State.writeClass
    dsimp only
    split <;> exact ⟨rfl, .inl rfl, .inl rfl⟩
  | drain n =>
    refine Moves.endEvent s ?_
    rw [State.settleJournal_frame]
    exact ⟨rfl, .inl rfl, .inl rfl⟩
  | wait p tag target era =>
    exact (ClockOnly.waitUntil p tag target era s).moves (.of_eq (by simp))
  | take p => exact Moves.endEvent s ⟨rfl, .inl rfl, .inl rfl⟩
  | mask p m => exact Moves.endEvent s ⟨rfl, .inl rfl, .inl rfl⟩
  | recording x on repressible => exact Moves.endEvent s ⟨rfl, .inl rfl, .inl rfl⟩
  | action sel drift a => exact Moves.endEvent s ⟨rfl, .inl rfl, .inl rfl⟩
  | repost interval => exact Moves.endEvent s ⟨rfl, .inl rfl, .inl rfl⟩

theorem State.request_moves {p : Port} {kind tag : Byte} {k : Nat} {f : Handler} (does : f.Does k) :
    Moves (k = 0x12) (k = 0x02 ∨ k = 0x03) s (s.request p kind tag f) :=
  State.request_keeps (P := Moves False False s) s
    (fun _ _ _ h => h.trans_still (.setPort p _)) (fun _ _ _ h => h.trans_still (.setPort p _))
    (fun _ h => h.mono False.elim False.elim) (fun st h => h.trans (does st).moves)
    (SameCore.refl s).moves

/-! ### The two resets and the ends of replies -/

theorem State.warmRestart_moves (p : Port) :
    Moves False True s (s.warmRestart p) ∧ (s.warmRestart p).mgp.mode = .setup := by
  have waits : ClockOnly (s.warmBlocks p) (s.warmBlocks p).abortWaits := .completeWaits _ _ _ _
  have ends := (waits.trans (.raise _ .restarted
    { era := some (s.warmBlocks p).abortWaits.tsu.era } part_ne_link)).trans (.settleCru _)
  have tsu : (s.warmRestart p).tsu = s.tsu := by
    simp [State.warmRestart, State.abortWaits, State.warmBlocks]
  exact ⟨⟨ends.pending, .inl (congrArg Tsu.era tsu), .inr trivial⟩, ends.settings.mode⟩

theorem exec_warmRestart_moves (run : exec .warmRestart s = .next t) :
    Moves False True s t ∧ (t.mgp.mode = s.mgp.mode ∨ t.mgp.mode = .setup) := by
  cases port : s.restartPort with
  | none =>
    rw [exec_warmRestart_of_no_port s port] at run
    exact Host.Outcome.next.inj run ▸ ⟨(SameCore.refl s).moves, .inl rfl⟩
  | some p =>
    rw [exec_warmRestart_of_port s port] at run
    exact Host.Outcome.next.inj run ▸ ⟨(s.warmRestart_moves p).1, .inr (s.warmRestart_moves p).2⟩

theorem State.replyEnds_moves (s : State) (p : Port) : Moves False True s (s.replyEnds p) ∧
    ((s.replyEnds p).mgp.mode = s.mgp.mode ∨ (s.replyEnds p).mgp.mode = .setup) := by
  unfold State.replyEnds
  split
  · exact ⟨(SameCore.refl s).moves, .inl rfl⟩
  · split_ifs
    · exact ⟨(s.warmRestart_moves p).1, .inr (s.warmRestart_moves p).2⟩
    · exact ⟨.setPort p _, .inl (ClockOnly.setPort s p _).settings.mode⟩

/-- The hall step taken by the RTM uses up its notice and touches what `rtmStep` touches. -/
theorem State.takeRtmNotice_moves (s : State) : Moves a b s s.takeRtmNotice := by
  unfold State.takeRtmNotice
  split
  · exact (SameCore.refl s).moves
  · next n rest _ =>
    exact Moves.trans (t := (s.setTsu { s.tsu with rtmNotices := rest }).setRtmEra n.era)
      ⟨rfl, .inl rfl, .inl rfl⟩ (State.rtmStep_sameCore _ n).moves

/-- A request moves the era as STEP TIME alone, the mode as SERVE or HALT alone. -/
theorem exec_request_moves {c : Instr} {r : Request} (on : requestOf c = some r)
    (run : exec c s = .next t) :
    Moves (∃ p tag body, c = .stepTime p tag body)
      ((∃ p tag body, c = .serve p tag body) ∨ ∃ p tag body, c = .halt p tag body) s t := by
  obtain ⟨f, does, runs⟩ := exec_request_does on
  have moves := State.request_moves (s := s) (p := r.port) (kind := r.kind) (tag := r.tag) does
  rw [Host.Outcome.next.inj ((runs s).symm.trans run)] at moves
  cases c with
  | unknownRequest p kind tag body =>
    have moves := State.request_moves (s := s) (p := p) (kind := kind) (tag := tag)
      (unknownHandler_does (k := 0))
    rw [Host.Outcome.next.inj run] at moves
    exact moves.mono (fun h => absurd h (by decide)) fun h => absurd h (by decide)
  | stepTime p tag body =>
    cases on
    exact moves.mono (fun _ => ⟨_, _, _, rfl⟩) fun h => by simp at h
  | serve p tag body =>
    cases on
    exact moves.mono (fun h => by simp at h) fun _ => .inl ⟨_, _, _, rfl⟩
  | halt p tag body =>
    cases on
    exact moves.mono (fun h => by simp at h) fun _ => .inr ⟨_, _, _, rfl⟩
  | _ => cases on <;> exact moves.mono (fun h => by simp at h) fun h => by simp at h

theorem State.portByte_moves (s : State) (p : Port) (b : Byte) : Moves True True s (s.portByte p b) := by
  obtain ⟨r, h⟩ | ⟨kind, tag, body, h⟩ := s.portByte_cases p b
  · exact h ▸ .setPort p _
  · exact h ▸ (State.request_moves (handlerOf_does p tag body kind)).mono (fun _ => trivial)
      (fun _ => trivial)

/-- Settles O57: by the class of the command; only a mark arrival and STEP TIME step, only SERVE,
HALT and the resets turn the mode, and a byte may complete any request. -/
theorem eraAndModeMoves : Obligations.EraAndModeMoves := by
  intro c s t run
  cases commandClass c with
  | link l on =>
    exact Moves.neither (OnlyLink.of_linkEvent on run).core.moves
  | clock on =>
    have clock := ClockOnly.of_clockEvent on run
    refine ⟨clock.pending, ?_, .inl clock.settings.mode⟩
    by_cases mark : ∃ r o, c = .markArrival r o
    · obtain ⟨r, o, rfl⟩ := mark
      obtain runs | ⟨v, stepped⟩ := exec_markArrival_tsu s run
      · exact .inl runs.era
      · exact .inr (.inl ⟨by rw [stepped, Tsu.applyStep_era]; rfl, .inl ⟨r, o, rfl⟩⟩)
    · exact .inl (exec_clockEvent_runs s on (fun r o e => mark ⟨r, o, e⟩) run).era
  | request r on =>
    have moves := exec_request_moves on run
    exact ⟨moves.pending, moves.era.imp_right fun ⟨step, e⟩ => .inl ⟨e, .inr (.inl step)⟩,
      moves.mode.imp_right fun turn => turn.imp_right .inl⟩
  | mark l m =>
    have mark : OnlyMark l s t := Host.Outcome.next.inj run ▸ OnlyMark.markFrame s m
    exact ⟨mark.pending, .inl (congrArg Tsu.era mark.tsu), .inl (congrArg Mgp.mode mark.mgp)⟩
  | rtmStep =>
    exact Moves.neither (Host.Outcome.next.inj run ▸ s.takeRtmNotice_moves.endEvent s)
  | repost place =>
    exact Moves.neither (Host.Outcome.next.inj run ▸ Moves.endEvent s ⟨rfl, .inl rfl, .inl rfl⟩)
  | coldReset x y =>
    cases run
    exact ⟨rfl, .inr (.inr ⟨rfl, x, y, rfl⟩), .inr (.inr (.inr (.inr ⟨rfl, .inr (.inr ⟨x, y, rfl⟩)⟩)))⟩
  | warmRestart =>
    obtain ⟨moves, mode⟩ := exec_warmRestart_moves run
    exact ⟨moves.pending, .inl (moves.era.resolve_right (·.1)), mode.imp_right fun setup =>
      .inr (.inr (.inr ⟨setup, .inl rfl⟩))⟩
  | checkFail p =>
    exact Moves.neither (Host.Outcome.next.inj run ▸ .setPort p _)
  | abandoned p cause =>
    obtain ⟨r, h⟩ := s.abandonFrame_cases p cause
    exact Moves.neither (Host.Outcome.next.inj run ▸ h ▸ .setPort p _)
  | replyEnd p =>
    have ends := s.replyEnds_moves p
    rw [Host.Outcome.next.inj run] at ends
    obtain ⟨moves, mode⟩ := ends
    exact ⟨moves.pending, .inl (moves.era.resolve_right (·.1)), mode.imp_right fun setup =>
      .inr (.inr (.inr ⟨setup, .inr (.inl ⟨p, rfl⟩)⟩))⟩
  | portByte p b =>
    have moves := s.portByte_moves p b
    rw [Host.Outcome.next.inj run] at moves
    exact ⟨moves.pending, moves.era.imp_right fun e => .inl ⟨e.2, .inr (.inr ⟨p, b, rfl⟩)⟩,
      moves.mode.imp_right fun _ => .inr (.inr (.inl ⟨p, b, rfl⟩))⟩

end Sys2Proof.Machine
end

section
/-!
PROOFS. What an event may do to the part, one write at a time.

`Acts` closes the writes an operation of the model is made of. Every write keeps the bounds of the
tables; with the leave `sound` it keeps rack service sound as well. The leaves `flags`, `drift` and
`eases` say which events may write the action flags, move a drift condition or clear the error rate:
what the flags follow at the end of an event is read off from them.
-/

namespace Sys2Proof.Machine

/-! ### The condition reporting unit -/

/-- R162: the bound of the condition list, and the reserved slot apart. -/
structure Cru.Fits (c : Cru) : Prop where
  list : c.listFits
  slot : c.SlotApart

variable {c : Cru}

theorem Cru.Fits.of_records {d : Cru} (h : c.Fits) (list : d.list = c.list)
    (slot : d.reserved = c.reserved) : d.Fits :=
  ⟨by simpa [Cru.listFits, list] using h.list, ⟨list ▸ h.slot.list, slot ▸ h.slot.slot⟩⟩

@[simp] theorem Cru.activate_list (k : CondKind) (sc : Scope) : (c.activate k sc).list = c.list := by
  unfold Cru.activate; split <;> rfl

@[simp] theorem Cru.activate_reserved (k : CondKind) (sc : Scope) :
    (c.activate k sc).reserved = c.reserved := by
  unfold Cru.activate; split <;> rfl

@[simp] theorem Cru.noteLinkDown_list (k : CondKind) (sc : Scope) (now : Nat) :
    (c.noteLinkDown k sc now).list = c.list := by
  unfold Cru.noteLinkDown; split <;> rfl

@[simp] theorem Cru.noteLinkDown_reserved (k : CondKind) (sc : Scope) (now : Nat) :
    (c.noteLinkDown k sc now).reserved = c.reserved := by
  unfold Cru.noteLinkDown; split <;> rfl

theorem updateFirst_eq_some {α : Type} {test : α → Bool} {f : α → α} {l l' : List α}
    (h : updateFirst test f l = some l') :
    ∃ a x b, l = a ++ x :: b ∧ test x = true ∧ l' = a ++ f x :: b := by
  induction l generalizing l' with
  | nil => cases h
  | cons y ys ih =>
    unfold updateFirst at h
    split at h
    · next met => cases h; exact ⟨[], y, ys, rfl, met, rfl⟩
    · obtain ⟨m, hm, rfl⟩ := Option.map_eq_some_iff.mp h
      obtain ⟨a, x, b, rfl, met, rfl⟩ := ih hm
      exact ⟨y :: a, x, b, rfl, met, rfl⟩

theorem removeFirst_eq_some {α : Type} {test : α → Bool} {l l' : List α}
    (h : removeFirst test l = some l') : ∃ a x b, l = a ++ x :: b ∧ l' = a ++ b := by
  induction l generalizing l' with
  | nil => cases h
  | cons y ys ih =>
    unfold removeFirst at h
    split at h
    · cases h; exact ⟨[], y, ys, rfl, rfl⟩
    · obtain ⟨m, hm, rfl⟩ := Option.map_eq_some_iff.mp h
      obtain ⟨a, x, b, rfl, rfl⟩ := ih hm
      exact ⟨y :: a, x, b, rfl, rfl⟩

theorem Cru.Fits.raiseListFull (h : c.Fits) (now : Reading) : (c.raiseListFull now).Fits := by
  refine ⟨by simpa [Cru.raiseListFull, Cru.listFits] using h.list, ⟨?_, fun r hr => ?_⟩⟩
  · simpa [Cru.raiseListFull] using h.slot.list
  · simp only [Cru.raiseListFull, Cru.activate_reserved, Option.some.injEq] at hr
    subst hr
    split
    · exact ⟨rfl, rfl⟩
    · next r held =>
      have apart := h.slot.slot r held
      repeat' split
      all_goals exact apart

theorem Cru.Fits.appendRecord (h : c.Fits) {r : CondRecord} (apart : r.kind ≠ .conditionListFull) :
    (c.appendRecord r).Fits := by
  have add {l : List CondRecord} (len : l.length < 64) (sub : ∀ x ∈ l, x ∈ c.list) :
      Cru.Fits (if c.needed r then { c with list := l ++ [r] } else { c with list := l }) := by
    split
    · refine ⟨by simp [Cru.listFits]; omega, ⟨fun x hx => ?_, h.slot.slot⟩⟩
      obtain hx | hx := List.mem_append.mp hx
      · exact h.slot.list x (sub x hx)
      · exact List.mem_singleton.mp hx ▸ apart
    · exact ⟨by simp [Cru.listFits]; omega, ⟨fun x hx => h.slot.list x (sub x hx), h.slot.slot⟩⟩
  have bound : c.list.length ≤ 64 := h.list
  unfold Cru.appendRecord
  dsimp only
  split
  · next room => exact add room fun _ => id
  · split
    · next l gone =>
      obtain ⟨a, x, b, before, rfl⟩ := removeFirst_eq_some gone
      simp only [before, List.length_append, List.length_cons] at bound
      refine add (by simp; omega) fun y hy => ?_
      rw [before]
      simp only [List.mem_append, List.mem_cons] at hy ⊢
      tauto
    · refine Cru.Fits.raiseListFull ?_ _
      exact h.of_records rfl rfl

theorem Cru.Fits.post (h : c.Fits) {k : CondKind} (apart : k ≠ .conditionListFull) (sc : Scope)
    (d : Details) (now : Reading) (anc : Bool) : (c.post k sc d now anc).Fits := by
  unfold Cru.post
  split
  · next l folded =>
    obtain ⟨a, x, b, before, -, rfl⟩ := updateFirst_eq_some folded
    have bound : c.list.length ≤ 64 := h.list
    refine ⟨by simp [Cru.listFits, before] at bound ⊢; omega, ⟨fun y hy => ?_, h.slot.slot⟩⟩
    have old := h.slot.list
    rw [before] at old
    simp only [List.mem_append, List.mem_cons] at hy old
    obtain hy | rfl | hy := hy
    · exact old y (.inl hy)
    · exact old x (.inr (.inl rfl))
    · exact old y (.inr (.inr hy))
  · exact h.appendRecord apart

theorem Cru.clearIn_some {k : CondKind} {sc : Scope} {r x : CondRecord}
    (h : c.clearIn k sc r = some x) : x.kind = r.kind ∧ x.scope = r.scope := by
  unfold Cru.clearIn Cru.clearRecord at h
  dsimp only at h
  split_ifs at h <;> cases h <;> exact ⟨rfl, rfl⟩

theorem Cru.Fits.clear (h : c.Fits) (k : CondKind) (sc : Scope) : (c.clear k sc).Fits := by
  unfold Cru.clear
  split
  · refine ⟨(List.length_filterMap_le _ _).trans h.list, ⟨fun r hr => ?_, fun r hr => ?_⟩⟩
    · obtain ⟨x, hx, kept⟩ := List.mem_filterMap.mp hr
      exact (Cru.clearIn_some kept).1 ▸ h.slot.list x hx
    · obtain ⟨x, hx, kept⟩ := Option.bind_eq_some_iff.mp hr
      obtain ⟨kind, scope⟩ := Cru.clearIn_some kept
      exact kind ▸ scope ▸ h.slot.slot x hx
  · exact h

theorem Cru.Fits.settle (h : c.Fits) : c.settleListFull.driveAttention.Fits := by
  have settled : c.settleListFull.Fits := by
    unfold Cru.settleListFull
    split
    · exact (h.clear .conditionListFull .part).of_records rfl rfl
    · exact h
  exact settled.of_records rfl rfl

/-! ### Entries -/

/-- An entry out of service has no probe and no trim in flight (R79, R89, R96). -/
def RackEntry.Quiet (e : RackEntry) : Prop :=
  e.state.inService = false → e.probe = none ∧ e.trim = none

/-- A write to an entry that keeps the bounds of its tables and its action flags. -/
structure RackEntry.Keeps (e e' : RackEntry) : Prop where
  window : e.windowFits → e'.windowFits
  drift : e.driftsFit → e'.driftsFit
  degrade : e'.degrade = e.degrade
  isolate : e'.isolate = e.isolate

/-- A write to an entry that brings nothing into service. -/
structure RackEntry.Serves (e e' : RackEntry) : Prop where
  stays : e'.state.inService = true → e.state.inService = true ∧ e'.identity = e.identity
  quiet : e.Quiet → e'.Quiet

/-! ### Events -/

/-- Whether a kind is one of the two drift kinds that drive the action flags (R168). -/
def CondKind.isDrift (k : CondKind) : Prop := k = .driftWatch ∨ k = .driftAlarm

/-- What an event has leave to do: to move the drift conditions, to clear the error rate, to write the
action flags; and whether what it does is to keep rack service sound. -/
structure Leave where
  drift : Prop
  eases : Prop
  flags : Prop
  sound : Prop

/-- The writes of an event that has a leave. -/
inductive Acts (p : Leave) : State → State → Prop where
  | refl (s : State) : Acts p s s
  | trans {s t u : State} (h : Acts p s t) (k : Acts p t u) : Acts p s u
  | setLink (s : State) (l : Link) (r : LinkRecord) (fits : (s.link l).fits → r.fits) :
      Acts p s (s.setLink l r)
  | setEntry (s : State) (l : Link) (e : RackEntry) (keeps : (s.entry l).Keeps e)
      (serves : p.sound → (s.entry l).Serves e) : Acts p s (s.setEntry l e)
  | setFlags (leave : p.flags) (s : State) (l : Link) (d i : Bool) :
      Acts p s (s.setEntry l { s.entry l with degrade := d, isolate := i })
  | enroll (s : State) (l : Link) (h : Hello) (free : s.helloFailure l h = none)
      (serving : s.mgp.mode = .serving) : Acts p s (s.setEntry l ((s.entry l).attach h s.osc))
  | setDrift (s : State) (l : Link) (d : DriftRecord) : Acts p s (s.setDrift l d)
  | raise (s : State) (k : CondKind) (sc : Scope) (d : Details) (f : Bool)
      (apart : k ≠ .conditionListFull) (leave : k.isDrift → p.drift) :
      Acts p s (s.raiseWith k sc d f)
  | clear (s : State) (k : CondKind) (sc : Scope) (drift : k.isDrift → p.drift)
      (eases : k = .linkErrorRate → p.eases) : Acts p s (s.clearCond k sc)
  | settle (s : State) : Acts p s s.settleCru
  | setCru (drift : p.drift) (eases : p.eases) (s : State) (c : Cru) (fits : s.cru.Fits → c.Fits) :
      Acts p s (s.setCru c)
  | setTsu (s : State) (t : Tsu) (bounded : s.tsu.Bounded → t.Bounded) : Acts p s (s.setTsu t)
  | setRdu (s : State) (r : Rdu) : Acts p s (s.setRdu r)
  | setEpg (s : State) (g : Epg) : Acts p s (s.setEpg g)
  | setRtmEra (s : State) (n : Nat) : Acts p s (s.setRtmEra n)
  | setSdu (s : State) (d : Sdu) (journal : s.sdu.journalOrdered → d.journalOrdered)
      (waits : s.sdu.waitsFit → d.waitsFit) : Acts p s (s.setSdu d)
  | setPort (s : State) (q : Port) (x : PortState) (fits : (s.port q).fits → x.fits) :
      Acts p s (s.setPort q x)
  | setMgp (s : State) (m : Mgp) (a : m.portA = s.mgp.portA) (b : m.portB = s.mgp.portB)
      (mode : m.mode = s.mgp.mode ∨ m.mode = .serving) : Acts p s (s.setMgp m)

variable {p : Leave} {s t : State}

/-! ### The bounds are kept -/

theorem InBounds.cruFits (h : InBounds s) : s.cru.Fits := ⟨h.conditions, h.slot⟩

theorem InBounds.setLink (h : InBounds s) {l : Link} {r : LinkRecord} (fits : r.fits) :
    InBounds (s.setLink l r) := by
  refine { h with ports := fun q => by simpa using h.ports q, links := fun m => ?_ }
  by_cases hm : m = l
  · subst hm; simpa using fits
  · rw [State.link_setLink_ne _ _ _ _ hm]; exact h.links m

theorem InBounds.setEntry (h : InBounds s) {l : Link} {e : RackEntry} (window : e.windowFits)
    (drift : e.driftsFit) : InBounds (s.setEntry l e) := by
  refine { h with ports := fun q => by simpa using h.ports q, windows := fun m => ?_, drifts := fun m => ?_ }
  all_goals
    by_cases hm : m = l
    · subst hm; simpa
    · rw [State.entry_setEntry_ne _ _ _ _ hm]; first | exact h.windows m | exact h.drifts m

theorem InBounds.setCru (h : InBounds s) {c : Cru} (fits : c.Fits) : InBounds (s.setCru c) :=
  { h with
    ports := fun q => by simpa using h.ports q
    conditions := fits.list
    slot := fits.slot }

theorem RackEntry.carried_rho {e : RackEntry} {h : Hello} {x : Estimate} (carried : e.carried h = some x) :
    ∃ y, e.current = some y ∧ x.rho = y.rho := by
  unfold RackEntry.carried at carried
  split at carried
  · obtain ⟨y, hy, rfl⟩ := Option.map_eq_some_iff.mp carried
    exact ⟨y, hy, rfl⟩
  · cases carried

/-- An attachment empties the window and at most carries the current estimate (R78). -/
theorem RackEntry.attach_fits {e : RackEntry} (h : Hello) (now : Nat) (drift : e.driftsFit) :
    (e.attach h now).windowFits ∧ (e.attach h now).driftsFit := by
  refine ⟨by simp [RackEntry.windowFits, RackEntry.attach], fun x hx => ?_⟩
  simp only [RackEntry.attach, Option.toList_none, List.append_nil, Option.mem_toList] at hx
  obtain ⟨y, hy, same⟩ := RackEntry.carried_rho hx
  exact same ▸ drift y (by simp [hy])

theorem Acts.inBounds (acts : Acts p s t) : InBounds s → InBounds t := by
  induction acts with
  | refl s => exact id
  | trans _ _ first second => exact second ∘ first
  | setLink s l r fits => exact fun h => h.setLink (fits (h.links l))
  | setEntry s l e keeps serves =>
    exact fun h => h.setEntry (keeps.window (h.windows l)) (keeps.drift (h.drifts l))
  | setFlags leave s l d i =>
    exact fun h => h.setEntry (e := { s.entry l with degrade := d, isolate := i }) (h.windows l)
      (h.drifts l)
  | enroll s l h free serving =>
    intro b
    obtain ⟨window, drift⟩ := RackEntry.attach_fits h s.osc (b.drifts l)
    exact b.setEntry window drift
  | setDrift s l d => exact fun h => { h with ports := fun q => by simpa using h.ports q }
  | raise s k sc d f apart leave =>
    intro h
    unfold State.raiseWith
    split
    · refine h.setCru (Cru.Fits.post ?_ apart _ _ _ _)
      exact h.cruFits.of_records (by simp) (by simp)
    · exact h
  | clear s k sc drift eases => exact fun h => h.setCru (h.cruFits.clear k sc)
  | settle s => exact fun h => h.setCru h.cruFits.settle
  | setCru drift eases s c fits => exact fun h => h.setCru (fits h.cruFits)
  | setTsu s t bounded =>
    intro h
    obtain ⟨history, rates⟩ := bounded ⟨h.history, h.rates⟩
    exact { h with ports := fun q => by simpa using h.ports q, history := history, rates := rates }
  | setRdu s r => exact fun h => { h with ports := fun q => by simpa using h.ports q }
  | setEpg s g => exact fun h => { h with ports := fun q => by simpa using h.ports q }
  | setRtmEra s n => exact fun h => { h with ports := fun q => by simpa using h.ports q }
  | setSdu s d journal waits =>
    exact fun h => { h with
      ports := fun q => by simpa using h.ports q
      journal := journal h.journal
      waits := waits h.waits }
  | setPort s q x fits =>
    intro h
    have ports (r : Port) : ((s.setPort q x).port r).fits := by
      by_cases hr : r = q
      · subst hr; simpa using fits (h.ports r)
      · rw [State.port_setPort_ne _ _ _ _ hr]; exact h.ports r
    exact ⟨by simpa using h.journal, by simpa using h.conditions, by simpa using h.slot,
      by simpa using h.waits, ports, by simpa using h.links, by simpa using h.windows,
      by simpa using h.drifts, by simpa using h.history, by simpa using h.rates⟩
  | setMgp s m a b mode =>
    intro h
    refine { h with ports := fun q => ?_ }
    cases q
    · exact (congrArg PortState.fits a).mpr (h.ports .a)
    · exact (congrArg PortState.fits b).mpr (h.ports .b)

/-! ### Rack service is kept sound -/

/-- Rack service but for the action flags: one holder of each identity, service in SERVING alone, and
nothing in flight out of service. -/
structure Service (s : State) : Prop where
  oneHolder : ∀ l m id, s.inService l = true → s.inService m = true →
    (s.entry l).identity = some id → (s.entry m).identity = some id → l = m
  serving : ∀ l, s.inService l = true → s.mgp.mode = .serving
  quiet : ∀ l, (s.entry l).Quiet

theorem SoundService.service (h : SoundService s) : Service s := ⟨h.oneHolder, h.serving, h.quiet⟩

theorem Service.of_entries (h : Service s) (entries : t.entries = s.entries)
    (mode : t.mgp.mode = s.mgp.mode ∨ t.mgp.mode = .serving) : Service t := by
  have entry (m : Link) : t.entry m = s.entry m := by simp [State.entry, entries]
  have service (m : Link) : t.inService m = s.inService m := by simp [State.inService, entry]
  refine ⟨fun l m id hl hm => ?_, fun l hl => ?_, fun l => ?_⟩
  · rw [entry, entry]
    exact h.oneHolder l m id (service l ▸ hl) (service m ▸ hm)
  · obtain same | turned := mode
    · exact same ▸ h.serving l (service l ▸ hl)
    · exact turned
  · rw [entry]
    exact h.quiet l

theorem State.inService_setEntry_same (l : Link) (e : RackEntry) :
    (s.setEntry l e).inService l = e.state.inService := by simp [State.inService]

theorem State.inService_setEntry_ne {l m : Link} (hm : m ≠ l) (e : RackEntry) :
    (s.setEntry l e).inService m = s.inService m := by
  simp [State.inService, State.entry_setEntry_ne s l m e hm]

/-- A write to one entry keeps service sound when the identity it puts in service is free and the
part is SERVING. -/
theorem Service.setEntry (h : Service s) {l : Link} {e : RackEntry}
    (free : e.state.inService = true → ∀ m id, m ≠ l → s.inService m = true →
      e.identity = some id → (s.entry m).identity ≠ some id)
    (serving : e.state.inService = true → s.mgp.mode = .serving) (quiet : e.Quiet) :
    Service (s.setEntry l e) := by
  refine ⟨fun a b id ha hb ia ib => ?_, fun a ha => ?_, fun a => ?_⟩
  · by_cases al : a = l <;> by_cases bl : b = l
    · rw [al, bl]
    · subst al
      rw [State.inService_setEntry_same] at ha
      rw [State.inService_setEntry_ne bl] at hb
      rw [State.entry_setEntry_same] at ia
      rw [State.entry_setEntry_ne _ _ _ _ bl] at ib
      exact absurd ib (free ha b id bl hb ia)
    · subst bl
      rw [State.inService_setEntry_same] at hb
      rw [State.inService_setEntry_ne al] at ha
      rw [State.entry_setEntry_same] at ib
      rw [State.entry_setEntry_ne _ _ _ _ al] at ia
      exact absurd ia (free hb a id al ha ib)
    · rw [State.inService_setEntry_ne al] at ha
      rw [State.inService_setEntry_ne bl] at hb
      rw [State.entry_setEntry_ne _ _ _ _ al] at ia
      rw [State.entry_setEntry_ne _ _ _ _ bl] at ib
      exact h.oneHolder a b id ha hb ia ib
  · by_cases al : a = l
    · subst al
      exact serving (by rwa [State.inService_setEntry_same] at ha)
    · exact h.serving a (by rwa [State.inService_setEntry_ne al] at ha)
  · by_cases al : a = l
    · subst al; simpa using quiet
    · rw [State.entry_setEntry_ne _ _ _ _ al]; exact h.quiet a

/-- The identity of a HELLO that fails none of the checks is held by no other entry in service
(R77). -/
theorem State.not_held_of_helloFailure {l m : Link} {h : Hello} (free : s.helloFailure l h = none)
    (hm : m ≠ l) (service : s.inService m = true) : (s.entry m).identity ≠ some h.identity.toNat := by
  unfold State.helloFailure at free
  dsimp only at free
  split_ifs at free with twin wrong held isolated
  intro same
  refine held (List.any_eq_true.mpr ⟨m, List.mem_finRange m, ?_⟩)
  simp [hm, service, same]

theorem Acts.service (acts : Acts p s t) (sound : p.sound) : Service s → Service t := by
  induction acts with
  | refl s => exact id
  | trans _ _ first second => exact second ∘ first
  | setEntry s l e keeps serves =>
    intro h
    obtain ⟨stays, quiet⟩ := serves sound
    refine h.setEntry (fun inService m id hm hs he same => ?_) (fun inService => ?_)
      (quiet (h.quiet l))
    · obtain ⟨was, identity⟩ := stays inService
      exact hm (h.oneHolder m l id hs was same (identity ▸ he))
    · exact h.serving l (stays inService).1
  | setFlags leave s l d i =>
    intro h
    refine h.setEntry (fun inService m id hm hs he same => ?_) (h.serving l) (h.quiet l)
    exact hm (h.oneHolder m l id hs inService same he)
  | enroll s l h free serving =>
    intro k
    refine k.setEntry (fun _ m id hm hs he => ?_) (fun _ => serving) fun out => by cases out
    cases he
    exact State.not_held_of_helloFailure free hm hs
  | raise s k sc d f apart leave => exact fun h => h.of_entries (by simp) (.inl (by simp))
  | setPort s q x fits => exact fun h => h.of_entries (by simp) (.inl (by simp))
  | setMgp s m a b mode => exact fun h => h.of_entries rfl mode
  | _ => exact fun h => h.of_entries rfl (.inl rfl)

/-! ### The action flags and what drives them -/

/-- An event without leave to write the action flags leaves them. -/
theorem Acts.flags (acts : Acts p s t) (held : ¬ p.flags) (m : Link) :
    (t.entry m).degrade = (s.entry m).degrade ∧ (t.entry m).isolate = (s.entry m).isolate := by
  induction acts with
  | refl s => exact ⟨rfl, rfl⟩
  | trans _ _ first second => exact ⟨second.1.trans first.1, second.2.trans first.2⟩
  | setEntry s l e keeps serves =>
    by_cases hm : m = l
    · subst hm; simpa using ⟨keeps.degrade, keeps.isolate⟩
    · rw [State.entry_setEntry_ne _ _ _ _ hm]; exact ⟨rfl, rfl⟩
  | setFlags leave s l d i => exact absurd leave held
  | enroll s l h free serving =>
    by_cases hm : m = l
    · subst hm; simp [RackEntry.attach]
    · rw [State.entry_setEntry_ne _ _ _ _ hm]; exact ⟨rfl, rfl⟩
  | raise s k sc d f apart leave => simp
  | setPort s q x fits => simp
  | _ => exact ⟨rfl, rfl⟩

theorem State.raiseWith_isActive (s : State) (k k' : CondKind) (sc : Scope) (d : Details) (f : Bool)
    (m : Link) : (s.raiseWith k sc d f).cru.isActive k' (.link m) =
      (if s.cru.records? k then s.cru.activate k sc else s.cru).isActive k' (.link m) := by
  unfold State.raiseWith
  split
  · rw [State.setCru_cru, Cru.isActive_post_link]
    simp [Cru.isActive]
  · rfl

@[simp] theorem State.raiseWith_actions (s : State) (k : CondKind) (sc : Scope) (d : Details) (f : Bool) :
    (s.raiseWith k sc d f).cru.actions = s.cru.actions := by
  unfold State.raiseWith
  split <;> simp

theorem Cru.isActive_activate_mono {k k' : CondKind} {sc sc' : Scope} (h : c.isActive k' sc' = true) :
    (c.activate k sc).isActive k' sc' = true := by
  unfold Cru.activate
  split
  · simp_all [Cru.isActive]
  · exact h

theorem Cru.isActive_activate_kind {k k' : CondKind} (ne : k' ≠ k) (sc sc' : Scope) :
    (c.activate k sc).isActive k' sc' = c.isActive k' sc' := by
  unfold Cru.activate
  split <;> simp [Cru.isActive, ne]

theorem Cru.isActive_clear_kind {k k' : CondKind} (ne : k' ≠ k) (sc sc' : Scope) :
    (c.clear k sc).isActive k' sc' = c.isActive k' sc' := by
  unfold Cru.clear
  split <;> simp [Cru.isActive, ne]

@[simp] theorem Cru.clear_actions (k : CondKind) (sc : Scope) : (c.clear k sc).actions = c.actions := by
  unfold Cru.clear
  split <;> rfl

/-- The drift conditions and the actions behind the flags of a link are the same. -/
structure Driving.SameDrift (d e : Driving) : Prop where
  alarm : e.driftAlarm = d.driftAlarm
  watch : e.driftWatch = d.driftWatch
  actions : e.actions = d.actions

theorem Driving.SameDrift.refl (d : Driving) : d.SameDrift d := ⟨rfl, rfl, rfl⟩

theorem Driving.SameDrift.trans {d e f : Driving} (h : d.SameDrift e) (k : e.SameDrift f) :
    d.SameDrift f :=
  ⟨k.alarm.trans h.alarm, k.watch.trans h.watch, k.actions.trans h.actions⟩

/-- An event without leave to move the drift conditions leaves them and the actions. -/
theorem Acts.sameDrift (acts : Acts p s t) (held : ¬ p.drift) (m : Link) :
    (s.cru.driving m).SameDrift (t.cru.driving m) := by
  induction acts with
  | refl s => exact .refl _
  | trans _ _ first second => exact first.trans second
  | raise s k sc d f apart leave =>
    have stands {k' : CondKind} (drift : k'.isDrift) :
        (s.raiseWith k sc d f).cru.isActive k' (.link m) = s.cru.isActive k' (.link m) := by
      have ne : k' ≠ k := fun e => held (leave (e ▸ drift))
      rw [State.raiseWith_isActive]
      split
      · exact Cru.isActive_activate_kind ne _ _
      · rfl
    exact ⟨stands (.inr rfl), stands (.inl rfl), by simp [Cru.driving]⟩
  | clear s k sc drift eases =>
    have stands {k' : CondKind} (d : k'.isDrift) :
        (s.clearCond k sc).cru.isActive k' (.link m) = s.cru.isActive k' (.link m) :=
      Cru.isActive_clear_kind (k := k) (k' := k') (fun e => held (drift (e ▸ d))) _ _
    exact ⟨stands (.inr rfl), stands (.inl rfl), by simp [Cru.driving, State.clearCond]⟩
  | settle s => rw [(State.settleCru_sameAt s m).driving]; exact .refl _
  | setCru drift => exact absurd drift held
  | setPort s q x fits => simpa using .refl _
  | _ => exact .refl _

/-- An event without leave to clear the error rate lets it rise at most. -/
theorem Acts.errorRate (acts : Acts p s t) (held : ¬ p.eases) (m : Link)
    (h : (s.cru.driving m).errorRate = true) : (t.cru.driving m).errorRate = true := by
  induction acts with
  | refl s => exact h
  | trans _ _ first second => exact second (first h)
  | raise s k sc d f apart leave =>
    change (s.raiseWith k sc d f).cru.isActive .linkErrorRate (.link m) = true
    rw [State.raiseWith_isActive]
    split
    · exact Cru.isActive_activate_mono h
    · exact h
  | clear s k sc drift eases =>
    exact (Cru.isActive_clear_kind (fun e => held (eases e.symm)) _ _).trans h
  | settle s => rw [(State.settleCru_sameAt s m).driving]; exact h
  | setCru drift eases => exact absurd eases held
  | setPort s q x fits => simpa using h
  | _ => exact h

/-! ### A link settled and the end of an event -/

theorem FlagsMatch.of_same {l : Link} (h : FlagsMatch s l)
    (flags : (t.entry l).degrade = (s.entry l).degrade ∧ (t.entry l).isolate = (s.entry l).isolate)
    (driving : t.cru.driving l = s.cru.driving l) : FlagsMatch t l :=
  ⟨by rw [flags.1, driving]; exact h.degrade, by rw [flags.2, driving]; exact h.isolate⟩

end Sys2Proof.Machine
end

section
/-!
PROOFS. The operations of the span links, the rack table, the drift watch and the trims as writes of
an event, one lemma per operation, with the leave each needs.
-/

namespace Sys2Proof.Machine

/-! ### Writes to an entry -/

section

variable {e e' : RackEntry}

theorem RackEntry.Keeps.same (window : e'.window = e.window) (current : e'.current = e.current)
    (predecessor : e'.predecessor = e.predecessor) (degrade : e'.degrade = e.degrade)
    (isolate : e'.isolate = e.isolate) : e.Keeps e' :=
  ⟨by simp [RackEntry.windowFits, window], by simp [RackEntry.driftsFit, current, predecessor],
    degrade, isolate⟩

/-- The tables of an entry emptied. -/
theorem RackEntry.Keeps.emptied (window : e'.window = []) (current : e'.current = none)
    (predecessor : e'.predecessor = none) (degrade : e'.degrade = e.degrade)
    (isolate : e'.isolate = e.isolate) : e.Keeps e' :=
  ⟨by simp [RackEntry.windowFits, window], by simp [RackEntry.driftsFit, current, predecessor],
    degrade, isolate⟩

theorem RackEntry.Keeps.rewindowed (window : e.windowFits → e'.window.length ≤ 8)
    (current : e'.current = e.current) (predecessor : e'.predecessor = e.predecessor)
    (degrade : e'.degrade = e.degrade) (isolate : e'.isolate = e.isolate) : e.Keeps e' :=
  ⟨window, by simp [RackEntry.driftsFit, current, predecessor], degrade, isolate⟩

/-- The state and the identity stand, and what is absent stays absent. -/
theorem RackEntry.Serves.same (state : e'.state = e.state) (identity : e'.identity = e.identity)
    (probe : e.probe = none → e'.probe = none) (trim : e.trim = none → e'.trim = none) :
    e.Serves e' := by
  refine ⟨fun h => ?_, fun h out => ?_⟩
  · exact ⟨by rwa [state] at h, identity⟩
  · obtain ⟨noProbe, noTrim⟩ := h (by rwa [state] at out)
    exact ⟨probe noProbe, trim noTrim⟩

/-- An entry in service stays in service with its identity. -/
theorem RackEntry.Serves.within (before : e.state.inService = true) (after : e'.state.inService = true)
    (identity : e'.identity = e.identity) : e.Serves e' :=
  ⟨fun _ => ⟨before, identity⟩, fun _ out => by rw [after] at out; cases out⟩

/-- An entry goes out of service with nothing in flight. -/
theorem RackEntry.Serves.out (after : e'.state.inService = false) (probe : e'.probe = none)
    (trim : e'.trim = none) : e.Serves e' :=
  ⟨fun h => absurd (after.symm.trans h) Bool.false_ne_true, fun _ _ => ⟨probe, trim⟩⟩

end

variable {p : Leave} (l : Link) (s : State)

theorem Acts.setEntry_same (e : RackEntry) (window : e.window = (s.entry l).window)
    (current : e.current = (s.entry l).current)
    (predecessor : e.predecessor = (s.entry l).predecessor)
    (degrade : e.degrade = (s.entry l).degrade) (isolate : e.isolate = (s.entry l).isolate)
    (state : e.state = (s.entry l).state) (identity : e.identity = (s.entry l).identity)
    (probe : (s.entry l).probe = none → e.probe = none)
    (trim : (s.entry l).trim = none → e.trim = none) : Acts p s (s.setEntry l e) :=
  .setEntry s l e (.same window current predecessor degrade isolate)
    fun _ => .same state identity probe trim

theorem Acts.raised (k : CondKind) (sc : Scope) (d : Details)
    (apart : k ≠ .conditionListFull := by decide)
    (leave : k.isDrift → p.drift := by simp [CondKind.isDrift]) : Acts p s (s.raise k sc d) :=
  .raise s k sc d false apart leave

theorem Acts.cleared (k : CondKind) (sc : Scope)
    (drift : k.isDrift → p.drift := by simp [CondKind.isDrift])
    (eases : k = .linkErrorRate → p.eases := by simp) : Acts p s (s.clearCond k sc) :=
  .clear s k sc drift eases

/-! ### Span links -/

theorem Acts.withdrawn (f : TxFrame) : Acts p s (s.withdrawn l f) := by
  cases f with
  | probe n =>
    unfold State.withdrawn RackEntry.probeWithdrawn
    dsimp only
    repeat' split
    all_goals exact .setEntry_same l s _ rfl rfl rfl rfl rfl rfl rfl (by simp) (by simp)
  | trim =>
    unfold State.withdrawn RackEntry.trimWithdrawn
    dsimp only
    repeat' split
    all_goals
      first
      | exact .refl s
      | exact .setEntry_same l s _ rfl rfl rfl rfl rfl rfl rfl (by simp) (by simp)
  | _ => exact .refl s

theorem appendErrorTime_length {ts : List Nat} (h : ts.length ≤ 16) (o : Nat) :
    (appendErrorTime ts o).length ≤ 16 := by
  unfold appendErrorTime
  split <;> simp <;> omega

theorem Acts.linkError : Acts p s (s.linkError l) := by
  unfold State.linkError
  dsimp only
  have counted (flag : Bool) (clear : Option Nat) : Acts p s (s.setLink l { s.link l with
      errorTimes := appendErrorTime (s.link l).errorTimes s.osc, errorFlag := flag,
      clearInstant := clear }) :=
    .setLink s l _ fun fits => ⟨fits.1, appendErrorTime_length fits.2.1 _, fits.2.2⟩
  split
  · exact (counted _ _).trans (.raised _ _ _ _)
  · exact counted _ _

theorem Acts.clearErrorRate (eases : p.eases) : Acts p s (s.clearErrorRate l) := by
  unfold State.clearErrorRate
  refine Acts.trans ?_ (.clear _ _ _ (by simp [CondKind.isDrift]) fun _ => eases)
  exact .setLink s l _ id

theorem Acts.errorRateClearDue (eases : p.eases) : Acts p s (s.errorRateClearDue l) := by
  unfold State.errorRateClearDue
  split
  · exact .clearErrorRate l s eases
  · exact .refl s

theorem Acts.setErrorRate (eases : p.eases) (n w : Nat) : Acts p s (s.setErrorRate l n w) := by
  unfold State.setErrorRate
  refine Acts.trans ?_ (.errorRateClearDue l _ eases)
  exact .setLink s l _ id

theorem Acts.handFrame (f : TxFrame) : Acts p s (s.handFrame l f) := by
  unfold State.handFrame
  dsimp only
  split
  · exact .withdrawn l s f
  · split
    · exact (Acts.withdrawn l s f).trans (.linkError l _)
    · exact .setLink s l _ fun fits => ⟨by simp; omega, fits.2⟩

theorem Acts.beginTransmission (o : Nat) : Acts p s (s.beginTransmission l o) := by
  unfold State.beginTransmission
  dsimp only
  split
  · next f rest _ _ queue =>
    refine .setLink s l _ fun fits => ⟨?_, fits.2⟩
    have len := fits.1
    simp only [queue, List.length_cons] at len
    simp only
    omega
  · exact .refl s

theorem Acts.foldWithdrawn (fs : List TxFrame) :
    Acts p s (fs.foldl (fun st f => st.withdrawn l f) s) := by
  induction fs generalizing s with
  | nil => exact .refl s
  | cons f fs ih => exact (Acts.withdrawn l s f).trans (ih _)

theorem Acts.withdrawAll : Acts p s (s.withdrawAll l) := by
  unfold State.withdrawAll
  refine Acts.trans ?_ (.foldWithdrawn l _ _)
  exact .setLink s l _ fun fits => ⟨Nat.zero_le _, fits.2⟩

theorem Acts.postLinkDown (run : Nat) : Acts p s (s.postLinkDown l run) := .raised s _ _ _

/-! ### Drift watch -/

theorem Acts.reportLevel (drift : p.drift) (old new : DriftLevel) (e : Estimate) (total : Int)
    (n : Nat) : Acts p s (s.reportLevel l old new e total n) := by
  unfold State.reportLevel
  dsimp only
  have raised (t : State) (d : Details) : Acts p t (t.raise new.kind (.link l) d) :=
    .raised t _ _ d (by cases new <;> decide) fun _ => drift
  split
  · exact raised s _
  · exact (Acts.cleared s _ _ (fun _ => drift) (by cases old <;> simp [DriftLevel.kind])).trans
      (raised _ _)

theorem Acts.evaluate (drift : p.drift) (e : Estimate) (total : Int) :
    Acts p s (s.evaluate l e total) := by
  unfold State.evaluate
  dsimp only
  split
  · exact (Acts.setDrift s l _).trans (.reportLevel l _ drift _ _ _ _ _)
  · exact .setDrift s l _

theorem Acts.resetDrift (drift : p.drift) : Acts p s (s.resetDrift l) :=
  ((Acts.setDrift s l _).trans (.cleared _ _ _ fun _ => drift)).trans
    (.cleared _ _ _ fun _ => drift)

theorem Acts.stateNotice (drift : p.drift) (new : RackState) : Acts p s (s.stateNotice l new) := by
  unfold State.stateNotice
  cases new <;> dsimp only
  case tracking => exact .setDrift s l _
  case coasting | acquiring => exact (Acts.setDrift s l _).trans (.setDrift _ l _)
  all_goals exact (Acts.setDrift s l _).trans (.resetDrift l _ drift)

/-- The notice of a state reached by an exchange or a trim moves no drift condition (R124). -/
theorem Acts.stateNotice_calm {new : RackState}
    (calm : new = .tracking ∨ new = .acquiring ∨ new = .coasting) :
    Acts p s (s.stateNotice l new) := by
  unfold State.stateNotice
  obtain rfl | rfl | rfl := calm
  · exact .setDrift s l _
  · exact (Acts.setDrift s l _).trans (.setDrift _ l _)
  · exact (Acts.setDrift s l _).trans (.setDrift _ l _)

/-! ### Rack table -/

theorem Acts.leaveState (old : RackState) : Acts p s (s.leaveState l old) := by
  cases old with
  | coasting => exact .cleared s _ _
  | lost => exact .cleared s _ _
  | quarantined => exact ((Acts.cleared s _ _).trans (.cleared _ _ _)).trans (.cleared _ _ _)
  | _ => exact .refl s

theorem Acts.handWelcome : Acts p s (s.handWelcome l) := .handFrame l s _

theorem Acts.handDismiss (q : QReason) : Acts p s (s.handDismiss l q) := .handFrame l s _

theorem Acts.handProbe (service : s.inService l = true) : Acts p s (s.handProbe l) := by
  refine Acts.trans ?_ (.handFrame l _ _)
  refine .setEntry s l _ (.rewindowed ?_ rfl rfl rfl rfl) fun _ => .within service service rfl
  exact fun fits => (List.length_filter_le _ _).trans fits

/-- Handing a WELCOME leaves the entry. -/
@[simp] theorem State.handWelcome_entry (m : Link) : (s.handWelcome l).entry m = s.entry m := by
  unfold State.handWelcome State.handFrame State.withdrawn State.linkError
  dsimp only
  repeat' split
  all_goals simp

@[simp] theorem State.handWelcome_inService (m : Link) :
    (s.handWelcome l).inService m = s.inService m := by simp [State.inService]

theorem State.inService_of_probeCanGo (h : s.probeCanGo l = true) : s.inService l = true := by
  unfold State.probeCanGo at h
  simp_all

theorem Acts.probeIfDue : Acts p s (s.probeIfDue l) := by
  unfold State.probeIfDue
  split
  · next go =>
    have service := s.inService_of_probeCanGo l go
    dsimp only
    split
    · exact (Acts.handWelcome l s).trans (.handProbe l _ (by simpa using service))
    · exact .handProbe l s service
  · exact .refl s

theorem Acts.firstProbe (withdrawn : Bool) : Acts p s (s.firstProbe l withdrawn) := by
  unfold State.firstProbe
  split
  · next go =>
    have service := s.inService_of_probeCanGo l go
    split
    · exact (Acts.handWelcome l s).trans (.handProbe l _ (by simpa using service))
    · exact .handProbe l s service
  · exact .refl s

theorem Acts.goIdle (drift : p.drift) (keep : Bool) : Acts p s (s.goIdle l keep) := by
  unfold State.goIdle
  refine Acts.trans ?_ (.stateNotice l _ drift _)
  refine Acts.trans ?_ (.leaveState l _ _)
  exact .setEntry s l _ (.emptied rfl rfl rfl rfl rfl) fun _ => .out rfl rfl rfl

theorem Acts.quarantine (drift : p.drift) (claimed : Option Nat) (q : QReason) :
    Acts p s (s.quarantine l claimed q) := by
  unfold State.quarantine
  dsimp only
  refine Acts.trans ?_ (.stateNotice l _ drift _)
  have moved : Acts p s (((s.setEntry l ((s.entry l).toQuarantine claimed q)).handDismiss l
      q).leaveState l (s.entry l).state) :=
    Acts.trans (Acts.trans
      (.setEntry s l ((s.entry l).toQuarantine claimed q) (.emptied rfl rfl rfl rfl rfl) fun _ =>
        .out rfl rfl rfl)
      (.handDismiss l _ q)) (.leaveState l _ _)
  cases q with
  | isolated => exact moved
  | _ => exact moved.trans (.raised _ _ _ _)

theorem Acts.isolateSet (drift : p.drift) : Acts p s (s.isolateSet l) := by
  unfold State.isolateSet
  split
  · exact .quarantine l s drift _ _
  · exact .refl s

theorem Acts.attach (drift : p.drift) (h : Hello) (free : s.helloFailure l h = none)
    (serving : s.mgp.mode = .serving) : Acts p s (s.attach l h) := by
  unfold State.attach
  dsimp only
  refine Acts.trans ?_ (.stateNotice l _ drift _)
  refine Acts.trans ?_ (.raised _ _ _ _)
  refine Acts.trans ?_ (.leaveState l _ _)
  exact ((Acts.enroll s l h free serving).trans (.handWelcome l _)).trans (.firstProbe l _ _)

theorem Acts.judgeHello (drift : p.drift) (h : Hello) (serving : s.mgp.mode = .serving) :
    Acts p s (s.judgeHello l h) := by
  unfold State.judgeHello
  split
  · exact .quarantine l s drift _ _
  · next free => exact .attach l s drift h free serving

theorem Acts.takeHello (drift : p.drift) (h : Hello) : Acts p s (s.takeHello l h) := by
  unfold State.takeHello
  dsimp only
  have held : Acts p s (s.setEntry l { s.entry l with heldHello := some h }) :=
    .setEntry_same l s _ rfl rfl rfl rfl rfl rfl rfl id id
  split
  · exact held
  · next serving =>
    split
    · split
      · exact held.trans (.handDismiss l _ _)
      · exact held
    · exact held.trans (.judgeHello l _ drift h serving)

theorem Acts.coastIfMissed : Acts p s (s.coastIfMissed l) := by
  unfold State.coastIfMissed
  dsimp only
  split
  · next tracking =>
    refine Acts.trans ?_ (.stateNotice_calm l _ (.inr (.inr rfl)))
    refine Acts.trans ?_ (.raised _ _ _ _)
    exact .setEntry s l _ (.same rfl rfl rfl rfl rfl) fun _ =>
      .within (by rw [tracking.1]; rfl) rfl rfl
  · exact .refl s

theorem Acts.exchangeTimeout : Acts p s (s.exchangeTimeout l) := by
  unfold State.exchangeTimeout
  dsimp only
  split
  · refine Acts.trans ?_ (.probeIfDue l _)
    refine Acts.trans ?_ (.coastIfMissed l _)
    exact .setEntry_same l s _ rfl rfl rfl rfl rfl rfl rfl (fun _ => rfl) id
  · exact .refl s

theorem Acts.enterAcquiring (service : p.sound → s.inService l = true) :
    Acts p s (s.enterAcquiring l) := by
  refine Acts.trans ?_ (.leaveState l _ _)
  exact .setEntry s l _ (.same rfl rfl rfl rfl rfl) fun sound => .within (service sound) rfl rfl

theorem Acts.noticeAcquiring (old : RackState) : Acts p s (s.noticeAcquiring l old) := by
  unfold State.noticeAcquiring
  split
  · exact .refl s
  · exact .stateNotice_calm l s (.inr (.inl rfl))

theorem Acts.loseTrim (service : p.sound → s.inService l = true) (f : Bool) :
    Acts p s (s.loseTrim l f) := by
  unfold State.loseTrim
  dsimp only
  split
  · refine Acts.trans ?_ (.noticeAcquiring l _ _)
    refine Acts.trans ?_ (.raise _ _ _ _ _ (by decide) (by simp [CondKind.isDrift]))
    refine Acts.trans ?_ (.enterAcquiring l _ fun sound => ?_)
    · exact .setEntry s l _ (.emptied rfl rfl rfl rfl rfl) fun sound =>
        .within (service sound) (service sound) rfl
    · rw [State.inService_setEntry_same]
      exact service sound
  · exact .refl s

theorem Acts.loseRack (drift : p.drift) (f : Bool) : Acts p s (s.loseRack l f) := by
  unfold State.loseRack
  refine Acts.trans ?_ (.stateNotice l _ drift _)
  refine Acts.trans ?_ (.raise _ _ _ _ _ (by decide) (by simp [CondKind.isDrift]))
  refine Acts.trans ?_ (.leaveState l _ _)
  exact .setEntry s l _ (.emptied rfl rfl rfl rfl rfl) fun _ => .out rfl rfl rfl

theorem Acts.lossDeadline (drift : p.drift) : Acts p s (s.lossDeadline l) := by
  unfold State.lossDeadline
  dsimp only
  split
  · exact .loseRack l s drift _
  · exact .refl s

/-- A trim timeout is that of a trim in flight, and so of an entry in service. -/
theorem Acts.trimTimeout (quiet : p.sound → (s.entry l).Quiet) : Acts p s (s.trimTimeout l) := by
  unfold State.trimTimeout
  split
  · next overdue =>
    refine .loseTrim l s (fun sound => ?_) false
    by_contra out
    have none := (quiet sound (by simpa [State.inService] using out)).2
    simp [RackEntry.trimOverdue, none] at overdue
  · exact .refl s

theorem Acts.abandonRack (drift : p.drift) (service : s.inService l = true) :
    Acts p s (s.abandonRack l) :=
  (Acts.loseTrim l s (fun _ => service) true).trans (.loseRack l _ drift true)

theorem Acts.coastByLink (service : s.inService l = true) : Acts p s (s.coastByLink l) := by
  unfold State.coastByLink
  refine Acts.trans ?_ (.stateNotice_calm l _ (.inr (.inr rfl)))
  refine Acts.trans ?_ (.raise _ _ _ _ _ (by decide) (by simp [CondKind.isDrift]))
  exact .setEntry s l _ (.same rfl rfl rfl rfl rfl) fun _ => .within service rfl rfl

theorem Acts.dropEntry (drift : p.drift) : Acts p s (s.dropEntry l) := by
  unfold State.dropEntry
  dsimp only
  have service {x : RackState} (h : (s.entry l).state = x) (hx : x.inService = true) :
      s.inService l = true := by rw [State.inService, h, hx]
  split
  · next h =>
    split
    · exact .abandonRack l s drift (service h rfl)
    · exact .coastByLink l s (service h rfl)
  · next h =>
    split
    · exact .abandonRack l s drift (service h rfl)
    · exact .loseRack l s drift true
  · next h =>
    split
    · exact .abandonRack l s drift (service h rfl)
    · exact .setEntry_same l s _ rfl rfl rfl rfl rfl rfl rfl id id
  · exact .loseRack l s drift true
  all_goals exact .refl s

theorem Acts.noticeDown (drift : p.drift) : Acts p s (s.noticeDown l) := by
  unfold State.noticeDown
  refine Acts.trans ?_ (.dropEntry l _ drift)
  exact .setEntry_same l s _ rfl rfl rfl rfl rfl rfl rfl (fun _ => rfl) id

theorem Acts.linkNotice (drift : p.drift) (c : LinkCause) : Acts p s (s.linkNotice l c) := by
  cases c with
  | down => exact .noticeDown l s drift
  | disabled => exact .goIdle l s drift false
  | reset => exact .goIdle l s drift false

theorem Acts.leaveUp (drift : p.drift) (r : LinkRecord) (fits : (s.link l).fits → r.fits)
    (c : LinkCause) : Acts p s (s.leaveUp l r c) :=
  (((Acts.setLink s l r fits).trans (.withdrawAll l _)).trans (.linkNotice l _ drift c)).trans
    (.postLinkDown l _ _)

theorem Acts.linkFalls (drift : p.drift) : Acts p s (s.linkFalls l) :=
  .leaveUp l s drift ((s.link l).enterDown s.osc) id _

/-! ### Trims and exchanges -/

theorem State.inService_of_trimToBuild {x : TrimInFlight} (h : s.trimToBuild l = some x) :
    s.inService l = true := by
  unfold State.trimToBuild at h
  dsimp only at h
  split at h
  · cases h
  · repeat' split at h
    all_goals try cases h
    · next ready => obtain ⟨t | t | t, -⟩ := ready <;> simp [State.inService, t, RackState.inService]
    · next ready => simp [State.inService, ready.1, RackState.inService]

theorem Acts.trimTest : Acts p s (s.trimTest l) := by
  unfold State.trimTest
  split
  · next x built =>
    have service := s.inService_of_trimToBuild l built
    refine Acts.trans ?_ (.handFrame l _ _)
    exact .setEntry s l _ (.same rfl rfl rfl rfl rfl) fun _ => .within service service rfl
  · exact .refl s

theorem clampSym_natAbs (x : Nat) (v : Int) : (clampSym x v).natAbs ≤ x := by
  have lower := neg_le_clampSym x v
  have upper := clampSym_le x v
  omega

theorem RackEntry.Keeps.completeTrim (e : RackEntry) (t : TrimInFlight) (a : Nat) :
    e.Keeps (e.completeTrim t a) := by
  refine ⟨fun _ => by simp [RackEntry.windowFits, RackEntry.completeTrim], fun fits x hx => ?_, rfl, rfl⟩
  simp only [RackEntry.completeTrim, List.mem_append, Option.mem_toList, Option.map_eq_some_iff] at hx
  obtain ⟨y, -, rfl⟩ | old := hx
  · exact clampSym_natAbs 200000 _
  · exact fits x (by simp [old])

theorem Acts.completeTrim (t : TrimInFlight) (a : Nat) : Acts p s (s.completeTrim l t a) :=
  Acts.trans (.setEntry s l _ (.completeTrim _ t a) fun _ => .same rfl rfl id fun _ => rfl)
    (.trimTest l _)

@[simp] theorem acceptedState_inService (old : RackState) (n : Nat) :
    (acceptedState old n).inService = old.inService := by
  cases old <;> simp only [acceptedState, apply_ite RackState.inService] <;> simp [RackState.inService]

/-- A state reached by an accepted exchange is one whose notice moves no drift condition. -/
theorem acceptedState_calm {old : RackState} {n : Nat} (moved : acceptedState old n ≠ old) :
    acceptedState old n = .tracking ∨ acceptedState old n = .acquiring ∨
      acceptedState old n = .coasting := by
  cases old with
  | idle | lost | quarantined => exact absurd rfl moved
  | tracking => exact .inl rfl
  | attaching | acquiring | coasting => simp only [acceptedState]; split <;> simp

theorem Acts.acceptExchange {w : List ExchangeRecord} (fits : (s.entry l).windowFits → w.length ≤ 8) :
    Acts p s (s.acceptExchange l w) := by
  unfold State.acceptExchange
  dsimp only
  have moved (coast : Option CoastCause) : Acts p s (s.setEntry l { s.entry l with
      window := w, lastAccepted := some s.osc, sinceTrim := satAdd 255 (s.entry l).sinceTrim 1,
      state := acceptedState (s.entry l).state w.length, coastCause := coast }) := by
    refine .setEntry s l _ (.rewindowed fits rfl rfl rfl rfl) fun _ => ⟨fun h => ⟨?_, rfl⟩, fun h out => ?_⟩
    · simpa using h
    · exact h (by simpa using out)
  split
  · exact moved _
  · next changed =>
    exact ((moved _).trans (.leaveState l _ _)).trans (.stateNotice_calm l _ (acceptedState_calm changed))

theorem windowDrift_natAbs (w : List ExchangeRecord) {before : Option Estimate}
    (h : ∀ e, before = some e → e.rho.natAbs ≤ 200000) : (windowDrift w before).natAbs ≤ 200000 := by
  have held : (windowDrift [] before).natAbs ≤ 200000 := by
    cases before with
    | none => decide
    | some e => exact h e rfl
  unfold windowDrift at held ⊢
  dsimp only
  split
  · split
    · exact clampSym_natAbs 200000 _
    · exact held
  · exact held

theorem freshEstimate_rho {w : List ExchangeRecord} {before : Option Estimate} {a g : Nat}
    {x : Estimate} (h : freshEstimate w before a g = some x) : x.rho = windowDrift w before := by
  unfold freshEstimate at h
  split at h
  · cases h
  · obtain ⟨r, -, rfl⟩ := Option.map_eq_some_iff.mp h
    rfl

/-- A FRESH estimate written to its entry. -/
theorem Acts.setFresh {x : Estimate} {a g : Nat}
    (fresh : freshEstimate (s.entry l).window (s.entry l).current a g = some x) :
    Acts p s (s.setEntry l { s.entry l with current := some x }) := by
  refine .setEntry s l _ ⟨id, fun fits y hy => ?_, rfl, rfl⟩ fun _ => .same rfl rfl id id
  simp only [Option.toList_some, List.singleton_append, List.mem_cons, Option.mem_toList] at hy
  obtain rfl | old := hy
  · rw [freshEstimate_rho fresh]
    exact windowDrift_natAbs _ fun e he => fits e (by simp [he])
  · exact fits y (by simp [old])

/-- The window a record is offered to: emptied where hall time has wrapped (R98). -/
def unwrapped (w : List ExchangeRecord) (r : ExchangeRecord) : List ExchangeRecord :=
  match w.getLast? with
  | some newest => if r.t4 ≤ newest.t4 then [] else w
  | none => w

theorem unwrapped_length (w : List ExchangeRecord) (r : ExchangeRecord) :
    (unwrapped w r).length ≤ w.length := by
  unfold unwrapped
  repeat' split
  all_goals simp

theorem offerToWindow_eq (w : List ExchangeRecord) (r : ExchangeRecord) (gate max : Nat) :
    offerToWindow w r gate max =
      if (max : Int) < r.delta then ⟨unwrapped w r, false⟩
      else
        match minDelay (unwrapped w r) with
        | some m =>
          if m + gate < r.delta then ⟨unwrapped w r, false⟩
          else ⟨(if 8 ≤ (unwrapped w r).length then (unwrapped w r).drop 1 else unwrapped w r) ++ [r], true⟩
        | none => ⟨unwrapped w r ++ [r], true⟩ := rfl

theorem eq_nil_of_minDelay {w : List ExchangeRecord} (h : minDelay w = none) : w = [] := by
  cases w with
  | nil => rfl
  | cons x xs =>
    unfold minDelay leastDelay at h
    repeat' split at h
    all_goals cases h

theorem offerToWindow_length {w : List ExchangeRecord} (h : w.length ≤ 8) (r : ExchangeRecord)
    (gate max : Nat) : (offerToWindow w r gate max).window.length ≤ 8 := by
  have kept := (unwrapped_length w r).trans h
  rw [offerToWindow_eq]
  split
  · exact kept
  · split
    · split
      · exact kept
      · simp only [List.length_append, List.length_singleton]
        split <;> simp <;> omega
    · next empty => simp [eq_nil_of_minDelay empty]

theorem Acts.unknownGeneration (service : p.sound → s.inService l = true) (g : Nat) :
    Acts p s (s.unknownGeneration l g) := by
  unfold State.unknownGeneration
  dsimp only
  refine Acts.trans ?_ (.noticeAcquiring l _ _)
  refine Acts.trans ?_ (.raised _ _ _ _)
  refine Acts.trans ?_ (.enterAcquiring l _ fun sound => ?_)
  · exact .setEntry s l _ (.emptied rfl rfl rfl rfl rfl) fun _ => .same rfl rfl id id
  · rw [State.inService_setEntry_same]
    exact service sound

theorem Acts.checkGeneration (service : p.sound → s.inService l = true) (g : Nat) :
    Acts p s (s.checkGeneration l g).1 := by
  unfold State.checkGeneration
  dsimp only
  split
  · exact .setEntry_same l s _ rfl rfl rfl rfl rfl rfl rfl id id
  · split
    · exact .refl s
    · split
      · split
        · exact .completeTrim l s _ _
        · exact .refl s
      · exact .unknownGeneration l s service g

theorem Acts.takeTrimDone (g a : Nat) : Acts p s (s.takeTrimDone l g a) := by
  unfold State.takeTrimDone
  split
  · split
    · exact .completeTrim l s _ a
    · exact .refl s
  · exact .refl s

theorem Acts.noticeUp : Acts p s (s.noticeUp l) := (Acts.probeIfDue l s).trans (.trimTest l _)

theorem Acts.linkRises : Acts p s (s.linkRises l) := by
  unfold State.linkRises
  dsimp only
  refine Acts.trans ?_ (.noticeUp l _)
  refine Acts.trans ?_ (.raised _ _ _ _)
  refine Acts.trans ?_ (.cleared _ _ _)
  exact .setLink s l _ fun fits => ⟨fits.1, fits.2.1, by simp⟩

/-! ### Events of a link -/

theorem Acts.loseActivity (drift : p.drift) : Acts p s (s.loseActivity l) := by
  unfold State.loseActivity
  dsimp only
  split
  · exact .refl s
  · exact .setLink s l _ id
  · exact .setLink s l _ id
  · refine Acts.trans ?_ (.linkFalls l _ drift)
    exact .setLink s l _ id

theorem Acts.takeTrainingBlock (ready : Bool) : Acts p s (s.takeTrainingBlock l ready) := by
  unfold State.takeTrainingBlock
  split
  · dsimp only
    split
    · refine Acts.trans ?_ (.linkRises l _)
      exact .setLink s l _ id
    · exact .setLink s l _ id
  · exact .refl s

theorem Acts.failCheck (drift : p.drift) : Acts p s (s.failCheck l) := by
  unfold State.failCheck
  split
  · dsimp only
    have counted := (Acts.linkError l s).trans (.setLink (p := p) _ l
      { (s.linkError l).link l with checkRun := satAdd 8 ((s.linkError l).link l).checkRun 1 }
      fun fits => ⟨fits.1, fits.2.1, satAdd_le _ _ _⟩)
    split
    · exact counted.trans (.linkFalls l _ drift)
    · exact counted
  · exact .refl s

theorem Acts.goodFrame {deliver : State → State}
    (h : Acts p (s.setLink l { s.link l with checkRun := 0 })
      (deliver (s.setLink l { s.link l with checkRun := 0 }))) : Acts p s (s.goodFrame l deliver) := by
  unfold State.goodFrame
  split
  · refine Acts.trans ?_ h
    exact .setLink s l _ fun fits => ⟨fits.1, fits.2.1, Nat.zero_le _⟩
  · exact .refl s

theorem Acts.frameDeparts : Acts p s (s.frameDeparts l) := by
  unfold State.frameDeparts
  split
  · next x _ =>
    refine Acts.trans (.setLink s l { s.link l with inTx := none } id) ?_
    unfold RackEntry.departed RackEntry.probeDeparted RackEntry.trimDeparted
    repeat' split
    all_goals
      first
      | exact .setEntry_same l _ _ rfl rfl rfl rfl rfl rfl rfl id id
      | exact .setEntry_same l _ _ rfl rfl rfl rfl rfl rfl rfl (by simp_all) (by simp_all)
  · exact .refl s

end Sys2Proof.Machine
end

section
/-!
PROOFS. The action flags at the end of an event (10.8), and the events of one link as writes.

Only the ECHO writes flags before its end, where the estimate it forms is evaluated (R121). The flags
then follow the drift conditions found there, while the error rate can only have risen since the
event began; so where the event ends with the driving conditions it began with, they still match.
-/

namespace Sys2Proof.Machine

variable {p : Leave} (l : Link) (s : State)

/-! ### Writing the flags -/

theorem Acts.writeFlags (drift : p.drift) (flags : p.flags) : Acts p s (s.writeFlags l) := by
  unfold State.writeFlags
  dsimp only
  split
  · exact (Acts.setFlags flags s l _ _).trans (.isolateSet l _ drift)
  · exact .setFlags flags s l _ _

theorem Acts.deriveFlags (drift : p.drift) (flags : p.flags) (before : State) :
    Acts p s (State.deriveFlags before s l) := by
  unfold State.deriveFlags
  split
  · exact .refl s
  · exact .writeFlags l s drift flags

theorem Acts.settleFlags (drift : p.drift) (flags : p.flags) (before : State) :
    Acts p s (State.settleFlags before s l) :=
  (Acts.deriveFlags l s drift flags before).trans (.deriveFlags l _ drift flags _)

/-- The end of an event as writes. -/
theorem Acts.endEvent {before t : State} (drift : p.drift) (flags : p.flags) (h : Acts p s t) :
    Acts p s (State.endEvent before t) :=
  Acts.trans (forLinks_keeps (P := fun st => Acts p s st)
    (fun l st hst => hst.trans (.settleFlags l st drift flags before)) t h) (.settle _)

/-- The flags written are those of the driving conditions they are derived from. -/
theorem State.writeFlags_flags : ((s.writeFlags l).entry l).degrade = (s.cru.driving l).degrade ∧
    ((s.writeFlags l).entry l).isolate = (s.cru.driving l).isolate := by
  unfold State.writeFlags
  dsimp only
  split
  · have kept := (Acts.isolateSet (p := ⟨True, False, False, False⟩) l (s.setEntry l
      { s.entry l with degrade := (s.cru.driving l).degrade,
                       isolate := (s.cru.driving l).isolate }) trivial).flags id l
    simpa using kept
  · simp

/-- Without a new ISOLATE, writing the flags leaves what drives them. -/
theorem State.writeFlags_cru (old : (s.cru.driving l).isolate = true → (s.entry l).isolate = true) :
    (s.writeFlags l).cru = s.cru := by
  unfold State.writeFlags
  dsimp only
  split
  · next set => simp_all
  · rfl

/-- Where an event moves what drives a link, the flags settled at its end match. -/
theorem FlagsMatch.settleFlags {before : State} (moved : before.cru.driving l ≠ s.cru.driving l) :
    FlagsMatch (State.settleFlags before s l) l := by
  obtain ⟨degrade, isolate⟩ := s.writeFlags_flags l
  have derived : State.deriveFlags before s l = s.writeFlags l := by
    unfold State.deriveFlags
    exact if_neg moved
  unfold State.settleFlags
  rw [derived]
  unfold State.deriveFlags
  split
  · next stands => exact ⟨stands ▸ degrade, stands ▸ isolate⟩
  · next moves =>
    obtain ⟨degrade', isolate'⟩ := (s.writeFlags l).writeFlags_flags l
    have same : ((s.writeFlags l).writeFlags l).cru = (s.writeFlags l).cru := by
      refine State.writeFlags_cru l _ fun _ => isolate.trans ?_
      by_contra clear
      exact moves (congrArg (fun c => c.driving l)
        (s.writeFlags_cru l fun set => absurd set clear)).symm
    exact ⟨by rw [same]; exact degrade', by rw [same]; exact isolate'⟩

theorem State.settleFlags_of_same {before : State} (same : before.cru.driving l = s.cru.driving l) :
    State.settleFlags before s l = s := by
  simp [State.settleFlags, State.deriveFlags, same]

/-! ### The end of an event -/

theorem FlagsMatch.of_sameAt {l : Link} {s t : State} (h : FlagsMatch s l) (same : SameAt l s t) :
    FlagsMatch t l :=
  h.of_same (by simp [same.entry]) same.driving

/-- Every link's flags match after the end of an event, if they match wherever the event has left
what drives them. -/
theorem FlagsMatch.endEvent {before t : State}
    (h : before.cru.driving l = t.cru.driving l → FlagsMatch t l) :
    FlagsMatch (State.endEvent before t) l := by
  have reach (st : State) (hst : before.cru.driving l = st.cru.driving l → FlagsMatch st l) :
      FlagsMatch (State.settleFlags before st l) l := by
    by_cases same : before.cru.driving l = st.cru.driving l
    · rw [State.settleFlags_of_same l st same]
      exact hst same
    · exact .settleFlags l st same
  have fold (ls : List Link) (st : State) (hl : l ∈ ls ∨ FlagsMatch st l)
      (hst : before.cru.driving l = st.cru.driving l → FlagsMatch st l) :
      FlagsMatch (ls.foldl (fun st m => State.settleFlags before st m) st) l := by
    induction ls generalizing st with
    | nil => exact hl.resolve_left List.not_mem_nil
    | cons m ms ih =>
      by_cases hm : m = l
      · subst hm
        exact ih _ (.inr (reach st hst)) fun _ => reach st hst
      · have same := (OnlyLink.settleFlags m st before).others l (Ne.symm hm)
        refine ih _ ?_ fun stands => (hst (stands.trans same.driving)).of_sameAt same
        refine hl.imp (fun mem => ?_) fun done => done.of_sameAt same
        exact (List.mem_cons.mp mem).resolve_left (Ne.symm hm)
  refine (fold allLinks t (.inl (List.mem_finRange l)) h).of_sameAt ?_
  exact State.settleCru_sameAt _ l

/-- An event that keeps service sound and leaves the flags to its end ends sound. -/
theorem SoundService.endEvent {before t : State} (service : Service t)
    (flags : ∀ l, before.cru.driving l = t.cru.driving l → FlagsMatch t l) :
    SoundService (State.endEvent before t) := by
  have ended := (Acts.endEvent (p := ⟨True, False, True, True⟩) (before := before) t trivial trivial
    (.refl t)).service trivial service
  exact ⟨ended.oneHolder, ended.serving, ended.quiet, fun l => .endEvent l (flags l)⟩

/-- An event of writes: run to its end, or too slight to need one. -/
def Event (p : Leave) (s t : State) : Prop :=
  ∃ u, Acts p s u ∧ (State.endEvent s u = t ∨ u = t ∧ u.cru = s.cru)

variable {s} {t u : State}

theorem Acts.ended (h : Acts p s u) (run : ended s u = .next t) : Event p s t :=
  ⟨u, h, .inl (Host.Outcome.next.inj run)⟩

theorem Acts.plain (h : Acts p s u)
    (run : (Host.Outcome.next u : Host.Outcome State Fault Refusal) = .next t) (cru : u.cru = s.cru) :
    Event p s t :=
  ⟨u, h, .inr ⟨Host.Outcome.next.inj run, cru⟩⟩

/-- An event of writes keeps every table within its bound. -/
theorem Event.inBounds (h : Event p s t) (b : InBounds s) : InBounds t := by
  obtain ⟨u, acts, rfl | ⟨rfl, -⟩⟩ := h
  · exact (Acts.endEvent (p := ⟨True, True, True, False⟩) u trivial trivial (.refl u)).inBounds
      (acts.inBounds b)
  · exact acts.inBounds b

/-- An event of writes that leaves the flags to its end keeps rack service sound. -/
theorem Event.soundService (h : Event p s t) (sound : p.sound) (held : ¬ p.flags)
    (b : SoundService s) : SoundService t := by
  obtain ⟨u, acts, rfl | ⟨rfl, cru⟩⟩ := h
  · exact .endEvent (acts.service sound b.service) fun l same =>
      (b.flags l).of_same (acts.flags held l) same.symm
  · have service := acts.service sound b.service
    exact ⟨service.oneHolder, service.serving, service.quiet, fun l =>
      (b.flags l).of_same (acts.flags held l) (by rw [cru])⟩

/-! ### The flags of an ECHO -/

variable (s)

theorem Acts.formEstimate (drift : p.drift) (flags : p.flags) : Acts p s (s.formEstimate l) := by
  unfold State.formEstimate
  dsimp only
  split
  · next est fresh =>
    exact ((Acts.setFresh l s fresh).trans (.evaluate l _ drift _ _)).trans
      (.settleFlags l _ drift flags _)
  · exact .refl s

theorem Acts.offerRecord (drift : p.drift) (flags : p.flags) (r : ExchangeRecord) :
    Acts p s (s.offerRecord l r) := by
  unfold State.offerRecord
  split
  · exact .linkError l s
  · dsimp only
    have fits (h : (s.entry l).windowFits) := offerToWindow_length h r
      (s.entry l).settings.delayGate (s.entry l).settings.maxDelay
    split
    · exact ((Acts.acceptExchange l s fits).trans (.formEstimate l _ drift flags)).trans
        (.trimTest l _)
    · exact .setEntry s l _ (.rewindowed fits rfl rfl rfl rfl) fun _ => .same rfl rfl id id

theorem Acts.openExchange : Acts p s (s.setEntry l { s.entry l with probe := none, missed := 0 }) :=
  .setEntry_same l s _ rfl rfl rfl rfl rfl rfl rfl (fun _ => rfl) id

theorem Acts.completeExchange (drift : p.drift) (flags : p.flags)
    (service : p.sound → s.inService l = true) (x : ProbeInFlight) (d : ProbeDeparture) (e : Echo)
    (o : Nat) : Acts p s (s.completeExchange l x d e o) := by
  unfold State.completeExchange
  dsimp only
  refine Acts.trans ?_ (.probeIfDue l _)
  have opened := Acts.openExchange (p := p) l s
  have still : p.sound → (s.setEntry l { s.entry l with probe := none, missed := 0 }).inService l =
      true := fun sound => by rw [State.inService_setEntry_same]; exact service sound
  split
  · have checked := opened.trans (.checkGeneration l _ still e.generation.toNat)
    split
    · exact checked.trans (.offerRecord l _ drift flags _)
    · exact checked
  · exact opened

theorem Acts.takeEcho (drift : p.drift) (flags : p.flags) (quiet : p.sound → (s.entry l).Quiet)
    (e : Echo) (o : Nat) : Acts p s (s.takeEcho l e o) := by
  unfold State.takeEcho
  split
  · next x d found =>
    refine .completeExchange l s drift flags (fun sound => ?_) x d e o
    by_contra out
    have none := (quiet sound (by simpa [State.inService] using out)).1
    simp [RackEntry.matchEcho, none] at found
  · exact .linkError l s

/-- The flags of a link in the course of an event: those of driving conditions at which the error
rate had risen at most, and which are those the event began with, or whose drift conditions have
stood since. -/
def FlagsFollow (before t : State) (l : Link) : Prop :=
  ∃ d : Driving, ((t.entry l).degrade = d.degrade ∧ (t.entry l).isolate = d.isolate) ∧
    ((before.cru.driving l).errorRate = true → d.errorRate = true) ∧
    (d.errorRate = true → (t.cru.driving l).errorRate = true) ∧
    (d = before.cru.driving l ∨ d.SameDrift (t.cru.driving l))

variable {s l} {before : State}

theorem FlagsMatch.follow (h : FlagsMatch s l) : FlagsFollow s s l :=
  ⟨s.cru.driving l, ⟨h.degrade, h.isolate⟩, id, id, .inl rfl⟩

theorem FlagsFollow.matches (h : FlagsFollow before t l)
    (same : before.cru.driving l = t.cru.driving l) : FlagsMatch t l := by
  obtain ⟨d, ⟨degrade, isolate⟩, rises, rose, rfl | ⟨alarm, watch, actions⟩⟩ := h
  · exact ⟨same ▸ degrade, same ▸ isolate⟩
  · have rate : (t.cru.driving l).errorRate = d.errorRate := by
      rw [same] at rises
      cases hd : d.errorRate <;> cases ht : (t.cru.driving l).errorRate <;> simp_all
    have now : t.cru.driving l = d := by
      cases hd : d
      cases ht : t.cru.driving l
      simp_all
    exact ⟨now ▸ degrade, now ▸ isolate⟩

/-- Writes that leave the flags and the drift conditions, and at most raise the error rate. -/
theorem FlagsFollow.calm {q : Prop} (h : FlagsFollow before s l)
    (acts : Acts ⟨False, False, False, q⟩ s t) : FlagsFollow before t l := by
  obtain ⟨d, ⟨degrade, isolate⟩, rises, rose, drift⟩ := h
  obtain ⟨degrade', isolate'⟩ := acts.flags id l
  exact ⟨d, ⟨degrade'.trans degrade, isolate'.trans isolate⟩, rises,
    fun rate => acts.errorRate id l (rose rate), drift.imp_right fun same => same.trans (acts.sameDrift id l)⟩

theorem FlagsFollow.of_sameAt (h : FlagsFollow before s l) (same : SameAt l s t) :
    FlagsFollow before t l := by
  unfold FlagsFollow
  rw [same.entry, same.driving]
  exact h

theorem FlagsFollow.formEstimate (h : FlagsFollow before s l) (m : Link) :
    FlagsFollow before (s.formEstimate m) l := by
  by_cases hm : l = m
  swap
  · exact h.of_sameAt ((OnlyLink.formEstimate m s).others l hm)
  subst hm
  unfold State.formEstimate
  dsimp only
  split
  · next est fresh =>
    have opened := h.calm (Acts.setFresh (p := ⟨False, False, False, False⟩) l s fresh)
    generalize s.setEntry l { s.entry l with current := some est } = s1 at opened
    have level := Acts.evaluate (p := ⟨True, False, True, False⟩) l s1 trivial est (s.entry l).trimTotal
    by_cases stands : s1.cru.driving l = (s1.evaluate l est (s.entry l).trimTotal).cru.driving l
    · rw [State.settleFlags_of_same l _ stands]
      have kept := (Acts.evaluate (p := ⟨True, False, False, False⟩) l s1 trivial est
        (s.entry l).trimTotal).flags id l
      unfold FlagsFollow
      rw [kept.1, kept.2, ← stands]
      exact opened
    · have written := FlagsMatch.settleFlags l _ stands
      have settled := level.trans (.settleFlags l _ trivial trivial s1)
      obtain ⟨d, -, rises, rose, -⟩ := opened
      exact ⟨_, ⟨written.degrade, written.isolate⟩,
        fun rate => settled.errorRate id l (rose (rises rate)), id, .inr (.refl _)⟩
  · exact h

theorem FlagsFollow.offerRecord (h : FlagsFollow before s l) (m : Link) (r : ExchangeRecord) :
    FlagsFollow before (s.offerRecord m r) l := by
  unfold State.offerRecord
  have fits (h : (s.entry m).windowFits) := offerToWindow_length h r
    (s.entry m).settings.delayGate (s.entry m).settings.maxDelay
  split
  · exact h.calm (q := False) (.linkError m s)
  · dsimp only
    split
    · exact ((h.calm (q := False) (.acceptExchange m s fits)).formEstimate m).calm (q := False)
        (.trimTest m _)
    · exact h.calm (q := False)
        (.setEntry s m _ (.rewindowed fits rfl rfl rfl rfl) fun _ => .same rfl rfl id id)

theorem FlagsFollow.completeExchange (h : FlagsFollow before s l) (m : Link) (x : ProbeInFlight)
    (d : ProbeDeparture) (e : Echo) (o : Nat) :
    FlagsFollow before (s.completeExchange m x d e o) l := by
  unfold State.completeExchange
  dsimp only
  refine FlagsFollow.calm (q := False) ?_ (.probeIfDue m _)
  have opened := h.calm (Acts.openExchange (p := ⟨False, False, False, False⟩) m s)
  split
  · have checked := opened.calm (q := False) (.checkGeneration m _ False.elim e.generation.toNat)
    split
    · exact checked.offerRecord m _
    · exact checked
  · exact opened

theorem FlagsFollow.takeEcho (h : FlagsFollow before s l) (m : Link) (e : Echo) (o : Nat) :
    FlagsFollow before (s.takeEcho m e o) l := by
  unfold State.takeEcho
  split
  · exact h.completeExchange m _ _ e o
  · exact h.calm (q := False) (.linkError m s)

/-! ### The events of one link -/

/-- What an ECHO does before its end. -/
def State.echoed (s : State) (l : Link) (e : Echo) (o : Nat) : State :=
  s.goodFrame l (fun t => t.takeEcho l e o)

theorem Acts.echoed (drift : p.drift) (flags : p.flags) (quiet : p.sound → (s.entry l).Quiet)
    (e : Echo) (o : Nat) : Acts p s (s.echoed l e o) :=
  .goodFrame l s (.takeEcho l _ drift flags (by simpa using quiet) e o)

theorem FlagsFollow.echoed (h : FlagsFollow before s l) (m : Link) (e : Echo) (o : Nat) :
    FlagsFollow before (s.echoed m e o) l := by
  unfold State.echoed State.goodFrame
  split
  · refine FlagsFollow.takeEcho (h.calm (q := False) (.setLink s m _ fun fits => ?_)) m e o
    exact ⟨fits.1, fits.2.1, Nat.zero_le _⟩
  · exact h

theorem LinkRecord.gainActivity_fits {r : LinkRecord} (h : r.fits) (now : Nat) :
    (r.gainActivity now).fits := by
  unfold LinkRecord.gainActivity
  repeat' split
  all_goals exact h

theorem LinkRecord.settle_fits {r : LinkRecord} (h : r.fits) (now : Nat) : (r.settle now).fits := by
  unfold LinkRecord.settle
  dsimp only
  repeat' split
  all_goals exact h

theorem LinkRecord.endTraining_fits {r : LinkRecord} (h : r.fits) (now : Nat) :
    (r.endTraining now).fits := by
  unfold LinkRecord.endTraining
  split <;> exact h

theorem LinkRecord.restartCount_fits {r : LinkRecord} (h : r.fits) : r.restartCount.fits := by
  unfold LinkRecord.restartCount
  split <;> exact h

@[simp] theorem State.beginTransmission_cru (o : Nat) : (s.beginTransmission l o).cru = s.cru := by
  unfold State.beginTransmission
  dsimp only
  split <;> rfl

@[simp] theorem State.frameDeparts_cru : (s.frameDeparts l).cru = s.cru := by
  unfold State.frameDeparts
  split <;> rfl

/-- An event of one link but an ECHO leaves the flags to its end. -/
theorem exec_linkEvent {c : Instr} (on : linkEventOf c = some l) (noEcho : ∀ o e, c ≠ .echo l o e)
    (quiet : p.sound → ∀ m, (s.entry m).Quiet) (drift : p.drift) (eases : p.eases)
    (run : exec c s = .next t) : Event p s t := by
  cases c with
  | laneActivityGained m =>
    exact Acts.plain (.setLink s m _ fun fits => LinkRecord.gainActivity_fits fits _) run rfl
  | laneActivityLost m => exact (Acts.loseActivity m s drift).ended run
  | settleDeadline m =>
    exact Acts.plain (.setLink s m _ fun fits => LinkRecord.settle_fits fits _) run rfl
  | trainingBlock m ready => exact (Acts.takeTrainingBlock m s ready).ended run
  | trainingDeadline m =>
    exact Acts.plain (.setLink s m _ fun fits => LinkRecord.endTraining_fits fits _) run rfl
  | trainingCountRestart m =>
    exact Acts.plain (.setLink s m _ LinkRecord.restartCount_fits) run rfl
  | receivedFrameCheckFailure m => exact (Acts.failCheck m s drift).ended run
  | unknownKind m => exact (Acts.goodFrame m s (.linkError m _)).ended run
  | linkErrorRateClear m => exact (Acts.errorRateClearDue m s eases).ended run
  | frameTransmissionBegins m o =>
    exact (Acts.beginTransmission m s o).plain run (State.beginTransmission_cru o)
  | frameDeparted m => exact (Acts.frameDeparts m s).plain run State.frameDeparts_cru
  | hello m h => exact (Acts.goodFrame m s (.takeHello m _ drift h)).ended run
  | echo m o e => cases on; exact absurd rfl (noEcho o e)
  | trimDone m g a => exact (Acts.goodFrame m s (.takeTrimDone m _ _ _)).ended run
  | probeDue m => exact (Acts.probeIfDue m s).ended run
  | exchangeTimeout m => exact (Acts.exchangeTimeout m s).ended run
  | trimTimeout m => exact (Acts.trimTimeout m s fun sound => quiet sound m).ended run
  | lossDeadline m => exact (Acts.lossDeadline m s drift).ended run
  | _ => cases on

theorem exec_echo_inBounds {o : Nat} {e : Echo} (run : exec (.echo l o e) s = .next t)
    (b : InBounds s) : InBounds t :=
  Event.inBounds (p := ⟨True, True, True, False⟩)
    ((Acts.echoed trivial trivial False.elim e o).ended run) b

theorem exec_echo_soundService {o : Nat} {e : Echo} (run : exec (.echo l o e) s = .next t)
    (b : SoundService s) : SoundService t := by
  have run : State.endEvent s (s.echoed l e o) = t := Host.Outcome.next.inj run
  have echoed := Acts.echoed (p := ⟨True, True, True, True⟩) (s := s) (l := l) trivial trivial
    (fun _ => b.quiet l) e o
  exact run ▸ .endEvent (echoed.service trivial b.service) fun m same =>
    ((b.flags m).follow.echoed l e o).matches same

/-! ### MARK frames -/

variable (s l)

theorem Acts.chooseEstimate (g : Nat) : Acts p s (s.chooseEstimate l g).1 := by
  unfold State.chooseEstimate
  dsimp only
  split
  · exact .refl s
  · split
    · exact .refl s
    · split
      · exact .refl s
      · split
        · exact .completeTrim l s _ _
        · exact .refl s

theorem Acts.reportDating (c : Fin 4) (era : Nat) (d : Dating) :
    Acts p s (s.reportDating l c era d) := by
  unfold State.reportDating
  split
  · exact .cleared s _ _
  · split
    · exact .raised s _ _ _
    · exact .refl s
  · exact .refl s

theorem Acts.acceptMark (m : Mark) (c : Fin 4) (room : s.sdu.isFull = false) :
    Acts p s (s.acceptMark l m c) := by
  unfold State.acceptMark
  dsimp only
  have chosen := OnlyLink.chooseEstimate (l := l) s m.generation.toNat
  refine Acts.trans ?_ (.handFrame l _ _)
  refine Acts.trans ?_ (.reportDating l _ _ _ _)
  refine (Acts.chooseEstimate l s _).trans (.setSdu _ _ (fun j => ?_) id)
  exact Sdu.journalOrdered_append j (by rw [chosen.core.sdu]; exact room) _

theorem Acts.refuseMark (m : Mark) (reason : VerdictResult) : Acts p s (s.refuseMark l m reason) := by
  unfold State.refuseMark
  dsimp only
  refine Acts.trans ?_ (.handFrame l _ _)
  split
  · unfold State.refuseFull
    refine Acts.trans ?_ (.raised _ _ _ _)
    exact .setSdu s _ id id
  · exact .refl s

theorem Acts.takeMark (m : Mark) (routed : Bool) : Acts p s (s.takeMark l m routed) := by
  unfold State.takeMark
  split
  · exact .refuseMark l s m _
  · next c accepted => exact .acceptMark l s m c (s.isFull_of_accepted accepted)

theorem Acts.routeMark (m : Mark) : Acts p s (s.routeMark l m) := by
  unfold State.routeMark
  split
  · exact .refl s
  · exact (Acts.linkError l s).trans (.raised _ _ _ _)

theorem exec_markFrame_event (m : Mark) (run : exec (.markFrame l m) s = .next t) : Event p s t :=
  (Acts.goodFrame l s ((Acts.routeMark l _ m).trans (.takeMark l _ m _))).ended run

end Sys2Proof.Machine
end

section
/-!
PROOFS. The clock side, the requests and the resets as writes of an event; and with them the two
invariants of the part: every table within its bound, and rack service sound.
-/

namespace Sys2Proof.Machine

variable {p : Leave} (s : State)

/-! ### Wait-outs -/

theorem Sdu.waitsFit_of_sublist {d e : Sdu} (h : d.waitsFit)
    (sub : e.waitOuts.Sublist d.waitOuts) : e.waitsFit := by
  obtain ⟨all, a, b⟩ := h
  exact ⟨sub.length_le.trans all, (sub.filter _).length_le.trans a, (sub.filter _).length_le.trans b⟩

theorem insertWait_perm (w : WaitOut) (ws : List WaitOut) : (insertWait w ws).Perm (w :: ws) := by
  induction ws with
  | nil => exact .refl _
  | cons x xs ih =>
    unfold insertWait
    split
    · exact .refl _
    · exact (ih.cons x).trans (.swap w x xs)

/-- A wait-out parked within the bounds of the list and of its port (R152). -/
theorem Sdu.waitsFit_insert {d : Sdu} (h : d.waitsFit) (w : WaitOut) (all : d.waitOuts.length < 16)
    (share : d.share w.port < 8) : { d with waitOuts := insertWait w d.waitOuts }.waitsFit := by
  have perm := insertWait_perm w d.waitOuts
  have shares (q : Port) (hq : d.share q ≤ 8) :
      Sdu.share { d with waitOuts := insertWait w d.waitOuts } q ≤ 8 := by
    unfold Sdu.share
    rw [(perm.filter _).length_eq, List.filter_cons]
    split
    · next own =>
      have own : w.port = q := by simpa using own
      subst own
      exact share
    · exact hq
  obtain ⟨-, a, b⟩ := h
  exact ⟨by rw [perm.length_eq]; exact all, shares .a a, shares .b b⟩

theorem Acts.handReply (q : Port) (r : Reply) : Acts p s (s.handReply q r) :=
  .setPort s q _ fun fits => PortState.handReply_fits fits r

theorem Acts.foldWaits (res : Result) (b : List Byte) (ws : List WaitOut) :
    Acts p s (ws.foldl (fun st w => st.completeWait w res b) s) := by
  induction ws generalizing s with
  | nil => exact .refl s
  | cons w ws ih => exact (Acts.handReply s _ _).trans (ih _)

theorem Acts.completeWaits (test : WaitOut → Bool) (res : Result) (b : List Byte) :
    Acts p s (s.completeWaits test res b) := by
  unfold State.completeWaits
  refine Acts.trans ?_ (.foldWaits _ res b _)
  exact .setSdu s _ id fun fits => Sdu.waitsFit_of_sublist fits List.filter_sublist

theorem Acts.waitWrap : Acts p s s.waitWrap := by
  unfold State.waitWrap
  dsimp only
  split
  · refine Acts.trans ?_ (.completeWaits _ _ _ _)
    exact .setSdu s _ id id
  · exact .refl s

@[simp] theorem State.waitWrap_cru : s.waitWrap.cru = s.cru := by
  unfold State.waitWrap; dsimp only; split <;> simp

theorem Acts.waitUntil (q : Port) (tag : Byte) (target era : Nat) :
    Acts p s (State.waitUntil q tag target era s).1 := by
  unfold State.waitUntil
  dsimp only
  have wrap := Acts.waitWrap (p := p) s
  split
  · exact wrap
  · next room =>
    repeat' split
    all_goals try exact wrap
    refine wrap.trans (.setSdu _ _ id fun fits => ?_)
    obtain ⟨all, share⟩ := not_or.mp room
    exact Sdu.waitsFit_insert fits ⟨q, tag, target, era, _⟩ (Nat.lt_of_not_le all)
      (Nat.lt_of_not_le share)

@[simp] theorem State.waitUntil_cru (q : Port) (tag : Byte) (target era : Nat) :
    (State.waitUntil q tag target era s).1.cru = s.cru := by
  unfold State.waitUntil
  dsimp only
  repeat' split
  all_goals simp [bare]

/-! ### References and the timescale -/

theorem Acts.setRef (r : RefId) (x : Reference) : Acts p s (s.setRef r x) := by
  cases r <;> exact .setRdu s _

theorem Acts.writeRate (v : Int) : Acts p s (s.writeRate v) :=
  .setTsu s _ fun bounded => bounded.writeRate _ v

theorem Acts.stepHall {v : Int} {u : State} (taken : s.stepHall v = some u) : Acts p s u := by
  unfold State.stepHall at taken
  split at taken
  · cases taken
    refine Acts.trans ?_ (.raised _ _ _ _)
    exact .setTsu s _ fun bounded => bounded.applyStep _ v
  · cases taken

theorem Acts.clearOutlier (r : RefId) : Acts p s (s.clearOutlier r) := .cleared s _ _

theorem Acts.announceTimescale (t : TsState) : Acts p s (s.announceTimescale t) := by
  unfold State.announceTimescale
  dsimp only
  split
  · exact (Acts.setEpg s _).trans (.completeWaits _ _ _ _)
  · exact (Acts.setEpg s _).trans (.completeWaits _ _ _ _)
  all_goals exact .setEpg s _

theorem Acts.enterTimescale (t : TsState) : Acts p s (s.enterTimescale t) := by
  unfold State.enterTimescale
  dsimp only
  refine Acts.trans ?_ (.announceTimescale _ t)
  refine Acts.trans ?_ (.raised _ _ _ _)
  split
  · exact ((Acts.setRdu s _).trans (.clearOutlier _ _)).trans (.clearOutlier _ _)
  · exact .setRdu s _

theorem Acts.zeroLock : Acts p s s.zeroLock := .setRdu s _

theorem Acts.becomesSelected : Acts p s s.becomesSelected := by
  unfold State.becomesSelected
  dsimp only
  split
  · exact (Acts.zeroLock s).trans (.enterTimescale _ _)
  · exact ((Acts.zeroLock s).trans (.setRdu _ _)).trans (.enterTimescale _ _)
  all_goals exact .refl s

theorem Acts.noneRemains : Acts p s s.noneRemains := by
  unfold State.noneRemains
  dsimp only
  split
  · exact (((Acts.writeRate s _).trans (.zeroLock _)).trans (.setRdu _ _)).trans (.enterTimescale _ _)
  · exact (Acts.setRdu s _).trans (.enterTimescale _ _)
  all_goals exact .refl s

theorem Acts.rejudge : Acts p s s.rejudge := by
  unfold State.rejudge
  split
  · split
    · exact (Acts.setRdu s _).trans (.becomesSelected _)
    · exact .refl s
  · split
    · split
      · exact .setRdu s _
      · exact .refl s
    · split
      · exact .setRdu s _
      · exact (Acts.setRdu s _).trans (.noneRemains _)

theorem Acts.loseRef (r : RefId) (new : RefState) : Acts p s (s.loseRef r new) :=
  ((Acts.setRef s r _).trans (.clearOutlier _ r)).trans (.raised _ _ _ _)

theorem Acts.badQualified (r : RefId) : Acts p s (s.badQualified r) := by
  unfold State.badQualified
  dsimp only
  split
  · exact ((Acts.setRef s r _).trans (.loseRef _ r _)).trans (.rejudge _)
  · exact .setRef s r _

theorem Acts.badMark (r : RefId) : Acts p s (s.badMark r) := by
  unfold State.badMark
  dsimp only
  split
  · exact .refl s
  · exact .refl s
  · exact .setRef s r _
  · exact .badQualified s r

theorem Acts.servoRun (e : Int) : Acts p s (s.servoRun e) := (Acts.setRdu s _).trans (.writeRate _ _)

theorem Acts.enterFailed : Acts p s s.enterFailed :=
  ((Acts.setRdu s _).trans (.enterTimescale _ _)).trans (.raised _ _ _ _)

theorem Acts.judgeAcquiring : Acts p s s.judgeAcquiring := by
  unfold State.judgeAcquiring State.lockIfReached
  split
  · exact .enterFailed s
  · split
    · exact (Acts.zeroLock s).trans (.enterTimescale _ _)
    · exact .refl s

theorem Acts.judgeLocked : Acts p s s.judgeLocked := by
  unfold State.judgeLocked State.unlockIfReached
  split
  · exact .enterFailed s
  · split
    · exact (Acts.zeroLock s).trans (.enterTimescale _ _)
    · exact .refl s

theorem Acts.resetBadRun (r : RefId) : Acts p s (s.resetBadRun r) := .setRef s r _

theorem Acts.actAcquiring (r : RefId) (e : Int) : Acts p s (s.actAcquiring r e) := by
  unfold State.actAcquiring
  split
  · split
    · next u taken => exact ((Acts.stepHall s taken).trans (.zeroLock _)).trans (.resetBadRun _ r)
    · exact (Acts.setRdu s _).trans (.badQualified _ r)
  · exact ((((Acts.servoRun s e).trans (.clearOutlier _ r)).trans (.resetBadRun _ r)).trans
      (.setRdu _ _)).trans (.judgeAcquiring _)

theorem Acts.actLocked (r : RefId) (e : Int) : Acts p s (s.actLocked r e) := by
  unfold State.actLocked
  split
  · exact ((((Acts.servoRun s e).trans (.clearOutlier _ r)).trans (.setRef _ r _)).trans
      (.setRdu _ _)).trans (.judgeLocked _)
  · exact ((Acts.setRef s r _).trans (.raised _ _ _ _)).trans (.badQualified _ r)

theorem Acts.actOnMark (r : RefId) (l o : Nat) : Acts p s (s.actOnMark r l o) := by
  unfold State.actOnMark
  dsimp only
  split
  · exact .resetBadRun s r
  · split
    · exact .actAcquiring s r _
    · exact .actLocked s r _
    all_goals exact .resetBadRun s r

theorem Acts.moveCandidate (r : RefId) : Acts p s (s.moveCandidate r) := by
  unfold State.moveCandidate
  split
  · exact (Acts.setRdu s _).trans (.clearOutlier _ _)
  · exact .refl s

theorem Acts.goodMark (r : RefId) (l o : Nat) : Acts p s (s.goodMark r l o) := by
  unfold State.goodMark
  dsimp only
  split
  · exact .refl s
  · exact .setRef s r _
  · split
    · exact ((Acts.setRef s r _).trans (.raised _ _ _ _)).trans (.rejudge _)
    · exact .setRef s r _
  · split
    · exact (Acts.moveCandidate s r).trans (.actOnMark _ r l o)
    · exact (Acts.moveCandidate s r).trans (.resetBadRun _ r)

theorem Acts.markArrival (r : RefId) (o : Nat) : Acts p s (s.markArrival r o) := by
  unfold State.markArrival
  dsimp only
  split
  · exact .refl s
  · split
    · exact .setRef s r _
    · exact (Acts.setRef s r _).trans (.goodMark _ r _ o)
    · exact (Acts.setRef s r _).trans (.badMark _ r)

theorem Acts.missingMark (r : RefId) : Acts p s (s.missingMark r) := by
  unfold State.missingMark
  split
  · exact (Acts.setRef s r _).trans (.badMark _ r)
  · exact .refl s

theorem Acts.expireHoldover : Acts p s s.expireHoldover := by
  unfold State.expireHoldover
  split
  · exact (Acts.setRdu s _).trans (.enterTimescale _ _)
  · exact .refl s

theorem Acts.holdLabel (r : RefId) (l q : Nat) : Acts p s (s.holdLabel r l q) := by
  unfold State.holdLabel
  dsimp only
  split
  · exact .refl s
  · exact .setRef s r _

theorem Acts.huntLabel (r : RefId) : Acts p s (s.huntLabel r) := .setRef s r _

theorem Acts.labelByte (r : RefId) (b : Byte) : Acts p s (s.labelByte r b) := by
  unfold State.labelByte
  dsimp only
  split
  · exact .refl s
  · split
    · split
      · exact .setRef s r _
      · exact .refl s
    · split
      · exact .setRef s r _
      · split
        · exact (Acts.huntLabel s r).trans (.holdLabel _ r _ _)
        · exact .huntLabel s r

theorem Acts.abandonLabel (r : RefId) (c : AbandonCause) : Acts p s (s.abandonLabel r c) := by
  unfold State.abandonLabel
  repeat' split
  all_goals first | exact .refl s | exact .huntLabel s r

@[simp] theorem State.holdLabel_cru (r : RefId) (l q : Nat) : (s.holdLabel r l q).cru = s.cru := by
  unfold State.holdLabel; dsimp only; split <;> simp

@[simp] theorem State.huntLabel_cru (r : RefId) : (s.huntLabel r).cru = s.cru := by
  simp [State.huntLabel]

@[simp] theorem State.labelByte_cru (r : RefId) (b : Byte) : (s.labelByte r b).cru = s.cru := by
  unfold State.labelByte; dsimp only; repeat' split
  all_goals simp

@[simp] theorem State.abandonLabel_cru (r : RefId) (c : AbandonCause) :
    (s.abandonLabel r c).cru = s.cru := by
  unfold State.abandonLabel; repeat' split
  all_goals simp

theorem Acts.takeSduNotice : Acts p s s.takeSduNotice := by
  unfold State.takeSduNotice
  split
  · exact .refl s
  · refine Acts.trans ?_ (.completeWaits _ _ _ _)
    exact .setTsu s _ fun h => ⟨h.history, h.rates⟩

@[simp] theorem State.takeSduNotice_cru : s.takeSduNotice.cru = s.cru := by
  unfold State.takeSduNotice; split <;> simp [State.stepWaits]

theorem Acts.takeEpgNotice : Acts p s s.takeEpgNotice := by
  unfold State.takeEpgNotice
  split
  · exact .refl s
  · dsimp only
    refine Acts.trans ?_ (.setEpg _ _)
    exact .setTsu s _ fun h => ⟨h.history, h.rates⟩

@[simp] theorem State.takeEpgNotice_cru : s.takeEpgNotice.cru = s.cru := by
  unfold State.takeEpgNotice; split <;> rfl

theorem exec_clockEvent_event {c : Instr} {t : State} (on : isClockEvent c = true)
    (run : exec c s = .next t) : Event p s t := by
  cases c with
  | rateBoundary => exact Acts.plain (.setTsu s _ fun h => h.settledTo _) run rfl
  | sduStepNotice => exact (Acts.takeSduNotice s).plain run s.takeSduNotice_cru
  | epgStepNotice => exact (Acts.takeEpgNotice s).plain run s.takeEpgNotice_cru
  | epgWrap => exact (Acts.setEpg s _).plain run rfl
  | waitOutWrap => exact (Acts.waitWrap s).plain run s.waitWrap_cru
  | waitOutRelease =>
    exact (Acts.completeWaits s _ _ _).plain run (State.completeWaits_cru _ _ _ _)
  | markArrival r o => exact (Acts.markArrival s r o).ended run
  | labelArrival r n q =>
    exact ((Acts.huntLabel s r).trans (.holdLabel _ r _ _)).plain run (by simp)
  | labelRecordAbandoned r cause =>
    exact (Acts.abandonLabel s r cause).plain run (s.abandonLabel_cru r cause)
  | labelLineByte r b => exact (Acts.labelByte s r b).plain run (s.labelByte_cru r b)
  | missingMark r => exact (Acts.missingMark s r).ended run
  | holdoverLimitExpiry => exact (Acts.expireHoldover s).ended run
  | epochBoundary => exact (Acts.setEpg s _).plain run rfl
  | epaPulseEnd => exact (Acts.setEpg s _).plain run rfl
  | epbPulseStart => exact (Acts.setEpg s _).plain run rfl
  | epbPulseEnd => exact (Acts.setEpg s _).plain run rfl
  | _ => cases on

/-! ### The hall step taken by the RTM -/

theorem RackEntry.rebase_keeps (e : RackEntry) (step : Int) : e.Keeps (e.rebase step) := by
  unfold RackEntry.rebase
  split
  · refine ⟨fun _ => Nat.zero_le _, fun fits x hx => ?_, rfl, rfl⟩
    simp only [List.mem_append, Option.mem_toList, Option.map_eq_some_iff] at hx
    obtain ⟨y, hy, rfl⟩ | ⟨y, hy, rfl⟩ := hx
    · exact fits y (by simp [hy])
    · exact fits y (by simp [hy])
  · exact .same rfl rfl rfl rfl rfl

theorem RackEntry.rebase_serves (e : RackEntry) (step : Int) : e.Serves (e.rebase step) := by
  unfold RackEntry.rebase
  split
  · exact .same rfl rfl id id
  · exact .same rfl rfl id id

theorem Acts.rtmStep (n : StepNotice) : Acts p s (s.rtmStep n) := by
  unfold State.rtmStep
  have rebased := forLinks_keeps (P := fun st => Acts p s st)
    (f := fun l st => st.setEntry l ((st.entry l).rebase n.step))
    (fun l st hst => hst.trans (.setEntry st l _ (RackEntry.rebase_keeps _ _) fun _ =>
      RackEntry.rebase_serves _ _)) _ (.setRtmEra s n.era)
  refine forLinks_keeps (P := fun st => Acts p s st) (fun l st hst => ?_) _ rebased
  split
  · exact hst.trans (.trimTest l st)
  · exact hst

theorem Acts.takeRtmNotice : Acts p s s.takeRtmNotice := by
  unfold State.takeRtmNotice
  split
  · exact .refl s
  · refine Acts.trans ?_ (.rtmStep _ _)
    exact .setTsu s _ fun h => ⟨h.history, h.rates⟩

/-! ### Requests -/

variable {c : Cru}

theorem Cru.takeFrom_some {q : Port} {now : Nat} {l l' : List CondRecord} {r : CondRecord}
    (h : c.takeFrom q now l = some (r, l')) :
    l'.length ≤ l.length ∧ ∀ x ∈ l', ∃ y ∈ l, x.kind = y.kind := by
  induction l generalizing r l' with
  | nil => cases h
  | cons y ys ih =>
    unfold Cru.takeFrom at h
    split at h
    · cases h
      have kept (x : CondRecord) (hx : x ∈ ys) : ∃ z ∈ y :: ys, x.kind = z.kind :=
        ⟨x, List.mem_cons_of_mem _ hx, rfl⟩
      split
      · refine ⟨le_rfl, fun x hx => ?_⟩
        obtain rfl | hx := List.mem_cons.mp hx
        · exact ⟨y, List.mem_cons_self, rfl⟩
        · exact kept x hx
      · exact ⟨Nat.le_succ _, kept⟩
    · obtain ⟨⟨r', m⟩, hm, same⟩ := Option.map_eq_some_iff.mp h
      cases same
      obtain ⟨len, from_⟩ := ih hm
      refine ⟨Nat.succ_le_succ len, fun x hx => ?_⟩
      obtain rfl | hx := List.mem_cons.mp hx
      · exact ⟨x, List.mem_cons_self, rfl⟩
      · obtain ⟨z, hz, kind⟩ := from_ x hx
        exact ⟨z, List.mem_cons_of_mem _ hz, kind⟩

theorem Cru.Fits.take (h : c.Fits) (q : Port) (now : Nat) : (c.take q now).2.Fits := by
  unfold Cru.take
  split
  · next r l taken =>
    obtain ⟨len, from_⟩ := Cru.takeFrom_some taken
    refine ⟨len.trans h.list, ⟨fun x hx => ?_, h.slot.slot⟩⟩
    obtain ⟨y, hy, kind⟩ := from_ x hx
    exact kind ▸ h.slot.list y hy
  · split
    · next r held =>
      split
      · refine ⟨h.list, ⟨h.slot.list, fun x hx => ?_⟩⟩
        dsimp only at hx
        split at hx <;> cases hx
        exact h.slot.slot r held
      · exact h
    · exact h

@[simp] theorem Cru.dropPending_kind (q : Port) (r : CondRecord) : (c.dropPending q r).kind = r.kind := by
  unfold Cru.dropPending
  repeat' split
  all_goals rfl

@[simp] theorem Cru.dropPending_scope (q : Port) (r : CondRecord) :
    (c.dropPending q r).scope = r.scope := by
  unfold Cru.dropPending
  repeat' split
  all_goals rfl

/-- Records changed in their place, some removed, keep the bounds when their kinds and scopes stand. -/
theorem Cru.Fits.of_filter {d : Cru} (h : c.Fits) {f : CondRecord → CondRecord}
    {keep : CondRecord → Bool} (kind : ∀ r, (f r).kind = r.kind) (scope : ∀ r, (f r).scope = r.scope)
    (list : d.list = (c.list.map f).filter keep)
    (slot : d.reserved = (c.reserved.map f).filter keep) : d.Fits := by
  refine ⟨?_, ⟨fun x hx => ?_, fun x hx => ?_⟩⟩
  · unfold Cru.listFits
    rw [list]
    exact (List.length_filter_le _ _).trans ((List.length_map _).trans_le h.list)
  · rw [list] at hx
    obtain ⟨y, hy, rfl⟩ := List.mem_map.mp (List.mem_filter.mp hx).1
    rw [kind]
    exact h.slot.list y hy
  · rw [slot, Option.filter_eq_some_iff] at hx
    obtain ⟨y, hy, rfl⟩ := Option.map_eq_some_iff.mp hx.1
    rw [kind, scope]
    exact h.slot.slot y hy

theorem Cru.Fits.setMask (h : c.Fits) (q : Port) (mask : BitVec 7) : (c.setMask q mask).Fits := by
  cases q <;> exact h.of_filter (Cru.dropPending_kind _) (Cru.dropPending_scope _) rfl rfl

theorem Cru.Fits.setRecording (h : c.Fits) (k : CondKind) (on : Bool) : (c.setRecording k on).Fits := by
  have cleared (scopes : List Scope) : (scopes.foldl (fun d sc => d.clear k sc) c).Fits := by
    induction scopes generalizing c with
    | nil => exact h
    | cons sc scopes ih => exact ih (h.clear k sc)
  unfold Cru.setRecording
  split
  · exact h.of_records rfl rfl
  · dsimp only
    split
    · exact cleared _
    · exact (cleared _).of_records rfl rfl

theorem Cru.Fits.setAction (h : c.Fits) (sel : Option (Fin 5)) (drift : Bool) (a : Action) :
    (c.setAction sel drift a).Fits := by
  cases sel <;> exact h.of_records rfl rfl

@[simp] theorem CondRecord.redue_kind (n : Nat) (r : CondRecord) : (r.redue n).kind = r.kind := by
  unfold CondRecord.redue
  repeat' split
  all_goals rfl

@[simp] theorem CondRecord.redue_scope (n : Nat) (r : CondRecord) : (r.redue n).scope = r.scope := by
  unfold CondRecord.redue
  repeat' split
  all_goals rfl

@[simp] theorem Cru.reposted_kind (r : CondRecord) : (c.reposted r).kind = r.kind := rfl

@[simp] theorem Cru.reposted_scope (r : CondRecord) : (c.reposted r).scope = r.scope := rfl

theorem Cru.Fits.setRepost (h : c.Fits) (n now : Nat) : (c.setRepost n now).Fits := by
  refine ⟨?_, ⟨fun x hx => ?_, fun x hx => ?_⟩⟩
  · have split := List.length_eq_length_filter_add (l := c.list.map (CondRecord.redue n))
      (CondRecord.repostReached now)
    simp only [Cru.listFits, Cru.setRepost, List.length_append, List.length_map]
    exact (Nat.add_comm _ _).trans_le ((split.symm.trans (List.length_map _)).trans_le h.list)
  · simp only [Cru.setRepost, List.mem_append, List.mem_filter, List.mem_map] at hx
    obtain ⟨⟨y, hy, rfl⟩, -⟩ | ⟨z, ⟨⟨y, hy, rfl⟩, -⟩, rfl⟩ := hx
    · simpa using h.slot.list y hy
    · simpa using h.slot.list y hy
  · simp only [Cru.setRepost, Option.map_eq_some_iff] at hx
    obtain ⟨z, ⟨y, hy, rfl⟩, rfl⟩ := hx
    have apart := h.slot.slot y hy
    split <;> simpa using apart

theorem Cru.Fits.repostAt (h : c.Fits) (place now : Nat) : (c.repostAt place now).Fits := by
  unfold Cru.repostAt
  split
  · split
    · next r held =>
      split
      · refine ⟨h.list, ⟨h.slot.list, fun x hx => ?_⟩⟩
        cases hx
        exact h.slot.slot r held
      · exact h
    · exact h
  · split
    · next r found =>
      split
      · obtain ⟨lt, rfl⟩ := List.getElem?_eq_some_iff.mp found
        refine ⟨?_, ⟨fun x hx => ?_, h.slot.slot⟩⟩
        · have bound : c.list.length ≤ 64 := h.list
          simp only [Cru.listFits, List.length_append, List.length_singleton,
            List.length_eraseIdx_of_lt lt]
          omega
        · obtain hx | hx := List.mem_append.mp hx
          · exact h.slot.list x (List.mem_of_mem_eraseIdx hx)
          · rw [List.mem_singleton.mp hx, Cru.reposted_kind]
            exact h.slot.list _ (List.getElem_mem lt)
      · exact h
    · exact h

theorem Acts.dropErrorRate (l : Link) (eases : p.eases) : Acts p s (s.dropErrorRate l) := by
  unfold State.dropErrorRate
  split
  · exact .clearErrorRate l s eases
  · exact .refl s

theorem Acts.emptyErrors (l : Link) : Acts p s (s.emptyErrors l) :=
  .setLink s l _ fun fits => ⟨fits.1, Nat.zero_le _, Nat.zero_le _⟩

theorem Acts.disableLink (l : Link) (drift : p.drift) (eases : p.eases) :
    Acts p s (s.disableLink l) := by
  unfold State.disableLink
  dsimp only
  split
  · exact .refl s
  · refine Acts.trans ?_ (.dropErrorRate _ l eases)
    refine Acts.trans ?_ (.emptyErrors _ l)
    refine Acts.trans ?_ (.cleared _ _ _)
    split
    · exact .leaveUp l s drift { (s.link l).enterDisabled with enable := false } id _
    · refine Acts.trans ?_ (.linkNotice l _ drift _)
      exact .setLink s l _ id

theorem Acts.enableLink (l : Link) : Acts p s (s.enableLink l) := by
  unfold State.enableLink
  dsimp only
  split
  · exact .setLink s l _ id
  · exact .refl s

theorem Acts.resetLink (l : Link) (drift : p.drift) (eases : p.eases) : Acts p s (s.resetLink l) := by
  unfold State.resetLink
  dsimp only
  refine Acts.trans ?_ (.emptyErrors _ l)
  refine (Acts.dropErrorRate s l eases).trans ?_
  split
  · exact .leaveUp l _ drift (((s.dropErrorRate l).link l).enterDown (s.dropErrorRate l).osc) id _
  · refine Acts.trans ?_ (.linkNotice l _ drift _)
    exact .setLink _ l _ id

theorem Acts.setLinkRequest (l : Link) (drift : p.drift) (eases : p.eases) (enable : Bool) (n w : Nat)
    (x : LinkSettings) : Acts p s (s.setLinkRequest l enable n w x) := by
  unfold State.setLinkRequest
  dsimp only
  refine Acts.trans ?_ (.probeIfDue l _)
  refine Acts.trans ?_ (.setEntry_same l _ _ rfl rfl rfl rfl rfl rfl rfl id id)
  refine (Acts.setErrorRate l s eases n w).trans ?_
  split
  · exact .enableLink _ l
  · exact .disableLink _ l drift eases

theorem Acts.judgeHeld (l : Link) (drift : p.drift) (serving : s.mgp.mode = .serving) :
    Acts p s (State.judgeHeld l s) := by
  unfold State.judgeHeld
  split
  · split
    · exact .judgeHello l s drift _ serving
    · exact .refl s
  · exact .refl s

theorem Acts.serve (drift : p.drift) : Acts p s s.serve := by
  unfold State.serve
  split
  · have turned : Acts p s (s.setMgp { s.mgp with mode := .serving }) :=
      .setMgp s _ rfl rfl (.inr rfl)
    have judged (l : Link) (st : State) (hst : Acts p s st ∧ st.mgp.mode = .serving) :
        Acts p s (State.judgeHeld l st) ∧ (State.judgeHeld l st).mgp.mode = .serving := by
      obtain ⟨acts, serving⟩ := hst
      refine ⟨acts.trans (.judgeHeld st l drift serving), ?_⟩
      rw [(OnlyLink.judgeHeld l st).core.mgp, serving]
    exact (forLinks_keeps judged _ ⟨turned, rfl⟩).1
  · exact .refl s

theorem Acts.enableRef (r : RefId) : Acts p s (s.enableRef r) := by
  unfold State.enableRef
  dsimp only
  split <;> exact .setRef s r _

theorem Acts.disableRef (r : RefId) : Acts p s (s.disableRef r) := by
  unfold State.disableRef
  dsimp only
  split
  · exact (Acts.loseRef s r _).trans (.setRef _ r _)
  · exact .setRef s r _

theorem Acts.setReference (r : RefId) (enable : Bool) (priority : Nat) :
    Acts p s (s.setReference r enable priority) := by
  unfold State.setReference
  dsimp only
  refine Acts.trans ?_ (.rejudge _)
  refine Acts.trans ?_ (.setRef _ r _)
  split
  · exact .enableRef s r
  · exact .disableRef s r

theorem Sdu.journalOrdered_drain {d : Sdu} (h : d.journalOrdered) (n : Nat) :
    (d.drain n).journalOrdered := by
  obtain ⟨len, next, run⟩ := h
  refine ⟨by simp [Sdu.drain]; omega, next, fun i hi => ?_⟩
  simp only [Sdu.drain, List.length_drop, List.getElem_drop] at hi ⊢
  have last := run (n + i) (by omega)
  rw [show d.journal.length - n - i = d.journal.length - (n + i) by omega]
  exact last

theorem Acts.settleJournal : Acts p s s.settleJournal := by
  unfold State.settleJournal
  split
  · refine Acts.trans ?_ (.cleared _ _ _)
    exact .setSdu s _ id id
  · exact .refl s

theorem Acts.writeClass (k : Fin 4) (x : StampClass) : Acts p s (s.writeClass k x) := by
  unfold State.writeClass
  dsimp only
  split
  · exact .setSdu s _ id id
  · refine Acts.trans ?_ (.cleared _ _ _)
    exact .setSdu s _ id id

variable {s} {t : State}

theorem Event.of_acts (h : Acts p s t) (cru : t.cru = s.cru) : Event p s t := h.plain rfl cru

theorem Event.of_ended {u : State} (h : Acts p s u) : Event p s (State.endEvent s u) := h.ended rfl

/-- The effect of every request but HALT as an event. -/
theorem RequestEffect.event {k : Nat} (h : RequestEffect k s t)
    (noHalt : t ≠ State.endEvent s s.halt) (drift : p.drift) (eases : p.eases) : Event p s t := by
  cases h with
  | nothing => exact .of_acts (.refl s) rfl
  | serve => exact .of_ended (.serve s drift)
  | halt => exact absurd rfl noHalt
  | restart => exact .of_acts (.setMgp s _ rfl rfl (.inl rfl)) rfl
  | domain => exact .of_acts (.setMgp s _ rfl rfl (.inl rfl)) rfl
  | rate v => exact .of_acts (.writeRate s v) rfl
  | stepTime _ v u taken => exact .of_ended (.stepHall s taken)
  | timescale d u b =>
    refine .of_ended (Acts.trans ?_ (.expireHoldover _))
    exact (Acts.setRdu s _).trans (.setTsu _ _ fun h => ⟨h.history, h.rates⟩)
  | reference r enable priority => exact .of_ended (.setReference s r enable priority)
  | outputs g => exact .of_acts (.setEpg s g) rfl
  | link l enable n w x => exact .of_ended (.setLinkRequest s l drift eases enable n w x)
  | range l => exact .of_acts (.setLink s l _ id) rfl
  | resetLink l => exact .of_ended (.resetLink s l drift eases)
  | clearQuarantine l => exact .of_ended (.goIdle l s drift false)
  | limits l x => exact .of_acts (.setDrift s l _) rfl
  | allLimits x =>
    obtain ⟨acts, cru⟩ := forLinks_keeps (P := fun st => Acts p s st ∧ st.cru = s.cru)
      (f := fun l st => st.setDrift l ((st.driftOf l).writeLimits x))
      (fun l st hst => ⟨hst.1.trans (.setDrift st l _), hst.2⟩) s ⟨.refl s, rfl⟩
    exact .of_acts acts cru
  | window w x => exact .of_acts (.setSdu s _ id id) rfl
  | cls k x => exact .of_ended (.writeClass s k x)
  | drain n =>
    refine .of_ended (Acts.trans ?_ (.settleJournal _))
    exact .setSdu s _ (fun j => Sdu.journalOrdered_drain j n) id
  | wait q tag target era =>
    exact .of_acts (.waitUntil s q tag target era) (s.waitUntil_cru q tag target era)
  | take q => exact .of_ended (.setCru drift eases s _ fun h => h.take q _)
  | mask q m => exact .of_ended (.setCru drift eases s _ fun h => h.setMask q m)
  | recording x on => exact .of_ended (.setCru drift eases s _ fun h => h.setRecording x on)
  | action sel d a => exact .of_ended (.setCru drift eases s _ fun h => h.setAction sel d a)
  | repost n => exact .of_ended (.setCru drift eases s _ fun h => h.setRepost n _)

/-! ### HALT -/

theorem State.halt_inBounds (b : InBounds s) : InBounds s.halt := by
  unfold State.halt
  split
  · refine forLinks_keeps (P := InBounds) (fun l st hst => ?_) _ ?_
    · exact (Acts.goIdle (p := ⟨True, True, False, False⟩) l st trivial true).inBounds hst
    · refine { b with ports := fun q => ?_ }
      cases q
      · exact b.ports .a
      · exact b.ports .b
  · exact b

@[simp] theorem State.leaveState_entry (l m : Link) (old : RackState) :
    (s.leaveState l old).entry m = s.entry m := by
  cases old <;> rfl

@[simp] theorem State.stateNotice_entry (l m : Link) (new : RackState) :
    (s.stateNotice l new).entry m = s.entry m := by
  cases new <;> rfl

@[simp] theorem State.goIdle_entry (l : Link) (keep : Bool) :
    (s.goIdle l keep).entry l = (s.entry l).toIdle keep := by
  simp [State.goIdle]

end Sys2Proof.Machine
end

section
/-!
PROOFS. The two invariants of the part: every table stays within its bound (O58), rack service stays
sound (O59), and both hold at cold reset (O60).
-/

namespace Sys2Proof.Machine

variable {s t : State}

/-! ### Operations of every link in turn -/

/-- Of an operation made of every link in turn, each touching its own link only, a link sees its own
step alone. -/
theorem forLinks_at {f : Link → State → State} (own : ∀ m st, OnlyLink m st (f m st)) (s : State)
    (l : Link) : ∃ st, SameCore s st ∧ SameAt l s st ∧ SameAt l (f l st) (forLinks f s) := by
  have others (ls : List Link) (st : State) (out : l ∉ ls) :
      SameCore st (ls.foldl (fun st m => f m st) st) ∧ SameAt l st (ls.foldl (fun st m => f m st) st) := by
    induction ls generalizing st with
    | nil => exact ⟨.refl st, .refl l st⟩
    | cons m ms ih =>
      obtain ⟨ne, out⟩ := not_or.mp (mt List.mem_cons.mpr out)
      obtain ⟨core, same⟩ := ih (f m st) out
      exact ⟨(own m st).core.trans core, ((own m st).others l ne).trans same⟩
  obtain ⟨before, after, split⟩ := List.append_of_mem (List.mem_finRange l)
  have nodup : (before ++ l :: after).Nodup := split ▸ List.nodup_finRange 40
  obtain ⟨-, nodupAfter, apart⟩ := List.nodup_append.mp nodup
  have notBefore : l ∉ before := fun mem => apart l mem l List.mem_cons_self rfl
  obtain ⟨core, same⟩ := others before s notBefore
  refine ⟨_, core, same, ?_⟩
  unfold forLinks allLinks
  rw [split, List.foldl_append, List.foldl_cons]
  exact (others after _ (List.nodup_cons.mp nodupAfter).1).2

/-! ### A part with every entry out of service -/

/-- With no entry in service and nothing in flight, service is sound in either mode. -/
theorem Service.of_idle (h : ∀ l, (s.entry l).state = .idle ∧ (s.entry l).probe = none ∧
    (s.entry l).trim = none) : Service s := by
  have out (l : Link) : s.inService l = false := by
    rw [State.inService, (h l).1]
    rfl
  refine ⟨fun l m id hl => ?_, fun l hl => ?_, fun l _ => (h l).2⟩
  · rw [out l] at hl; cases hl
  · rw [out l] at hl; cases hl

/-- HALT takes every entry to IDLE, from SERVING (R80). -/
theorem State.halt_entry (serving : s.mgp.mode = .serving) (l : Link) :
    (s.halt).entry l = (s.entry l).toIdle true := by
  unfold State.halt
  rw [serving]
  obtain ⟨st, -, before, after⟩ := forLinks_at (f := fun l st => st.goIdle l true)
    (fun m st => OnlyLink.goIdle m st true) (s.setMgp { s.mgp with mode := .setup }) l
  rw [after.entry, State.goIdle_entry, before.entry]
  rfl

theorem State.halt_of_setup (setup : s.mgp.mode = .setup) : s.halt = s := by
  unfold State.halt
  rw [setup]

theorem State.halt_soundService (b : SoundService s) : SoundService (State.endEvent s s.halt) := by
  cases mode : s.mgp.mode with
  | setup =>
    rw [State.halt_of_setup mode]
    exact .endEvent b.service fun l _ => b.flags l
  | serving =>
    refine .endEvent (.of_idle fun l => ?_) fun l same => (b.flags l).of_same ?_ same.symm
    · rw [State.halt_entry mode]
      exact ⟨rfl, rfl, rfl⟩
    · rw [State.halt_entry mode]
      exact ⟨rfl, rfl⟩

/-! ### Requests -/

theorem RequestEffect.inBounds {k : Nat} (h : RequestEffect k s t) (b : InBounds s) : InBounds t := by
  by_cases halted : t = State.endEvent s s.halt
  · subst halted
    exact (Acts.endEvent (p := ⟨True, True, True, False⟩) _ trivial trivial (.refl _)).inBounds
      (State.halt_inBounds b)
  · exact (h.event (p := ⟨True, True, False, False⟩) halted trivial trivial).inBounds b

theorem RequestEffect.soundService {k : Nat} (h : RequestEffect k s t) (b : SoundService s) :
    SoundService t := by
  by_cases halted : t = State.endEvent s s.halt
  · subst halted
    exact State.halt_soundService b
  · exact (h.event (p := ⟨True, True, False, True⟩) halted trivial trivial).soundService trivial id b

theorem InBounds.setPort (b : InBounds s) {q : Port} {x : PortState}
    (fits : (s.port q).fits → x.fits) : InBounds (s.setPort q x) :=
  (Acts.setPort (p := ⟨False, False, False, False⟩) s q x fits).inBounds b

theorem SoundService.setPort (b : SoundService s) (q : Port) (x : PortState) :
    SoundService (s.setPort q x) :=
  ⟨by simpa [State.inService] using b.oneHolder, by simpa [State.inService] using b.serving,
    by simpa [State.inService] using b.quiet, fun l => (b.flags l).of_same (by simp) (by simp)⟩

theorem State.request_inBounds {q : Port} {kind tag : Byte} {k : Nat} {f : Handler} (does : f.Does k)
    (b : InBounds s) : InBounds (s.request q kind tag f) :=
  s.request_keeps (fun _ _ fits h => h.setPort fits) (fun _ _ fits h => h.setPort fits)
    (fun _ => id) (fun st => (does st).inBounds) b

theorem State.request_soundService {q : Port} {kind tag : Byte} {k : Nat} {f : Handler}
    (does : f.Does k) (b : SoundService s) : SoundService (s.request q kind tag f) :=
  s.request_keeps (fun _ _ _ h => h.setPort _ _) (fun _ _ _ h => h.setPort _ _)
    (fun _ => id) (fun st => (does st).soundService) b

/-! ### Resets -/

theorem State.entry_warmBlocks (q : Port) (l : Link) :
    (s.warmBlocks q).entry l = (s.entry l).warm := by
  simp [State.entry, State.warmBlocks]

theorem State.link_warmBlocks (q : Port) (l : Link) :
    (s.warmBlocks q).link l = (s.link l).warm s.osc := by
  simp [State.link, State.warmBlocks]

theorem LinkRecord.warm_fits (r : LinkRecord) (now : Nat) : (r.warm now).fits := by
  unfold LinkRecord.warm
  dsimp only
  split <;> exact ⟨Nat.zero_le _, Nat.zero_le _, Nat.zero_le _⟩

theorem State.warmBlocks_inBounds (b : InBounds s) (q : Port) : InBounds (s.warmBlocks q) where
  journal := ⟨Nat.zero_le _, Nat.zero_lt_succ _, fun i h => absurd h (Nat.not_lt_zero i)⟩
  conditions := Nat.zero_le _
  slot := ⟨fun r hr => absurd hr List.not_mem_nil, fun r hr => by cases hr⟩
  waits := b.waits
  ports r := by cases r <;> exact ⟨Nat.zero_le _, Nat.zero_le _⟩
  links l := by rw [State.link_warmBlocks]; exact LinkRecord.warm_fits _ _
  windows l := by rw [State.entry_warmBlocks]; exact Nat.zero_le _
  drifts l := by rw [State.entry_warmBlocks]; exact fun x hx => absurd hx List.not_mem_nil
  history := b.history
  rates := b.rates

/-- What follows the blocks at a warm restart: the ABORTED replies and RESTARTED. -/
theorem Acts.warmEnd {p : Leave} (q : Port) : Acts p (s.warmBlocks q) (s.warmRestart q) :=
  ((Acts.completeWaits _ _ _ _).trans (.raised _ _ _ _)).trans (.settle _)

theorem State.warmRestart_inBounds (b : InBounds s) (q : Port) : InBounds (s.warmRestart q) :=
  (Acts.warmEnd (p := ⟨False, False, False, False⟩) q).inBounds (State.warmBlocks_inBounds b q)

/-- With no condition active, nothing drives a flag. -/
theorem Driving.of_inactive {c : Cru} (h : c.active = []) (l : Link) :
    (c.driving l).degrade = false ∧ (c.driving l).isolate = false := by
  simp [Cru.driving, Cru.isActive, h, Driving.degrade, Driving.isolate]

theorem State.warmRestart_soundService (q : Port) : SoundService (s.warmRestart q) := by
  have ends := Acts.warmEnd (s := s) (p := ⟨False, False, False, True⟩) q
  have idle : Service (s.warmBlocks q) := .of_idle fun l => by
    rw [State.entry_warmBlocks]
    exact ⟨rfl, rfl, rfl⟩
  have service := ends.service trivial idle
  refine ⟨service.oneHolder, service.serving, service.quiet, fun l => ?_⟩
  have clear : FlagsMatch (s.warmBlocks q) l := by
    obtain ⟨degrade, isolate⟩ := Driving.of_inactive (c := (s.warmBlocks q).cru) rfl l
    exact ⟨by rw [degrade, State.entry_warmBlocks]; rfl, by rw [isolate, State.entry_warmBlocks]; rfl⟩
  refine clear.of_same (ends.flags id l) ?_
  unfold State.warmRestart
  dsimp only
  rw [(State.settleCru_sameAt _ l).driving, State.raise_driving _ _ _ (part_ne_link l)]
  simp [State.abortWaits]

theorem State.reset_inBounds : InBounds State.reset where
  journal := ⟨Nat.zero_le _, Nat.zero_lt_succ _, fun i h => absurd h (Nat.not_lt_zero i)⟩
  conditions := Nat.zero_le _
  slot := ⟨fun r hr => absurd hr List.not_mem_nil, fun r hr => by cases hr⟩
  waits := ⟨Nat.zero_le _, Nat.zero_le _, Nat.zero_le _⟩
  ports r := by cases r <;> exact ⟨Nat.zero_le _, Nat.zero_le _⟩
  links l := by
    simp only [State.link, State.reset, Fin.getElem_fin, Vector.getElem_ofFn]
    exact ⟨Nat.zero_le _, Nat.zero_le _, Nat.zero_le _⟩
  windows l := by
    simp only [State.entry, State.reset, Fin.getElem_fin, Vector.getElem_replicate]
    exact Nat.zero_le _
  drifts l := by
    simp only [State.entry, State.reset, Fin.getElem_fin, Vector.getElem_replicate]
    exact fun x hx => absurd hx List.not_mem_nil
  history := Nat.zero_le _
  rates := ⟨⟨by decide, by decide⟩, fun _ h => absurd h List.not_mem_nil, fun _ h => by cases h⟩

theorem State.coldReset_inBounds (x y : Bool) : InBounds (s.coldReset x y) :=
  { State.reset_inBounds with
    ports := fun r => by cases r <;> exact ⟨Nat.zero_le _, Nat.zero_le _⟩ }

theorem State.entry_coldReset (x y : Bool) (l : Link) : (s.coldReset x y).entry l = .cold := by
  simp [State.entry, State.coldReset, State.reset]

theorem State.coldReset_soundService (x y : Bool) : SoundService (s.coldReset x y) := by
  have idle : Service (s.coldReset x y) := .of_idle fun l => by
    rw [State.entry_coldReset]
    exact ⟨rfl, rfl, rfl⟩
  refine ⟨idle.oneHolder, idle.serving, idle.quiet, fun l => ?_⟩
  obtain ⟨degrade, isolate⟩ := Driving.of_inactive (c := (s.coldReset x y).cru) rfl l
  exact ⟨by rw [degrade, State.entry_coldReset]; rfl, by rw [isolate, State.entry_coldReset]; rfl⟩

/-- Settles O60: every table of the cold reset is empty and no entry is in service. -/
theorem resetMeetsInvariants : Obligations.ResetMeetsInvariants :=
  ⟨State.reset_inBounds, by
    have cold := State.coldReset_soundService (s := State.reset) false false
    exact ⟨cold.oneHolder, fun l h => cold.serving l h, cold.quiet, fun l =>
      (cold.flags l).of_same ⟨rfl, rfl⟩ rfl⟩⟩

/-! ### Every command -/

/-- What a command may be that is neither an event of writes, nor a request, nor a reset. -/
theorem exec_portCommand {c : Instr} (run : exec c s = .next t)
    (on : (∃ q, c = .requestFrameCheckFail q) ∨ (∃ q x, c = .managementFrameAbandoned q x)) :
    ∃ q r, t = s.setPort q { s.port q with receiver := r } := by
  obtain ⟨q, rfl⟩ | ⟨q, x, rfl⟩ := on
  · exact ⟨q, _, (Host.Outcome.next.inj run).symm⟩
  · obtain ⟨r, h⟩ := s.abandonFrame_cases q x
    exact ⟨q, r, (Host.Outcome.next.inj run).symm.trans h⟩

theorem State.replyEnds_keeps {P : State → Prop} (hs : P s)
    (restart : ∀ q, P (s.warmRestart q))
    (port : ∀ q x, ((s.port q).fits → x.fits) → P (s.setPort q x)) (q : Port) : P (s.replyEnds q) := by
  unfold State.replyEnds
  split
  · exact hs
  · split
    · exact restart q
    · exact port q _ fun fits => PortState.beginNext_fits fits

theorem exec_inBounds {c : Instr} (run : exec c s = .next t) (b : InBounds s) : InBounds t := by
  cases commandClass c with
  | link l on =>
    by_cases echo : ∃ o e, c = .echo l o e
    · obtain ⟨o, e, rfl⟩ := echo
      exact exec_echo_inBounds run b
    · exact (exec_linkEvent (p := ⟨True, True, False, False⟩) on
        (fun o e h => echo ⟨o, e, h⟩) False.elim trivial trivial run).inBounds b
  | clock on => exact (exec_clockEvent_event (p := ⟨False, False, False, False⟩) s on run).inBounds b
  | request r on =>
    obtain ⟨f, does, runs⟩ := exec_request_does on
    exact Host.Outcome.next.inj ((runs s).symm.trans run) ▸ State.request_inBounds does b
  | mark l m => exact (exec_markFrame_event (p := ⟨False, False, False, False⟩) l s m run).inBounds b
  | rtmStep =>
    exact ((Acts.takeRtmNotice (p := ⟨False, False, False, False⟩) s).ended run).inBounds b
  | repost place =>
    exact (Acts.ended (p := ⟨True, True, False, False⟩)
      (.setCru trivial trivial s _ fun h => h.repostAt place _) run).inBounds b
  | coldReset x y =>
    have run : s.coldReset x y = t := Host.Outcome.next.inj run
    exact run ▸ State.coldReset_inBounds x y
  | warmRestart =>
    cases port : s.restartPort with
    | none => exact Host.Outcome.next.inj ((exec_warmRestart_of_no_port s port).symm.trans run) ▸ b
    | some q =>
      exact Host.Outcome.next.inj ((exec_warmRestart_of_port s port).symm.trans run) ▸
        State.warmRestart_inBounds b q
  | checkFail q =>
    obtain ⟨q, r, rfl⟩ := exec_portCommand run (.inl ⟨q, rfl⟩)
    exact b.setPort id
  | abandoned q cause =>
    obtain ⟨q, r, rfl⟩ := exec_portCommand run (.inr ⟨q, cause, rfl⟩)
    exact b.setPort id
  | replyEnd q =>
    have run : s.replyEnds q = t := Host.Outcome.next.inj run
    exact run ▸ State.replyEnds_keeps b (State.warmRestart_inBounds b)
      (fun _ _ fits => b.setPort fits) q
  | portByte q x =>
    have run : s.portByte q x = t := Host.Outcome.next.inj run
    obtain ⟨r, h⟩ | ⟨kind, tag, body, h⟩ := s.portByte_cases q x
    · exact run ▸ h ▸ b.setPort id
    · exact run ▸ h ▸ State.request_inBounds (handlerOf_does q tag body kind) b

theorem exec_soundService {c : Instr} (run : exec c s = .next t) (b : SoundService s) :
    SoundService t := by
  cases commandClass c with
  | link l on =>
    by_cases echo : ∃ o e, c = .echo l o e
    · obtain ⟨o, e, rfl⟩ := echo
      exact exec_echo_soundService run b
    · exact (exec_linkEvent (p := ⟨True, True, False, True⟩) on (fun o e h => echo ⟨o, e, h⟩)
        (fun _ => b.quiet) trivial trivial run).soundService trivial id b
  | clock on =>
    exact (exec_clockEvent_event (p := ⟨False, False, False, True⟩) s on run).soundService trivial id b
  | request r on =>
    obtain ⟨f, does, runs⟩ := exec_request_does on
    exact Host.Outcome.next.inj ((runs s).symm.trans run) ▸ State.request_soundService does b
  | mark l m =>
    exact (exec_markFrame_event (p := ⟨False, False, False, True⟩) l s m run).soundService trivial id b
  | rtmStep =>
    exact ((Acts.takeRtmNotice (p := ⟨False, False, False, True⟩) s).ended run).soundService trivial id b
  | repost place =>
    exact (Acts.ended (p := ⟨True, True, False, True⟩)
      (.setCru trivial trivial s _ fun h => h.repostAt place _) run).soundService trivial id b
  | coldReset x y =>
    have run : s.coldReset x y = t := Host.Outcome.next.inj run
    exact run ▸ State.coldReset_soundService x y
  | warmRestart =>
    cases port : s.restartPort with
    | none => exact Host.Outcome.next.inj ((exec_warmRestart_of_no_port s port).symm.trans run) ▸ b
    | some q =>
      exact Host.Outcome.next.inj ((exec_warmRestart_of_port s port).symm.trans run) ▸
        State.warmRestart_soundService q
  | checkFail q =>
    obtain ⟨q, r, rfl⟩ := exec_portCommand run (.inl ⟨q, rfl⟩)
    exact b.setPort _ _
  | abandoned q cause =>
    obtain ⟨q, r, rfl⟩ := exec_portCommand run (.inr ⟨q, cause, rfl⟩)
    exact b.setPort _ _
  | replyEnd q =>
    have run : s.replyEnds q = t := Host.Outcome.next.inj run
    exact run ▸ State.replyEnds_keeps b (fun q => State.warmRestart_soundService q)
      (fun _ _ _ => b.setPort _ _) q
  | portByte q x =>
    have run : s.portByte q x = t := Host.Outcome.next.inj run
    obtain ⟨r, h⟩ | ⟨kind, tag, body, h⟩ := s.portByte_cases q x
    · exact run ▸ h ▸ b.setPort _ _
    · exact run ▸ h ▸ State.request_soundService (handlerOf_does q tag body kind) b

/-! ### Every step -/

/-- What every command keeps, and the queue, the choices and the passing of a period leave, every
step keeps. -/
theorem step_keeps {P : State → Prop} (command : ∀ {c s t}, exec c s = .next t → P s → P t)
    (queue : ∀ {s : State} (q : List Instr), P s → P { s with pending := q })
    (choice : ∀ {s : State} (n : Nat), P s → P { s with choices := n })
    (tick : ∀ {s : State}, P s → P s.tick) (hs : P s) (run : step s = .next t) : P t := by
  unfold step at run
  split at run
  · unfold State.idleStep at run
    split at run
    · exact Host.Outcome.next.inj run ▸ tick hs
    · exact command run (choice _ hs)
  · exact command run (queue _ hs)

/-- Settles O58: every write an event is made of keeps the bounds. -/
theorem tablesStayInBounds : Obligations.TablesStayInBounds := fun _ _ =>
  step_keeps exec_inBounds
    (fun _ b => { b with ports := fun q => by cases q; exacts [b.ports .a, b.ports .b] })
    (fun _ b => { b with ports := fun q => by cases q; exacts [b.ports .a, b.ports .b] })
    (fun b => { b with ports := fun q => by cases q; exacts [b.ports .a, b.ports .b] })

/-- Settles O59: only an attachment brings an entry into service, past the checks of R77; and the
flags are settled at the end of every event. -/
theorem serviceStaysSound : Obligations.ServiceStaysSound := fun _ _ =>
  step_keeps exec_soundService
    (fun _ b => ⟨b.oneHolder, b.serving, b.quiet, fun l => (b.flags l).of_same ⟨rfl, rfl⟩ rfl⟩)
    (fun _ b => ⟨b.oneHolder, b.serving, b.quiet, fun l => (b.flags l).of_same ⟨rfl, rfl⟩ rfl⟩)
    (fun b => ⟨b.oneHolder, b.serving, b.quiet, fun l => (b.flags l).of_same ⟨rfl, rfl⟩ rfl⟩)

end Sys2Proof.Machine
end

section
/-!
PROOFS. The queue of commands and the management ports: replies (O2), the receiver (O3, O4), requests
not taken (O5), the structure checks (O6), the step (O1) and cold reset (O13).
-/

namespace Sys2Proof.Machine

variable {s : State} {p : Port}

theorem step_of_waiting {c : Instr} {rest : List Instr} (front : s.pending = c :: rest) :
    step s = exec c { s with pending := rest } := by
  unfold step
  rw [front]

theorem step_of_empty (empty : s.pending = []) : step s = s.idleStep := by
  unfold step
  rw [empty]

theorem State.idleStep_of_idle (idle : s.dueEvents = []) : s.idleStep = .next s.tick := by
  unfold State.idleStep
  rw [idle]

theorem getD_mem {α : Type} {l : List α} {i : Nat} (h : i < l.length) (d : α) : l.getD i d ∈ l := by
  rw [List.getD_eq_getElem l d h]
  exact List.getElem_mem h

theorem State.idleStep_of_due (due : s.dueEvents ≠ []) :
    ∃ c ∈ s.dueEvents, s.idleStep = exec c { s with choices := s.choices + 1 } := by
  unfold State.idleStep
  split
  · next none => exact absurd none due
  · next first rest some =>
    have place : Config.tieBreak s.choices % (rest.length + 1) < (first :: rest).length :=
      Nat.mod_lt _ (Nat.succ_pos rest.length)
    refine ⟨_, ?_, rfl⟩
    rw [some]
    exact getD_mem place first

/-- Settles O1: a case of the step for each kind of queue. -/
theorem stepRunsFrontCommand : Obligations.StepRunsFrontCommand :=
  ⟨fun _ _ _ => step_of_waiting, fun _ empty =>
    ⟨fun due => step_of_empty empty ▸ State.idleStep_of_due due,
      fun idle => (step_of_empty empty).trans (State.idleStep_of_idle idle)⟩⟩

/-! ### Replies (R176, R178) -/

theorem satAdd_eq_min (limit a b : Nat) : satAdd limit a b = min limit (a + b) := by
  unfold satAdd
  split <;> omega

theorem PortState.handReply_full {x : PortState} (full : 16 ≤ x.queue.length) (r : Reply) :
    x.handReply r = { x with
      dropped := min 255 (x.dropped + 1), held := if r.endsHold then none else x.held } := by
  simp [PortState.handReply, full, satAdd_eq_min]

theorem PortState.handReply_busy {x : PortState} (room : x.queue.length < 16)
    (sending : x.inTx.isSome = true) (r : Reply) : x.handReply r = { x with queue := x.queue ++ [r] } := by
  obtain ⟨y, hy⟩ := Option.isSome_iff_exists.mp sending
  simp [PortState.handReply, Nat.not_le_of_lt room, PortState.beginNext, hy]

theorem PortState.handReply_idle {x : PortState} (empty : x.queue = []) (still : x.inTx = none)
    (r : Reply) :
    x.handReply r = { x with inTx := some r, held := if r.endsHold then none else x.held } := by
  simp [PortState.handReply, PortState.beginNext, empty, still]

theorem State.replyEnds_restart {r : Reply} (sending : (s.port p).inTx = some r)
    (restart : s.restartPort = some p) : s.replyEnds p = s.warmRestart p := by
  simp [State.replyEnds, sending, restart]

theorem State.replyEnds_next {r : Reply} (sending : (s.port p).inTx = some r)
    (other : s.restartPort ≠ some p) :
    s.replyEnds p = s.setPort p { s.port p with inTx := none }.beginNext := by
  simp [State.replyEnds, sending, other]

/-- Settles O2: by the cases of a port's queue and of the reply that ends. -/
theorem repliesLeaveInOrder : Obligations.RepliesLeaveInOrder := by
  refine ⟨fun x r => ⟨fun full => PortState.handReply_full full r,
    fun room sending => PortState.handReply_busy room sending r,
    fun empty still => PortState.handReply_idle empty still r⟩, fun p s r sending => ⟨fun restart => ?_, fun other => ?_⟩⟩
  · rw [exec_warmRestart_of_port s restart]
    exact congrArg Host.Outcome.next (State.replyEnds_restart sending restart)
  · have ends : exec (.replyTransmissionEnd p) s =
        .next (s.setPort p { s.port p with inTx := none }.beginNext) :=
      congrArg Host.Outcome.next (State.replyEnds_next sending other)
    rw [ends]
    refine ⟨fun empty => ?_, fun q rest waiting => ?_⟩
    · simp [PortState.beginNext, empty]
    · simp [PortState.beginNext, waiting]

/-! ### The receiver (R174, R175) -/

theorem State.portByte_hunting (hunting : (s.port p).receiver = .hunting) (b : Byte) :
    s.portByte p b =
      if b = 0xB5#8 then s.setPort p { s.port p with receiver := .assembling [] s.osc } else s := by
  simp [State.portByte, hunting]

theorem State.portByte_assembling {bytes : List Byte} {last : Nat}
    (assembling : (s.port p).receiver = .assembling bytes last) (b : Byte) :
    s.portByte p b = s.assemble p (bytes ++ [b]) := by
  simp [State.portByte, assembling]

theorem State.assemble_badLength {length : Byte} (bytes : List Byte)
    (bad : length.toNat < 2 ∨ 242 < length.toNat) : s.assemble p (length :: bytes) = s.hunt p := by
  exact if_pos bad

theorem State.assemble_more {length : Byte} {bytes : List Byte}
    (fits : 2 ≤ length.toNat ∧ length.toNat ≤ 242)
    (more : bytes.length + 1 < frameBytes length) :
    s.assemble p (length :: bytes) =
      s.setPort p { s.port p with receiver := .assembling (length :: bytes) s.osc } := by
  have good : ¬ (length.toNat < 2 ∨ 242 < length.toNat) := by omega
  exact (if_neg good).trans (if_pos more)

theorem State.assemble_last {length : Byte} {bytes : List Byte}
    (fits : 2 ≤ length.toNat ∧ length.toNat ≤ 242)
    (last : frameBytes length ≤ bytes.length + 1) :
    s.assemble p (length :: bytes) = s.frameComplete p (length :: bytes) := by
  have good : ¬ (length.toNat < 2 ∨ 242 < length.toNat) := by omega
  exact (if_neg good).trans (if_neg (Nat.not_lt_of_le last))

/-- Settles O3: by the state of the receiver. -/
theorem managementReceiver : Obligations.ManagementReceiver := by
  refine ⟨fun p s bytes last assembling => ⟨rfl, ?_, fun silent => ?_, fun short => ?_⟩,
    fun p s b => ⟨fun hunting => ?_, fun last assembling => ?_⟩⟩
  · refine congrArg Host.Outcome.next ?_
    simp [State.abandonFrame, assembling, State.hunt]
  · refine congrArg Host.Outcome.next ?_
    simp [State.abandonFrame, assembling, State.hunt, silentSince, silent]
  · refine congrArg Host.Outcome.next ?_
    simp [State.abandonFrame, assembling, short, State.hunt]
  · exact congrArg Host.Outcome.next (State.portByte_hunting hunting b)
  · refine congrArg Host.Outcome.next ((State.portByte_assembling assembling b).trans ?_)
    split
    · next fits => exact State.assemble_more fits (by simp [frameBytes])
    · next bad => exact State.assemble_badLength _ (by omega)

/-! ### Requests not taken (R176) -/

theorem State.request_busy (busy : s.mgp.restartPending = true ∨ (s.port p).held ≠ none)
    (kind tag : Byte) (f : Handler) :
    s.request p kind tag f = (s.setPort p { s.port p with receiver := .hunting }).handReply p
      { kind := kind ||| 0x80#8, tag := tag, body := [8#8], endsHold := false } := by
  have reply : mkReply kind tag .busy [] false =
    { kind := kind ||| 0x80#8, tag := tag, body := [8#8], endsHold := false } := rfl
  unfold State.request State.dispatch
  obtain restart | held := busy
  · rw [if_pos (by simpa [State.hunt] using restart), reply]
    rfl
  · have holds : ((s.hunt p).port p).held.isSome = true := by
      simpa [State.hunt, Option.isSome_iff_ne_none] using held
    rw [if_pos holds, reply]
    split <;> rfl

theorem State.request_dropped (noRestart : s.mgp.restartPending = false)
    (noHeld : (s.port p).held = none) (full : 16 ≤ (s.port p).queue.length) (kind tag : Byte)
    (f : Handler) : s.request p kind tag f = s.setPort p { s.port p with
      receiver := .hunting, dropped := min 255 ((s.port p).dropped + 1) } := by
  unfold State.request State.dispatch
  rw [if_neg (by simp [State.hunt, noRestart]), if_neg (by simp [State.hunt, noHeld]),
    if_pos (by simpa [State.hunt] using full)]
  simp [State.hunt, satAdd_eq_min]

/-- Settles O5: the first three cases of the dispatch, whatever the handler. -/
theorem requestsNotTaken : Obligations.RequestsNotTaken := by
  refine ⟨fun c r s on busy => ?_, fun c r s on noRestart noHeld full => ?_⟩
  · obtain ⟨f, -, runs⟩ := exec_request_does on
    rw [runs, State.request_busy busy]
  · obtain ⟨f, -, runs⟩ := exec_request_does on
    rw [runs, State.request_dropped noRestart noHeld full]

/-! ### The structure of requests (R177) -/

/-- A number that names no member of a set of `n` is decoded to nothing. -/
theorem linkOf_none {v : Nat} (h : 39 < v) : linkOf v = none := dif_neg (by omega)
theorem windowOf_none {v : Nat} (h : 7 < v) : windowOf v = none := dif_neg (by omega)
theorem classOf_none {v : Nat} (h : 3 < v) : classOf v = none := dif_neg (by omega)
theorem groupOf_none {v : Nat} (h : 4 < v) : groupOf v = none := dif_neg (by omega)

theorem refIdOf_none {v : Nat} (h : 1 < v) : refIdOf v = none := by
  unfold refIdOf
  split <;> first | omega | rfl

theorem portOf_none {v : Nat} (h : 1 < v) : portOf v = none := by
  unfold portOf
  split <;> first | omega | rfl

theorem condKindOfCode_none {v : Nat} (h : 1 ≤ v → 24 < v) : CondKind.ofCode v = none := by
  unfold CondKind.ofCode
  split <;> first | omega | rfl

theorem driftSelectorOf_none {v : Nat} (h : 39 < v) (all : v ≠ 255) : driftSelectorOf v = none := by
  simp [driftSelectorOf, all, linkOf_none h]

theorem groupSelectorOf_none {v : Nat} (h : 4 < v) (all : v ≠ 255) : groupSelectorOf v = none := by
  simp [groupSelectorOf, all, groupOf_none h]

/-- A first field that names no thing is answered MALFORMED by every handler (check 3 of R177). -/
theorem handlerOf_unnamed (p : Port) (kind tag : Byte) (body : List Byte)
    (length : requestLength kind = some body.length)
    (unnamed : namesThing kind (field body 0 1) = false) (s : State) :
    handlerOf p kind tag body s = (s, some (.malformed, [])) := by
  revert length unnamed
  unfold requestLength namesThing handlerOf
  generalize kind.toNat = k
  intro length unnamed
  split at unnamed
  all_goals simp only [decide_eq_false_iff_not, not_le, not_or, not_and, Option.some.injEq,
    reduceCtorEq] at length unnamed
  case h_1 => simp [setReferenceH, ← length, refIdOf_none unnamed, withField_none]
  case h_2 => simp [setLinkH, ← length, linkOf_none unnamed, withField_none]
  case h_3 => simp [setLinkRangeH, ← length, linkOf_none unnamed, withField_none]
  case h_4 => simp [resetLinkH, ← length, linkOf_none unnamed, withField_none]
  case h_5 => simp [readRackH, ← length, linkOf_none unnamed, withField_none]
  case h_6 => simp [readWindowH, ← length, linkOf_none unnamed, withField_none]
  case h_7 => simp [clearQuarantineH, ← length, linkOf_none unnamed, withField_none]
  case h_8 =>
    simp [setDriftLimitsH, ← length, driftSelectorOf_none unnamed.1 unnamed.2, withField_none]
  case h_9 => simp [setSourceWindowH, ← length, windowOf_none unnamed, withField_none]
  case h_10 => simp [setClassH, ← length, classOf_none unnamed, withField_none]
  case h_11 => simp [setReportingH, ← length, portOf_none unnamed, withField_none]
  case h_12 => simp [setRecordingH, ← length, condKindOfCode_none unnamed, withField_none]
  case h_13 =>
    simp [setActionH, ← length, groupSelectorOf_none unnamed.1 unnamed.2, withField_none]

/-- A request refused with its result byte alone. -/
theorem exec_request_bare {c : Instr} {r : Request} {res : Result} (on : requestOf c = some r)
    (formed : c.wellFormed = true) (accepts : Accepts s r.port)
    (refused : ∀ t, handlerOf r.port r.kind r.tag r.body t = (t, some (res, []))) :
    exec c s = .next ((s.taken r.port r.kind r.tag).handReply r.port
      { kind := r.kind ||| 0x80#8, tag := r.tag, body := [res.code], endsHold := true }) := by
  rw [exec_request on formed, State.request_answered accepts _ _ (refused _)]
  rfl

/-- Settles O6: the three checks come before every handler's own. -/
theorem structureOfRequestsChecked : Obligations.StructureOfRequestsChecked := by
  refine ⟨fun c r n s on formed accepts length wrong => ?_,
    fun c r s on formed accepts length unnamed => ?_, fun p kind tag body s accepts => ?_⟩
  · exact exec_request_bare on formed accepts
      (handlerOf_wrongLength r.port r.kind r.tag r.body n length wrong)
  · exact exec_request_bare on formed accepts
      (handlerOf_unnamed r.port r.kind r.tag r.body length unnamed)
  · have answered := State.request_answered (f := unknownHandler) accepts kind tag rfl
    exact congrArg Host.Outcome.next answered

/-! ### Frames byte by byte (R174, R175) -/

theorem execAll_portBytes (p : Port) (bs : List Byte) (s : State) :
    execAll (bs.map (Instr.managementPortByte p)) s = .next (bs.foldl (fun t b => t.portByte p b) s) := by
  induction bs generalizing s with
  | nil => rfl
  | cons b bs ih => exact ih (s.portByte p b)

/-- A port with a frame in assembly. -/
def State.assemblingOn (s : State) (p : Port) (bytes : List Byte) (last : Nat) : State :=
  s.setPort p { s.port p with receiver := .assembling bytes last }

theorem State.portByte_assemblingOn (bytes : List Byte) (last : Nat) (b : Byte) :
    (s.assemblingOn p bytes last).portByte p b =
      (s.assemblingOn p bytes last).assemble p (bytes ++ [b]) :=
  State.portByte_assembling (last := last) (by simp [State.assemblingOn]) b

/-- The bytes of a frame but its last are assembled. -/
theorem State.assemble_run {length : Byte} (fits : 2 ≤ length.toNat ∧ length.toNat ≤ 242)
    (bs pre : List Byte) (last : Nat) (more : pre.length + bs.length + 1 < frameBytes length) :
    ∃ last', bs.foldl (fun t b => t.portByte p b) (s.assemblingOn p (length :: pre) last) =
      s.assemblingOn p (length :: (pre ++ bs)) last' := by
  induction bs generalizing pre last with
  | nil => exact ⟨last, by simp⟩
  | cons b bs ih =>
    simp only [List.length_cons] at more
    obtain ⟨last', run⟩ := ih (pre ++ [b]) s.osc (by simp; omega)
    refine ⟨last', ?_⟩
    rw [List.foldl_cons, State.portByte_assemblingOn, List.cons_append,
      State.assemble_more fits (by simp; omega)]
    simpa [State.assemblingOn] using run

/-- A frame taken byte by byte on a HUNTING port is judged complete at its last byte. -/
theorem State.portBytes_frame (hunting : (s.port p).receiver = .hunting) {length : Byte}
    (fits : 2 ≤ length.toNat ∧ length.toNat ≤ 242) (bs : List Byte)
    (whole : bs.length + 1 = frameBytes length) :
    ∃ last, (0xB5#8 :: length :: bs).foldl (fun t b => t.portByte p b) s =
      (s.assemblingOn p (length :: bs.dropLast) last).frameComplete p (length :: bs) := by
  have some_ : bs ≠ [] := by
    rintro rfl
    simp [frameBytes] at whole
  have len : bs.dropLast.length + 1 = bs.length := by
    have := List.length_pos_iff.mpr some_
    simp
    omega
  have first : (s.portByte p 0xB5#8).portByte p length = s.assemblingOn p [length] s.osc := by
    rw [State.portByte_hunting hunting, if_pos rfl]
    refine (State.portByte_assemblingOn [] s.osc length).trans ?_
    rw [List.nil_append, State.assemble_more fits (by simp [frameBytes])]
    simp [State.assemblingOn]
  obtain ⟨last, run⟩ := State.assemble_run (s := s) (p := p) fits bs.dropLast [] s.osc
    (by simp only [List.length_nil, Nat.zero_add]; omega)
  refine ⟨last, ?_⟩
  rw [List.foldl_cons, List.foldl_cons, first]
  conv_lhs => rw [← List.dropLast_append_getLast some_]
  rw [List.foldl_append, run, List.foldl_cons, List.foldl_nil, State.portByte_assemblingOn,
    List.nil_append, List.cons_append, List.dropLast_append_getLast some_]
  exact State.assemble_last fits (by omega)

/-- The content of a request frame, which its check covers: length, kind, tag, body. -/
def Request.content (r : Request) : List Byte :=
  BitVec.ofNat 8 (r.body.length + 2) :: r.kind :: r.tag :: r.body

theorem Request.frame_eq (r : Request) :
    r.frame = 0xB5#8 :: (r.content ++ beBytes 2 (managementCheck r.content).toNat) := rfl

theorem Request.content_length (r : Request) : r.content.length = r.body.length + 3 := rfl

/-- A complete frame of a request's content: the request where its check is right, else nothing. -/
theorem State.frameComplete_content (r : Request) (t : State) (check : List Byte)
    (two : check.length = 2) :
    t.frameComplete r.port (r.content ++ check) =
      if check = beBytes 2 (managementCheck r.content).toNat then
        t.request r.port r.kind r.tag (handlerOf r.port r.kind r.tag r.body)
      else t.hunt r.port := by
  have split : (r.content ++ check).length - 2 = r.content.length := by simp [two]
  have spells : natOfBytes check = (managementCheck r.content).toNat ↔
      check = beBytes 2 (managementCheck r.content).toNat := by
    refine ⟨fun h => ?_, fun h => ?_⟩
    · rw [← h, ← two]
      exact (beBytes_natOfBytes check).symm
    · rw [h]
      exact natOfBytes_beBytes 2 _ (managementCheck r.content).isLt
  have kind : BitVec.ofNat 8 (field r.content 1 1) = r.kind := by
    simp [Request.content, field, natOfBytes]
  have tag : BitVec.ofNat 8 (field r.content 2 1) = r.tag := by
    simp [Request.content, field, natOfBytes]
  have body : r.content.drop 3 = r.body := rfl
  unfold State.frameComplete
  dsimp only
  rw [split, List.take_left, List.drop_left, kind, tag, body]
  simp only [spells]

theorem State.hunt_assemblingOn (hunting : (s.port p).receiver = .hunting) (bytes : List Byte)
    (last : Nat) : (s.assemblingOn p bytes last).hunt p = s := by
  have same : ({ s.port p with receiver := .hunting } : PortState) = s.port p := by rw [← hunting]
  simp [State.assemblingOn, State.hunt, same]

/-- A frame in assembly is gone once the request dispatches. -/
theorem State.request_assemblingOn (hunting : (s.port p).receiver = .hunting) (bytes : List Byte)
    (last : Nat) (kind tag : Byte) (f : Handler) :
    (s.assemblingOn p bytes last).request p kind tag f = s.request p kind tag f := by
  have same : s.hunt p = s := by
    have same : ({ s.port p with receiver := .hunting } : PortState) = s.port p := by rw [← hunting]
    simp [State.hunt, same]
  unfold State.request
  rw [State.hunt_assemblingOn hunting, same]

/-- A request that is a command fits a frame. -/
theorem Request.body_length {c : Instr} {r : Request} (on : requestOf c = some r)
    (formed : c.wellFormed = true) : r.body.length ≤ 240 := by
  cases c <;> cases on <;> simp_all [Instr.wellFormed, bodyFits]

/-- The content of a request frame with two check bytes, taken byte by byte on a HUNTING port. -/
theorem execAll_frame (r : Request) (fits : r.body.length ≤ 240)
    (hunting : (s.port r.port).receiver = .hunting) (check : List Byte) (two : check.length = 2) :
    execAll ((0xB5#8 :: (r.content ++ check)).map (Instr.managementPortByte r.port)) s = .next
      (if check = beBytes 2 (managementCheck r.content).toNat then
        s.request r.port r.kind r.tag (handlerOf r.port r.kind r.tag r.body)
      else s) := by
  have length : (BitVec.ofNat 8 (r.body.length + 2)).toNat = r.body.length + 2 := by
    simp only [BitVec.toNat_ofNat]
    omega
  obtain ⟨last, run⟩ := State.portBytes_frame hunting
    (length := BitVec.ofNat 8 (r.body.length + 2)) (by omega)
    (r.kind :: r.tag :: r.body ++ check) (by simp [frameBytes, length, two]; omega)
  rw [execAll_portBytes]
  refine congrArg Host.Outcome.next (run.trans ((State.frameComplete_content r _ check two).trans ?_))
  rw [State.request_assemblingOn hunting, State.hunt_assemblingOn hunting]

/-- Settles O4: the receiver assembles the frame and its last byte runs the request, or discards it. -/
theorem frameBytesRunTheRequest : Obligations.FrameBytesRunTheRequest := by
  intro c r s on formed hunting
  have fits := Request.body_length on formed
  have whole := Request.frame_eq r
  have drop : r.frame.drop (r.body.length + 4) = beBytes 2 (managementCheck r.content).toNat := by
    rw [whole, List.drop_succ_cons, ← r.content_length, List.drop_left]
  have take : r.frame.take (r.body.length + 4) = 0xB5#8 :: r.content := by
    rw [whole, List.take_succ_cons, ← r.content_length, List.take_left]
  refine ⟨?_, fun x y wrong => ?_⟩
  · rw [whole, execAll_frame r fits hunting _ (beBytes_length 2 _), if_pos rfl, exec_request on formed]
  · rw [take, List.cons_append, execAll_frame r fits hunting [x, y] rfl, if_neg (drop ▸ wrong)]

/-! ### Cold reset -/

/-- Settles O13: each block of the new state is its cold value. -/
theorem coldResetOfThePart : Obligations.ColdResetOfThePart := by
  intro baud1 baud0 s
  refine ⟨s.coldReset baud1 baud0, rfl, rfl, ?_, rfl, rfl, rfl, rfl, rfl, rfl, rfl, rfl, rfl,
    fun l => ?_, rfl, rfl, rfl, rfl, rfl, rfl, rfl, rfl, rfl, fun p => ?_⟩
  · cases baud1 <;> cases baud0 <;> rfl
  · have link : (s.coldReset baud1 baud0).link l = .cold l.val := by
      simp [State.link, State.coldReset, State.reset]
    have drift : (s.coldReset baud1 baud0).driftOf l = .cold := by
      simp [State.driftOf, State.coldReset, State.reset]
    rw [link, drift, State.entry_coldReset]
    exact ⟨rfl, rfl, rfl, rfl, rfl⟩
  · cases p <;> exact ⟨rfl, rfl, rfl, rfl⟩

end Sys2Proof.Machine
end

section
/-!
PROOFS. The fields of a body of bytes (R186): what a request carries and what a reply shows.
-/

namespace Sys2Proof.Machine

/-! ### Lengths -/

@[simp] theorem beInt_length (n : Nat) (v : Int) : (beInt n v).length = n := by
  unfold beInt; split <;> simp

@[simp] theorem byteOf_length (v : Nat) : (byteOf v).length = 1 := beBytes_length 1 v
@[simp] theorem zeros_length (n : Nat) : (zeros n).length = n := List.length_replicate
@[simp] theorem optBytes_length (n : Nat) (v : Option Nat) : (optBytes n v).length = n :=
  beBytes_length n _
@[simp] theorem optInt_length (n : Nat) (v : Option Int) : (optInt n v).length = n := beInt_length n _

/-! ### Numbers -/

theorem natOfBytes_byteOf {v : Nat} (h : v < 256) : natOfBytes (byteOf v) = v :=
  natOfBytes_beBytes 1 v h

theorem natOfBytes_singleton (b : Byte) : natOfBytes [b] = b.toNat := by simp [natOfBytes]

@[simp] theorem flagByte_toNat (b : Bool) : (flagByte b).toNat = b.toNat := by cases b <;> rfl

@[simp] theorem flagOf_toNat (b : Bool) : flagOf b.toNat = some b := by cases b <;> rfl

/-- The number a two's-complement field spells, for a field of at least one byte. -/
theorem signedOf_beInt {n : Nat} {v : Int} (fits : fitsSigned n v = true) :
    signedOf n (natOfBytes (beInt n v)) = v := by
  obtain ⟨low, high⟩ := of_decide_eq_true fits
  have whole : 0 < (256 ^ n : Nat) := Nat.pow_pos (by omega)
  have cast : ((256 ^ n : Nat) : Int) = 256 ^ n := by push_cast; rfl
  have mod_lt := Int.emod_lt_of_pos v (b := 256 ^ n) (by omega)
  have mod_nonneg := Int.emod_nonneg v (b := 256 ^ n) (by omega)
  rw [beInt, if_pos fits, natOfBytes_beBytes _ _ (by omega), signedOf]
  rcases lt_or_ge v 0 with neg | pos
  · have shifted : v % 256 ^ n = v + 256 ^ n := by
      rw [← Int.add_emod_right, Int.emod_eq_of_lt (by omega) (by omega)]
    rw [if_neg (by omega)]
    omega
  · have same : v % 256 ^ n = v := Int.emod_eq_of_lt pos (by omega)
    rw [if_pos (by omega)]
    omega

theorem fitsSigned_four {v : Int} (low : -2147483648 ≤ v) (high : v < 2147483648) :
    fitsSigned 4 v = true := decide_eq_true ⟨by norm_num; exact low, by norm_num; exact high⟩

theorem fitsSigned_eight {v : Int} (low : -9223372036854775808 ≤ v) (high : v < 9223372036854775808) :
    fitsSigned 8 v = true := decide_eq_true ⟨by norm_num; exact low, by norm_num; exact high⟩

/-! ### Fields -/

/-- A field that is the whole body. -/
theorem field_all {a : List Byte} {n : Nat} (h : a.length = n) : field a 0 n = natOfBytes a := by
  simp [field, ← h]

theorem fieldInt_beInt {n : Nat} {v : Int} (fits : fitsSigned n v = true) :
    fieldInt (beInt n v) 0 n = v := by
  rw [fieldInt, field_all (beInt_length n v), signedOf_beInt fits]

/-! ### Clampings -/

theorem clampSym_eq (x : Nat) (v : Int) : clampSym x v = max (-(x : Int)) (min (x : Int) v) := by
  unfold clampSym; split <;> (try split) <;> omega

theorem clampRange_eq {lo hi : Nat} (h : lo ≤ hi) (v : Nat) :
    clampRange lo hi v = max lo (min hi v) := by
  unfold clampRange; split <;> (try split) <;> omega

theorem divUp_natCast (a : Nat) : (divUp (a : Int) 1000000000).toNat = (a + 999999999) / 1000000000 := by
  unfold divUp; omega

end Sys2Proof.Machine
end

section
/-!
PROOFS. Hall time (chapter 1): the segment, the target second, the boundary, READ TIME, SET RATE and
STEP TIME.
-/

namespace Sys2Proof.Machine

/-! ### The segment -/

theorem nextSecondGoal_of_lt {h : Nat} (low : h < 18446744073709551616) :
    nextSecondGoal h = if (h / 1000000000 + 1) * 1000000000 < 18446744073709551616
      then (h / 1000000000 + 1) * 1000000000 else 18446744073709551616 := by
  simp [nextSecondGoal, two64, second, Nat.div_eq_of_lt low, Nat.mod_eq_of_lt low]

/-- Settles O14: one nanosecond adds a rate below a thousandth of a nanosecond to the correction, and
the target second is the next multiple above. -/
theorem hallTimeAndTargetSecond : Obligations.HallTimeAndTargetSecond := by
  constructor
  · intro g o ⟨low, high⟩
    have next : (((o + 1 : Nat) : Int) - g.anchorO) * g.rate =
        ((o : Int) - g.anchorO) * g.rate + g.rate := by push_cast; ring
    simp only [Segment.raw, divDown, next]
    generalize ((o : Int) - g.anchorO) * g.rate = x
    push_cast
    omega
  · intro h low
    rw [nextSecondGoal_of_lt low]
    refine ⟨?_, fun m above second below => ?_, ?_⟩ <;> split <;> omega

theorem divUp_le_iff {a b n : Int} (pos : 0 < b) : divUp a b ≤ n ↔ a ≤ n * b := by
  have quotient := Int.le_ediv_iff_mul_le (a := -n) (b := -a) pos
  rw [Int.neg_mul] at quotient
  unfold divUp
  omega

/-- Hall time reaches a goal when the elapsed time at the rate has made up the difference (R7). -/
theorem Segment.le_raw_iff (g : Segment) (goal o : Nat) : (goal : Int) ≤ g.raw o ↔
    ((goal : Int) - g.anchorH) * 1000000000000 ≤
      ((o : Int) - g.anchorO) * (1000000000000 + g.rate) := by
  have sum : ((o : Int) - g.anchorO) * (1000000000000 + g.rate) =
      ((o : Int) - g.anchorO) * 1000000000000 + ((o : Int) - g.anchorO) * g.rate := by ring
  rw [sum]
  simp only [Segment.raw, divDown]
  generalize ((o : Int) - g.anchorO) * g.rate = x
  omega

theorem Segment.firstReach_least {g : Segment} {goal : Nat} (rate : rateInRange g.rate)
    (above : g.anchorH ≤ goal) :
    g.anchorO ≤ g.firstReach goal ∧ (goal : Int) ≤ g.raw (g.firstReach goal) ∧
      ∀ o, g.anchorO ≤ o → (goal : Int) ≤ g.raw o → g.firstReach goal ≤ o := by
  obtain ⟨low, high⟩ := rate
  have pos : (0 : Int) < 1000000000000 + g.rate := by omega
  have least := fun n => divUp_le_iff (a := ((goal : Int) - g.anchorH) * 1000000000000) (n := n) pos
  have start : 0 ≤ divUp (((goal : Int) - g.anchorH) * 1000000000000) (1000000000000 + g.rate) := by
    by_contra less
    have := (least (-1)).1 (by omega)
    omega
  have steps : ((g.firstReach goal : Nat) : Int) - g.anchorO =
      divUp (((goal : Int) - g.anchorH) * 1000000000000) (1000000000000 + g.rate) := by
    unfold Segment.firstReach; omega
  refine ⟨by unfold Segment.firstReach; omega, ?_, fun o _ reached => ?_⟩
  · rw [Segment.le_raw_iff, steps]
    exact (least _).1 (le_refl _)
  · have := (least _).2 ((g.le_raw_iff goal o).1 reached)
    omega

theorem Tsu.boundaryInstant_some {t : Tsu} {x : PendingRate} (h : t.pendingRate = some x) :
    t.boundaryInstant = some (t.inForce.firstReach x.goal) := by simp [Tsu.boundaryInstant, h]

/-- Settles O15. -/
theorem rateBoundary : Obligations.RateBoundary := by
  refine ⟨fun _ _ rate above => Segment.firstReach_least rate above, fun s x held => ⟨fun early => ?_,
    fun reached => ?_⟩⟩ <;> refine congrArg Host.Outcome.next ?_ <;>
    simp only [State.openBoundary, Tsu.settledTo, Tsu.boundaryInstant_some held]
  · rw [if_neg (by omega)]; rfl
  · rw [if_pos reached, Tsu.applyBoundary, held]; rfl

/-! ### READ TIME -/

theorem Tsu.ratesInRange.settledBefore {t : Tsu} (h : t.ratesInRange) (o : Nat) :
    rateInRange (t.settledBefore o).inForce.rate ∧
      ∀ p, (t.settledBefore o).pendingRate = some p → rateInRange p.rate := by
  obtain ⟨force, _, held⟩ := h
  unfold Tsu.settledBefore
  split
  · split
    · unfold Tsu.applyBoundary
      split
      · exact ⟨force, held⟩
      · next x pending => exact ⟨held x pending, fun _ absent => nomatch absent⟩
    · exact ⟨force, held⟩
  · exact ⟨force, held⟩

theorem Tsu.convert_hall_lt (t : Tsu) (o : Nat) : (t.convert o).hall < 18446744073709551616 := by
  simp only [Tsu.convert, Segment.hall, two64]
  omega

theorem TsState.code_lt (x : TsState) : x.code < 256 := by cases x <;> decide

theorem State.shownUHall_lt (s : State) : s.shownUHall.getD 0 < 4294967296 := by
  unfold State.shownUHall
  split
  · cases u : s.uHall with
    | none => decide
    | some v =>
      by_cases small : v < unbounded
      · simpa [Option.filter, small] using Nat.lt_trans small (by decide)
      · simp [Option.filter, small]
  · decide

theorem fitsSigned_rate {v : Int} (h : rateInRange v) : fitsSigned 4 v = true :=
  fitsSigned_four (le_trans (by decide) h.1) (lt_of_le_of_lt h.2 (by decide))

/-- The rate of a pending rate is that of a range, or 0 is shown. -/
theorem fitsSigned_pendingRate {x : Option PendingRate} (h : ∀ p, x = some p → rateInRange p.rate) :
    fitsSigned 4 ((x.map (fun p => p.rate)).getD 0) = true := by
  cases x with
  | none => decide
  | some p => exact fitsSigned_rate (h p rfl)

/-- Settles O16. -/
theorem readTimeAndUncertainty : Obligations.ReadTimeAndUncertainty := by
  constructor
  · intro s
    refine ⟨fun st => ?_, fun st => ?_, fun st => ?_, fun start st held _ => ?_⟩
    · simp [State.uHall, st]
    · rcases st with st | st <;> simp [State.uHall, st, unbounded]
    · simp [State.uHall, st]
    · rw [State.uHall, st, held]
      simp only [Option.getD_some, divUp_natCast, satAdd_eq_min, unbounded]
  · intro p tag s accepts rates osc era
    obtain ⟨force, pending⟩ := rates.settledBefore s.osc
    refine ⟨s.timeBody, congrArg Host.Outcome.next (State.request_answered accepts _ _ ?_), ?_⟩
    · simp [readTimeH, answer, State.timeBody, State.readNow, State.shownUHall, State.declaresTime,
        State.uHall, State.taken]
    · have hall := s.tsu.convert_hall_lt s.osc
      have code := s.rdu.tsState.code_lt
      have shown := s.shownUHall_lt
      have flags : packBits [s.shownUHall.isSome, (s.tsu.settledBefore s.osc).pendingRate.isSome] =
          s.shownUHall.isSome.toNat + 2 * (s.tsu.settledBefore s.osc).pendingRate.isSome.toNat := by
        simp [packBits]
      have flagsLt : packBits [s.shownUHall.isSome,
          (s.tsu.settledBefore s.osc).pendingRate.isSome] < 256 := by
        rw [flags]
        have a := s.shownUHall.isSome.toNat_lt
        have b := (s.tsu.settledBefore s.osc).pendingRate.isSome.toNat_lt
        omega
      rw [← flags]
      have now : s.readNow.hall < 256 ^ 8 := by simpa [State.readNow] using hall
      simp only [State.timeBody, List.append_assoc]
      refine ⟨by simp, ?_, ?_, ?_, ?_, ?_, ?_, ?_, ?_, rfl⟩
      all_goals simp (disch := simp) only [fieldInt, field_append, field_zero_append, field_all,
        beBytes_length, byteOf_length, optBytes_length, beInt_length,
        Nat.reduceSub]
      · exact natOfBytes_beBytes 8 _ (by simpa using osc)
      · exact natOfBytes_beBytes 8 _ now
      · exact natOfBytes_beBytes 2 _ (by simpa using era)
      · exact natOfBytes_byteOf code
      · exact natOfBytes_byteOf flagsLt
      · exact natOfBytes_beBytes 4 _ (by simpa using shown)
      · exact signedOf_beInt (fitsSigned_rate force)
      · exact signedOf_beInt (fitsSigned_pendingRate pending)

/-! ### SET RATE -/

theorem clampResult_sym (x : Nat) (v : Int) : clampResult (decide (clampSym x v ≠ v)) =
    if -(x : Int) ≤ v ∧ v ≤ x then .done else .doneClamped := by
  rw [clampSym_eq]
  unfold clampResult
  split <;> split <;> simp_all
  all_goals omega

/-- Settles O17. -/
theorem setRateRequest : Obligations.SetRateRequest := by
  intro p tag v s accepts low high
  have value : fieldInt (beInt 4 v) 0 4 = v := fieldInt_beInt (fitsSigned_four low high)
  refine ⟨fun free => ?_, fun other => ?_⟩ <;>
    refine congrArg Host.Outcome.next (State.request_answered accepts _ _ ?_)
  · simp only [setRateH, withLength_of_eq _ (beInt_length 4 v), State.taken_rdu, free, if_true, value,
      clampResult_sym]
    simp only [clampSym_eq]
    simp [answer, State.writeRate, Tsu.writeRate, clampSym_eq]
  · simp [setRateH, other, answer, zeros]

end Sys2Proof.Machine
end

section
/-!
PROOFS. A posting finds its way into the condition list and stays there to the end of its event
(R161, R162); and STEP TIME (R17), whose HALL_STEP is one.
-/

namespace Sys2Proof.Machine

/-! ### Posted records -/

/-- A record shows a raise: its kind and scope, its details and its posting instant. -/
structure CondRecord.Shows (r : CondRecord) (k : CondKind) (sc : Scope) (d : Details) (now : Reading) :
    Prop where
  kind : r.kind = k
  scope : r.scope = sc
  details : r.details = d
  posted : r.posted = now
  active : r.active = k.isState

theorem mem_of_updateFirst {α : Type} {test : α → Bool} {f : α → α} {l l' : List α}
    (h : updateFirst test f l = some l') : ∃ x ∈ l, test x = true ∧ f x ∈ l' := by
  induction l generalizing l' with
  | nil => simp [updateFirst] at h
  | cons x xs ih =>
    by_cases met : test x = true
    · simp only [updateFirst, met, if_true, Option.some.injEq] at h
      exact ⟨x, .head _, met, h ▸ .head _⟩
    · simp only [updateFirst, met, Bool.false_eq_true, if_false, Option.map_eq_some_iff] at h
      obtain ⟨ys, found, rfl⟩ := h
      obtain ⟨y, mem, met, new⟩ := ih found
      exact ⟨y, .tail _ mem, met, .tail _ new⟩

theorem mem_updateFirst_of_not {α : Type} {test : α → Bool} {f : α → α} {l l' : List α}
    (h : updateFirst test f l = some l') {x : α} (mem : x ∈ l) (unmet : test x = false) : x ∈ l' := by
  induction l generalizing l' with
  | nil => cases mem
  | cons y ys ih =>
    by_cases met : test y = true
    · simp only [updateFirst, met, if_true, Option.some.injEq] at h
      subst h
      cases mem with
      | head => simp [met] at unmet
      | tail _ mem => exact .tail _ mem
    · simp only [updateFirst, met, Bool.false_eq_true, if_false, Option.map_eq_some_iff] at h
      obtain ⟨zs, found, rfl⟩ := h
      cases mem with
      | head => exact .head _
      | tail _ mem => exact .tail _ (ih found mem)

theorem updateFirst_length {α : Type} {test : α → Bool} {f : α → α} {l l' : List α}
    (h : updateFirst test f l = some l') : l'.length = l.length := by
  induction l generalizing l' with
  | nil => simp [updateFirst] at h
  | cons y ys ih =>
    by_cases met : test y = true
    · simp only [updateFirst, met, if_true, Option.some.injEq] at h
      simp [← h]
    · simp only [updateFirst, met, Bool.false_eq_true, if_false, Option.map_eq_some_iff] at h
      obtain ⟨zs, found, rfl⟩ := h
      simp [ih found]

variable (c : Cru)

/-- With room, a record is appended where some port or the active set needs it. -/
theorem Cru.appendRecord_room (room : c.list.length < 64) (r : CondRecord) :
    c.appendRecord r = if c.needed r then { c with list := c.list ++ [r] } else c := by
  simp only [Cru.appendRecord, if_pos room]

/-- A new record of a kind that some port wants is needed (R159, R161). -/
theorem Cru.needed_newRecord {k : CondKind} (wanted : (c.wants .a k || c.wants .b k) = true)
    (sc : Scope) (d : Details) (now : Reading) (anc : Bool) :
    c.needed (c.newRecord k sc d now anc) = true := by
  revert wanted
  unfold Cru.needed Cru.deliverable Cru.newRecord Cru.freshPend
  cases k.isBroadcast <;> cases k.isState <;> cases c.wants .a k <;> cases c.wants .b k <;> simp

theorem Cru.post_shows (room : c.list.length < 64) {k : CondKind}
    (wanted : (c.wants .a k || c.wants .b k) = true) (sc : Scope) (d : Details) (now : Reading)
    (anc : Bool) : ∃ r ∈ (c.post k sc d now anc).list, r.Shows k sc d now := by
  unfold Cru.post
  split
  · next l found =>
    obtain ⟨x, _, undelivered, new⟩ := mem_of_updateFirst found
    simp only [CondRecord.isUndelivered, Bool.and_eq_true, decide_eq_true_eq] at undelivered
    exact ⟨_, new, undelivered.1.1, undelivered.1.2, rfl, rfl,
      congrArg CondKind.isState undelivered.1.1⟩
  · rw [c.appendRecord_room room, if_pos (c.needed_newRecord wanted sc d now anc)]
    exact ⟨_, List.mem_append_right _ (.head _), rfl, rfl, rfl, rfl, rfl⟩

/-- A posting of another kind leaves a record of a list with room where it stands. -/
theorem Cru.mem_post (room : c.list.length < 64) {k : CondKind} {r : CondRecord} (mem : r ∈ c.list)
    (other : r.kind ≠ k) (sc : Scope) (d : Details) (now : Reading) (anc : Bool) :
    r ∈ (c.post k sc d now anc).list := by
  unfold Cru.post
  split
  · next l found =>
    exact mem_updateFirst_of_not found mem (by simp [CondRecord.isUndelivered, other])
  · rw [c.appendRecord_room room]
    split
    · exact List.mem_append_left _ mem
    · exact mem

theorem Cru.post_length (room : c.list.length < 64) (k : CondKind) (sc : Scope) (d : Details)
    (now : Reading) (anc : Bool) : (c.post k sc d now anc).list.length ≤ c.list.length + 1 := by
  unfold Cru.post
  split
  · next l found => exact (updateFirst_length found).le.trans (Nat.le_succ _)
  · rw [c.appendRecord_room room]
    split <;> simp

@[simp] theorem Cru.activate_wants (k : CondKind) (sc : Scope) (p : Port) (k' : CondKind) :
    (c.activate k sc).wants p k' = c.wants p k' := by
  unfold Cru.activate; split <;> rfl

@[simp] theorem Cru.noteLinkDown_wants (k : CondKind) (sc : Scope) (now : Nat) (p : Port)
    (k' : CondKind) : (c.noteLinkDown k sc now).wants p k' = c.wants p k' := by
  unfold Cru.noteLinkDown; split <;> rfl

/-- A clear of another kind leaves a record where it stands. -/
theorem Cru.mem_clear {k : CondKind} {r : CondRecord} (mem : r ∈ c.list) (other : r.kind ≠ k)
    (sc : Scope) : r ∈ (c.clear k sc).list := by
  unfold Cru.clear
  split
  · exact List.mem_filterMap.2 ⟨r, mem, if_neg fun same => other same.1⟩
  · exact mem

theorem Cru.clear_length (k : CondKind) (sc : Scope) : (c.clear k sc).list.length ≤ c.list.length := by
  unfold Cru.clear
  split
  · exact List.length_filterMap_le _ _
  · exact le_refl _

/-- The end of the event takes no other record than that of CONDITION_LIST_FULL. -/
theorem Cru.mem_settle {r : CondRecord} (mem : r ∈ c.list) (other : r.kind ≠ .conditionListFull) :
    r ∈ c.settleListFull.driveAttention.list := by
  change r ∈ c.settleListFull.list
  unfold Cru.settleListFull
  split
  · exact c.mem_clear mem other _
  · exact mem

variable (s : State)

/-- A raise that is taken and wanted shows in a list with room. -/
theorem State.raiseWith_shows (room : s.cru.list.length < 64) {k : CondKind}
    (recorded : s.cru.records? k = true) (wanted : (s.cru.wants .a k || s.cru.wants .b k) = true)
    (sc : Scope) (d : Details) (f : Bool) :
    ∃ r ∈ (s.raiseWith k sc d f).cru.list, r.Shows k sc d s.readNow := by
  simp only [State.raiseWith, recorded, if_true, State.setCru_cru]
  exact Cru.post_shows _ (by simpa using room) (by simpa using wanted) sc d _ _

theorem State.mem_raiseWith (room : s.cru.list.length < 64) {k : CondKind} {r : CondRecord}
    (mem : r ∈ s.cru.list) (other : r.kind ≠ k) (sc : Scope) (d : Details) (f : Bool) :
    r ∈ (s.raiseWith k sc d f).cru.list := by
  unfold State.raiseWith
  split
  · exact Cru.mem_post _ (by simpa using room) (by simpa using mem) other sc d _ _
  · exact mem

theorem State.raiseWith_length (room : s.cru.list.length < 64) (k : CondKind) (sc : Scope) (d : Details)
    (f : Bool) : (s.raiseWith k sc d f).cru.list.length ≤ s.cru.list.length + 1 := by
  unfold State.raiseWith
  split
  · exact (Cru.post_length _ (by simpa using room) _ _ _ _ _).trans (by simp)
  · exact Nat.le_succ _

/-! ### STEP TIME -/

/-- A reading at or after the anchor of a segment of the part's era is of that era (R5). -/
theorem Tsu.convert_era {t : Tsu} {o : Nat} (era : t.inForce.era = t.era)
    (reached : t.inForce.anchorO ≤ o) : (t.convert o).era = t.era := by
  have settled : (t.settledTo o).inForce.era = t.era ∧ (t.settledTo o).inForce.anchorO ≤ o := by
    unfold Tsu.settledTo
    split
    · next b instant =>
      split
      · next due =>
        unfold Tsu.applyBoundary
        split
        · exact ⟨era, reached⟩
        · next x pending =>
          rw [Tsu.boundaryInstant_some pending, Option.some.injEq] at instant
          exact ⟨rfl, instant ▸ due⟩
      · exact ⟨era, reached⟩
    · exact ⟨era, reached⟩
  simp [Tsu.convert, chooseSegment, settled]

@[simp] theorem Tsu.applyBoundary_rtmNotices (t : Tsu) : t.applyBoundary.rtmNotices = t.rtmNotices := by
  unfold Tsu.applyBoundary; split <;> rfl
@[simp] theorem Tsu.applyBoundary_sduNotices (t : Tsu) : t.applyBoundary.sduNotices = t.sduNotices := by
  unfold Tsu.applyBoundary; split <;> rfl
@[simp] theorem Tsu.applyBoundary_epgNotices (t : Tsu) : t.applyBoundary.epgNotices = t.epgNotices := by
  unfold Tsu.applyBoundary; split <;> rfl

/-- Opening a boundary gives no notice. -/
theorem Tsu.settledBefore_notices (t : Tsu) (o : Nat) :
    (t.settledBefore o).rtmNotices = t.rtmNotices ∧ (t.settledBefore o).sduNotices = t.sduNotices ∧
      (t.settledBefore o).epgNotices = t.epgNotices := by
  unfold Tsu.settledBefore
  split
  · split <;> simp
  · simp

variable {s}

theorem State.stepHall_some {v : Int} (low : 0 ≤ s.tsu.stepTarget s.osc v)
    (high : s.tsu.stepTarget s.osc v < 18446744073709551616) :
    s.stepHall v = some ((s.setTsu (s.tsu.applyStep s.osc v)).raise .hallStep .part
      { step := some v, era := some (s.tsu.applyStep s.osc v).era }) := by
  simp [State.stepHall, Tsu.stepInRange, two64, low, high]

theorem State.stepHall_none {v : Int} (out : s.tsu.stepTarget s.osc v < 0 ∨
    18446744073709551616 ≤ s.tsu.stepTarget s.osc v) : s.stepHall v = none := by
  have beyond : s.tsu.stepInRange s.osc v = false := decide_eq_false (by simp only [two64]; omega)
  simp [State.stepHall, beyond]

/-- An applied step, its event ended: what each block holds (R8 to R12, R17). -/
theorem State.stepHall_ended {v : Int} (low : 0 ≤ s.tsu.stepTarget s.osc v)
    (high : s.tsu.stepTarget s.osc v < 18446744073709551616) :
    ∃ u, s.stepHall v = some u ∧ ClockOnly s (State.endEvent s u) ∧
      (State.endEvent s u).tsu = s.tsu.applyStep s.osc v ∧ (State.endEvent s u).rdu = s.rdu ∧
      (State.endEvent s u).epg = s.epg ∧ (State.endEvent s u).sdu = s.sdu ∧
      (State.endEvent s u).mgp = s.mgp ∧
      (s.cru.list.length < 64 → ∃ r ∈ (State.endEvent s u).cru.list, r.kind = .hallStep ∧
        r.details.step = some v ∧ r.details.era = some (s.tsu.applyStep s.osc v).era ∧
        r.posted.era = (s.tsu.applyStep s.osc v).era) := by
  refine ⟨_, State.stepHall_some low high, (ClockOnly.stepHall s (State.stepHall_some low high)).endEvent,
    ?_⟩
  rw [(ClockOnly.stepHall s (State.stepHall_some low high)).endEvent_eq]
  refine ⟨by simp, by simp, by simp, by simp, by simp, fun room => ?_⟩
  obtain ⟨r, mem, shows⟩ := (s.setTsu (s.tsu.applyStep s.osc v)).raiseWith_shows
    (by simpa using room) (k := .hallStep) (by simp [Cru.records?, CondKind.isExigent])
    (by simp [Cru.wants, CondKind.isExigent]) .part
    { step := some v, era := some (s.tsu.applyStep s.osc v).era } false
  refine ⟨r, Cru.mem_settle _ mem (by rw [shows.kind]; decide), shows.kind,
    by rw [shows.details], by rw [shows.details], ?_⟩
  rw [shows.posted]
  exact Tsu.convert_era rfl (le_refl _)

/-- Settles O18. -/
theorem stepTimeRequest : Obligations.StepTimeRequest := by
  intro p tag v s accepts low high
  have value : fieldInt (beInt 8 v) 0 8 = v := fieldInt_beInt (fitsSigned_eight low high)
  have handler : ∀ u : State, u.rdu.tsState = .free → stepTimeH (beInt 8 v) u =
      match u.stepHall v with
      | some s1 => finish u s1 .done State.stepBody
      | none => answer u .range (zeros 10) := fun u free => by
    simp only [stepTimeH, withLength_of_eq _ (beInt_length 8 v), free, if_true, value] <;> rfl
  refine ⟨fun free above below => ?_, fun free beyond => ?_, fun other => ?_⟩
  · obtain ⟨u, step, clock, tsu, rdu, epg, sdu, mgp, posted⟩ :=
      (s.taken p 0x12#8 tag).stepHall_ended (v := v)
        (by simpa [Tsu.stepTarget] using above) (by simpa [Tsu.stepTarget] using below)
    obtain ⟨rtm, sduN, epgN⟩ := s.tsu.settledBefore_notices s.osc
    have answered := State.request_answered accepts 0x12#8 tag
      (f := stepTimeH (beInt 8 v)) (t := State.endEvent (s.taken p 0x12#8 tag) u)
      (by rw [handler _ (by simpa using free), step]; rfl)
    refine ⟨State.endEvent (s.taken p 0x12#8 tag) u, ?_, ?_⟩
    · exact (congrArg Host.Outcome.next answered).trans (by
        rw [State.stepBody, tsu, State.taken_tsu, State.taken_osc]; rfl)
    · rw [tsu, rdu, epg, sdu, mgp]
      simp only [State.taken_tsu, State.taken_osc, State.taken_rdu, State.taken_epg, State.taken_sdu]
      refine ⟨?_, ?_, rfl, rfl, ⟨⟨v, nextEra (s.tsu.settledBefore s.osc).era, s.osc,
        (s.tsu.stepTarget s.osc v).toNat⟩, rfl, rfl, rfl, ?_, ?_, ?_, ?_⟩, ?_, trivial, trivial, trivial, trivial, clock⟩
      · simp [nextEra]
      · simp [Tsu.applyStep, Tsu.openSegment, Tsu.stepTarget, nextEra]
      · exact Int.toNat_of_nonneg above
      · exact congrArg (· ++ _) rtm
      · exact congrArg (· ++ _) sduN
      · exact congrArg (· ++ _) epgN
      · simpa using posted
  · refine congrArg Host.Outcome.next (State.request_answered accepts _ _ ?_)
    rw [handler _ (by simpa using free), State.stepHall_none (by simpa [Tsu.stepTarget] using beyond)]
    rfl
  · refine congrArg Host.Outcome.next (State.request_answered accepts _ _ ?_)
    simp [stepTimeH, other, answer, zeros]

end Sys2Proof.Machine
end

section
/-!
PROOFS. The replies of completed wait-outs (R152, R155, R156), and what a step notice and a wrap of
hall time do to the wait-outs and the epoch outputs (R50, R155).
-/

namespace Sys2Proof.Machine

variable (s : State)

/-! ### Replies of wait-outs -/

theorem PortState.handReply_queue_length (x : PortState) (r : Reply) (room : x.queue.length < 16) :
    (x.handReply r).queue.length ≤ x.queue.length + 1 := by
  simp only [PortState.handReply, if_neg (Nat.not_le.mpr room), PortState.beginNext]
  split
  · simp
  · split
    · simp_all
    · next head rest joined =>
      have := congrArg List.length joined
      simp at this
      simp
      omega

theorem waitReplies_cons_own {q : Port} {w : WaitOut} (own : w.port = q) (res : Result) (b : List Byte)
    (ws : List WaitOut) : waitReplies q res b (w :: ws) =
      mkReply 0x43#8 w.tag res b false :: waitReplies q res b ws := by
  simp [waitReplies, own]

theorem waitReplies_cons_other {q : Port} {w : WaitOut} (other : w.port ≠ q) (res : Result)
    (b : List Byte) (ws : List WaitOut) :
    waitReplies q res b (w :: ws) = waitReplies q res b ws := by
  simp [waitReplies, other]

theorem waitReplies_length (q : Port) (res : Result) (b : List Byte) (ws : List WaitOut) :
    (waitReplies q res b ws).length = (ws.filter (fun w => decide (w.port = q))).length := by
  simp [waitReplies]

/-- With room for them, the replies of completed wait-outs join those of their port in list order. -/
theorem State.foldWaits_replies {q : Port} {res : Result} {b : List Byte} {ws : List WaitOut}
    (room : (s.port q).queue.length + (waitReplies q res b ws).length ≤ 16) :
    ((ws.foldl (fun st w => st.completeWait w res b) s).port q).replies =
      (s.port q).replies ++ waitReplies q res b ws := by
  induction ws generalizing s with
  | nil => simp [waitReplies]
  | cons w ws ih =>
    rw [List.foldl_cons]
    by_cases own : w.port = q
    · subst own
      rw [waitReplies_cons_own rfl, List.length_cons] at room
      have first : (s.port w.port).queue.length < 16 := by omega
      have kept : (s.completeWait w res b).port w.port =
          (s.port w.port).handReply (mkReply 0x43#8 w.tag res b false) := s.handReply_port _ _
      have shorter := (s.port w.port).handReply_queue_length (mkReply 0x43#8 w.tag res b false) first
      rw [ih _ (by rw [kept]; omega), kept, PortState.handReply_replies _ _ first,
        waitReplies_cons_own rfl, List.append_assoc, List.singleton_append]
    · rw [waitReplies_cons_other own] at room ⊢
      have kept : (s.completeWait w res b).port q = s.port q :=
        s.handReply_port_ne _ _ (Ne.symm own)
      rw [ih _ (by rwa [kept]), kept]

/-- The wait-outs of a port that meet a test are no more than its share of the list. -/
theorem Sdu.waitReplies_le_share (d : Sdu) (test : WaitOut → Bool) (q : Port) (res : Result)
    (b : List Byte) : (waitReplies q res b (d.waitOuts.filter test)).length ≤ d.share q := by
  rw [waitReplies_length]
  exact (List.Sublist.filter _ List.filter_sublist).length_le

theorem State.completeWaits_replies (test : WaitOut → Bool) (res : Result) (b : List Byte) {q : Port}
    (room : (s.port q).queue.length + s.sdu.share q ≤ 16) :
    ((s.completeWaits test res b).port q).replies =
      (s.port q).replies ++ waitReplies q res b (s.sdu.waitOuts.filter test) := by
  have few := s.sdu.waitReplies_le_share test q res b
  rw [State.completeWaits, State.foldWaits_replies _ (by rw [State.setSdu_port]; omega),
    State.setSdu_port]

/-! ### Step notices and wraps -/

theorem State.takeSduNotice_cons {n : StepNotice} {rest : List StepNotice}
    (given : s.tsu.sduNotices = n :: rest) :
    s.takeSduNotice = (s.setTsu { s.tsu with sduNotices := rest }).stepWaits n := by
  simp only [State.takeSduNotice, given]

theorem State.takeEpgNotice_cons {n : StepNotice} {rest : List StepNotice}
    (given : s.tsu.epgNotices = n :: rest) :
    s.takeEpgNotice = (s.setTsu { s.tsu with epgNotices := rest }).setEpg
      (s.epg.takeNotice n s.tsu.era) := by
  simp only [State.takeEpgNotice, given]
  rfl

theorem Epg.reckon_eq (g : Epg) (h : Nat) : g.reckon h =
    { g with nextBoundary := g.schedule.firstBoundary h, nextSecond := firstSecond h } := by
  unfold Epg.reckon; rfl

theorem Epg.silence_eq (g : Epg) : g.silence =
    { g with epa := g.schedule.epaIdle, epb := g.schedule.epbIdle, epaPulse := none,
             epbPulse := none, epbCarried := none, complementDue := none } := rfl

theorem Epg.takeNotice_of_other {g : Epg} {n : StepNotice} {era : Nat} (other : g.alignEra ≠ n.era)
    (behind : g.alignEra ≠ era) : g.takeNotice n era = g.realign n.anchorH n.era :=
  if_neg (not_or.mpr ⟨other, behind⟩)

theorem Epg.takeNotice_of_aligned {g : Epg} {n : StepNotice} (era : Nat) (aligned : g.alignEra = n.era) :
    g.takeNotice n era = g := if_pos (.inl aligned)

theorem Epg.wrapDue_of_wrap {g : Epg} {r : Reading} (aligned : r.era = g.alignEra)
    (same : r.era = g.lastReading.era) (lower : r.hall < g.lastReading.hall) :
    g.wrapDue r = { g.silence.reckon r.hall with lastReading := r } := by
  have seen : g.wrapSeen r = true := by simp [Epg.wrapSeen, same, aligned.symm.trans same, lower]
  simp only [Epg.wrapDue, seen, if_true]

theorem exec_epgWrap : exec .epgWrap s = .next (s.setEpg (s.epg.wrapDue s.readNow)) := rfl

theorem State.waitWrap_of_wrap (era : s.readNow.era = s.sdu.lastReading.era)
    (lower : s.readNow.hall < s.sdu.lastReading.hall) : s.waitWrap =
      (s.setSdu { s.sdu with lastReading := s.readNow }).completeWaits (fun _ => true) .stepped
        (waitReply s.readNow.hall s.readNow.era 0 s.rdu.tsState) :=
  if_pos (by simp [Sdu.wrapSeen, era, lower])

/-- Settles O20. -/
theorem stepNoticesAndWrapsTaken : Obligations.StepNoticesAndWrapsTaken := by
  refine ⟨⟨fun s n rest given => ?_, fun s n rest given => ?_⟩, fun s =>
    ⟨fun aligned same lower => ?_, fun same lower => ?_⟩⟩
  · refine ⟨_, rfl, ?_⟩
    have clock := ClockOnly.takeSduNotice s
    rw [State.takeSduNotice_cons s given] at clock ⊢
    have kept : s.sdu.waitOuts.filter (fun w => !decide (w.era ≠ n.era)) =
        s.sdu.waitOuts.filter (fun w => decide (w.era = n.era)) := by
      congr 1; funext w; simp
    refine ⟨by simp [State.stepWaits], ?_, by simp [State.stepWaits], by simp [State.stepWaits],
      by simp [State.stepWaits], clock, fun q room => ?_⟩
    · rw [State.stepWaits, State.completeWaits_sdu, State.setTsu_sdu, kept]
    · simpa [State.stepWaits] using (s.setTsu { s.tsu with sduNotices := rest }).completeWaits_replies
        (fun w => decide (w.era ≠ n.era)) .stepped (waitReply n.anchorH n.era 0 s.rdu.tsState)
        (q := q) (by simpa using room)
  · refine ⟨_, rfl, ?_⟩
    rw [State.takeEpgNotice_cons s given]
    refine ⟨rfl, fun other behind => (Epg.takeNotice_of_other other behind).trans ?_,
      Epg.takeNotice_of_aligned _⟩
    rw [Epg.realign, Epg.reckon_eq, Epg.silence_eq]
  · rw [exec_epgWrap, Epg.wrapDue_of_wrap aligned same lower, Epg.reckon_eq, Epg.silence_eq]
  · refine ⟨_, rfl, ?_⟩
    have clock := ClockOnly.waitWrap s
    rw [s.waitWrap_of_wrap same lower] at clock ⊢
    refine ⟨by simp, by simp, by simp, by simp, by simp, clock, fun q room => ?_⟩
    simpa using (s.setSdu { s.sdu with lastReading := s.readNow }).completeWaits_replies
      (fun _ => true) .stepped (waitReply s.readNow.hall s.readNow.era 0 s.rdu.tsState) (q := q)
      (by simpa [Sdu.share] using room)

end Sys2Proof.Machine
end

section
/-!
PROOFS. Frames handed for a link (R60), and the step notice taken by the rack time manager (R112).
-/

namespace Sys2Proof.Machine

variable {s t : State} {l : Link}

/-! ### A frame handed, by the state of its link -/

theorem State.isUp_iff : s.isUp l = true ↔ (s.link l).state = .up := decide_eq_true_iff

theorem State.handFrame_down (down : (s.link l).state ≠ .up) (f : TxFrame) :
    s.handFrame l f = s.withdrawn l f := if_pos down

theorem State.handFrame_full (up : (s.link l).state = .up) (full : 32 ≤ (s.link l).txQueue.length)
    (f : TxFrame) : s.handFrame l f = (s.withdrawn l f).linkError l :=
  (if_neg (not_not.mpr up)).trans (if_pos full)

theorem State.handFrame_room (up : (s.link l).state = .up) (room : (s.link l).txQueue.length < 32)
    (f : TxFrame) : s.handFrame l f =
      s.setLink l { s.link l with txQueue := (s.link l).txQueue ++ [f] } :=
  (if_neg (not_not.mpr up)).trans (if_neg (Nat.not_le.mpr room))

/-- A TRIM handed for a link that is not UP is withdrawn without a trace; the link notice settles it
(R106). -/
theorem State.handTrim_down (down : (s.link l).state ≠ .up) (x : TrimInFlight) :
    s.handFrame l x.frame = s := by
  rw [State.handFrame_down down]
  exact if_neg (mt State.isUp_iff.mp down)

theorem State.trimTest_none (nothing : s.trimToBuild l = none) : s.trimTest l = s := by
  simp only [State.trimTest, nothing]

theorem State.trimTest_some {x : TrimInFlight} (built : s.trimToBuild l = some x) :
    s.trimTest l = (s.setEntry l { s.entry l with trim := some x }).handFrame l x.frame := by
  simp only [State.trimTest, built]

theorem State.setEntry_self (s : State) (l : Link) : s.setEntry l (s.entry l) = s := by
  simp [State.setEntry, State.entry]

theorem State.setLink_self (s : State) (l : Link) : s.setLink l (s.link l) = s := by
  simp [State.setLink, State.link]

/-- With room for a frame, a trim test touches the trim of the entry, the queue of the link and
nothing else. -/
theorem State.trimTest_room (room : (s.link l).txQueue.length < 32) :
    ∃ trim r, s.trimTest l = (s.setEntry l { s.entry l with trim := trim }).setLink l r := by
  cases built : s.trimToBuild l with
  | none =>
    refine ⟨(s.entry l).trim, s.link l, ?_⟩
    rw [State.trimTest_none built]
    exact ((s.setLink_self l).symm.trans (congrArg (State.setLink · l _) (s.setEntry_self l).symm))
  | some x =>
    rw [State.trimTest_some built]
    by_cases up : (s.link l).state = .up
    · exact ⟨_, _, State.handFrame_room (by simpa using up) (by simpa using room) _⟩
    · refine ⟨some x, s.link l, ?_⟩
      rw [State.handTrim_down (by simpa using up)]
      exact (State.setLink_self _ l).symm

/-! ### The step notice (R112) -/

theorem State.takeRtmNotice_cons {n : StepNotice} {rest : List StepNotice}
    (given : s.tsu.rtmNotices = n :: rest) :
    s.takeRtmNotice = (s.setTsu { s.tsu with rtmNotices := rest }).rtmStep n := by
  simp only [State.takeRtmNotice, given]

/-- A link whose queue has room after a step notice: its entry rebased, but for a trim that the test
after it may build. -/
theorem State.rtmStep_at (n : StepNotice) (room : (s.link l).txQueue.length < 32) :
    (s.rtmStep n).cru.driving l = s.cru.driving l ∧
      (s.inService l = false → SameAt l s (s.rtmStep n)) ∧
      ∃ trim, (s.rtmStep n).entry l = { (s.entry l).rebase n.step with trim := trim } := by
  obtain ⟨u, -, before, after⟩ := forLinks_at
    (f := fun l st => st.setEntry l ((st.entry l).rebase n.step))
    (fun m st => .setEntry m st _) (s.setRtmEra n.era) l
  obtain ⟨v, -, before', after'⟩ := forLinks_at
    (f := fun l st => if st.inService l then st.trimTest l else st)
    (fun m st => by
      split
      · exact .trimTest m st
      · exact .refl m st)
    (forLinks (fun l st => st.setEntry l ((st.entry l).rebase n.step)) (s.setRtmEra n.era)) l
  have entry : v.entry l = (s.entry l).rebase n.step := by
    rw [before'.entry, after.entry, State.entry_setEntry_same, before.entry]
    rfl
  have link : v.link l = s.link l := by
    rw [before'.link, after.link, State.setEntry_link, before.link]
    rfl
  have drift : v.driftOf l = s.driftOf l := by
    rw [before'.drift, after.drift, State.setEntry_driftOf, before.drift]
    rfl
  have driving : v.cru.driving l = s.cru.driving l := by
    rw [before'.driving, after.driving, State.setEntry_cru, before.driving]
    rfl
  obtain ⟨trim, r, tested⟩ := State.trimTest_room (s := v) (l := l) (by rw [link]; exact room)
  have unserved (out : ¬ v.inService l = true) : SameAt l v (s.rtmStep n) := by
    rwa [if_neg out] at after'
  refine ⟨?_, fun out => ?_, ?_⟩
  · rw [show (s.rtmStep n).cru.driving l = _ from after'.driving]
    split
    · rw [tested]; exact driving
    · exact driving
  · have rebased : (s.entry l).rebase n.step = s.entry l := if_neg (by simpa [State.inService] using out)
    rw [rebased] at entry
    have same := unserved (by rw [State.inService, entry]; exact Bool.not_eq_true _ ▸ out)
    exact ⟨same.link.trans link, same.entry.trans entry, same.drift.trans drift,
      same.driving.trans driving⟩
  · by_cases on : v.inService l = true
    · rw [if_pos on] at after'
      exact ⟨trim, by
        rw [show (s.rtmStep n).entry l = _ from after'.entry, tested, State.setLink_entry,
          State.entry_setEntry_same, entry]⟩
    · exact ⟨_, by rw [(unserved on).entry, entry]⟩

theorem RackEntry.rebase_of_inService {e : RackEntry} (on : e.state.inService = true) (v : Int) :
    e.rebase v = { e with
      current := e.current.map (fun x => { x with theta := x.theta - v })
      predecessor := e.predecessor.map (fun x => { x with theta := x.theta - v })
      window := []
      stepOwed := addStepOwed e.stepOwed v } := if_pos on

theorem addStepOwed_zero (owed : Option Int) : addStepOwed owed 0 = owed := if_pos rfl

theorem addStepOwed_some {v : Int} (step : v ≠ 0) (x : Int) : addStepOwed (some x) v =
    some (max (-4611686018427387904) (min 4611686018427387904 (x + v))) := by
  rw [addStepOwed, if_neg step]
  simp [satSym, clampSym_eq]

theorem addStepOwed_none {v : Int} (step : v ≠ 0) : addStepOwed none v = some v := if_neg step

/-- An event of the clock side leaves what belongs to a link. -/
theorem ClockOnly.sameAt (h : ClockOnly s t) (l : Link) : SameAt l s t :=
  ⟨by simp only [State.link, h.links], by simp only [State.entry, h.entries],
    by simp only [State.driftOf, h.drift], h.driving l⟩

/-- Settles O19. -/
theorem rtmTakesStepNotice : Obligations.RtmTakesStepNotice := by
  intro s n rest given room
  have at_ := fun l => State.rtmStep_at (s := s.setTsu { s.tsu with rtmNotices := rest }) (l := l) n (room l)
  have core := State.rtmStep_sameCore (s.setTsu { s.tsu with rtmNotices := rest }) n
  have ends : exec .rtmStepNotice s =
      .next ((s.setTsu { s.tsu with rtmNotices := rest }).rtmStep n).settleCru := by
    refine congrArg Host.Outcome.next ?_
    rw [State.takeRtmNotice_cons given]
    exact State.endEvent_quiet _ _ fun m => (at_ m).1.symm
  refine ⟨_, ends, by simpa using core.rtmEra, by simpa using core.tsu, by simpa using core.rdu,
    by simpa using core.epg, by simpa using core.sdu, by simpa using core.mgp,
    fun l => ⟨fun out => ?_, fun on => ?_⟩⟩
  · have same := (at_ l).2.1 out
    exact ((ClockOnly.setTsu s _).sameAt l).trans (same.trans ((ClockOnly.settleCru _).sameAt l))
  · obtain ⟨trim, entry⟩ := (at_ l).2.2
    rw [State.setTsu_entry, RackEntry.rebase_of_inService on] at entry
    rw [State.settleCru_entry, entry]
    refine ⟨rfl, rfl, rfl, rfl, rfl, rfl, fun zero => ?_, fun x step owed => ?_, fun step owed => ?_⟩
    · rw [zero]; exact addStepOwed_zero _
    · change addStepOwed _ _ = _
      rw [owed, addStepOwed_some step]
    · change addStepOwed _ _ = _
      rw [owed, addStepOwed_none step]

end Sys2Proof.Machine
end

section
/-!
PROOFS. Label records byte by byte (R20).
-/

namespace Sys2Proof.Machine

variable {s : State} {r : RefId}

theorem State.setRef_self (s : State) (r : RefId) : s.setRef r (s.ref r) = s := by cases r <;> rfl

theorem execAll_labelBytes (r : RefId) (bs : List Byte) (s : State) :
    execAll (bs.map (Instr.labelLineByte r)) s = .next (bs.foldl (fun t b => t.labelByte r b) s) := by
  induction bs generalizing s with
  | nil => rfl
  | cons b bs ih => exact ih (s.labelByte r b)

/-- A reference with a label record in assembly. -/
def State.labelling (s : State) (r : RefId) (bytes : List Byte) (last : Nat) : State :=
  s.setRef r { s.ref r with receiver := .assembling bytes last }

theorem State.labelByte_off (off : (s.ref r).state = .off) (b : Byte) : s.labelByte r b = s := if_pos off

theorem State.labelByte_hunting (on : (s.ref r).state ≠ .off) (hunting : (s.ref r).receiver = .hunting)
    (b : Byte) : s.labelByte r b = if b = 0xA7#8 then s.labelling r [] s.osc else s := by
  simp only [State.labelByte, if_neg on, hunting, State.labelling]

theorem State.labelByte_more (on : (s.ref r).state ≠ .off) {bytes : List Byte} (last : Nat)
    (short : bytes.length < 9) (b : Byte) :
    (s.labelling r bytes last).labelByte r b = s.labelling r (bytes ++ [b]) s.osc := by
  simp [State.labelByte, State.labelling, on, short]

/-- The tenth byte after the marker completes the record, checked by it (R20). -/
theorem State.labelByte_last (on : (s.ref r).state ≠ .off) (hunting : (s.ref r).receiver = .hunting)
    {bytes : List Byte} (last : Nat) (whole : bytes.length = 9) (b : Byte) :
    (s.labelling r bytes last).labelByte r b = if labelCheck bytes = b
      then s.holdLabel r (natOfBytes (bytes.take 8)) (field bytes 8 1) else s := by
  have back : (s.labelling r bytes last).huntLabel r = s := by
    unfold State.huntLabel State.labelling
    rw [State.ref_setRef_same, State.setRef_setRef]
    exact (congrArg (s.setRef r) (by rw [← hunting])).trans (s.setRef_self r)
  have number : (bytes ++ [b]).take 8 = bytes.take 8 := List.take_append_of_le_length (by omega)
  have quality : field (bytes ++ [b]) 8 1 = field bytes 8 1 := by
    simp only [field]
    rw [List.drop_append_of_le_length (by omega), List.take_append_of_le_length (by simp; omega)]
  have body : (bytes ++ [b]).take 9 = bytes := List.take_left' whole
  have assembling : ((s.labelling r bytes last).ref r).receiver = .assembling bytes last := by
    simp [State.labelling]
  have enabled : ((s.labelling r bytes last).ref r).state ≠ .off := by simpa [State.labelling] using on
  simp only [State.labelByte, if_neg enabled, assembling, List.length_append, List.length_singleton,
    whole, back, number, quality, body]
  rfl

theorem State.labelBytes_run (on : (s.ref r).state ≠ .off) (bs pre : List Byte) (last : Nat)
    (short : pre.length + bs.length ≤ 9) :
    ∃ last', bs.foldl (fun t b => t.labelByte r b) (s.labelling r pre last) =
      s.labelling r (pre ++ bs) last' := by
  induction bs generalizing pre last with
  | nil => exact ⟨last, by simp⟩
  | cons b bs ih =>
    simp only [List.length_cons] at short
    obtain ⟨last', run⟩ := ih (pre ++ [b]) s.osc (by simp; omega)
    refine ⟨last', ?_⟩
    rw [List.foldl_cons, State.labelByte_more on last (by omega), run, List.append_assoc,
      List.singleton_append]

/-- A label record taken byte by byte is held where its check byte matches, else it leaves no trace. -/
theorem State.labelBytes_record (on : (s.ref r).state ≠ .off)
    (hunting : (s.ref r).receiver = .hunting) {content : List Byte} (whole : content.length = 9)
    (x : Byte) : (0xA7#8 :: content ++ [x]).foldl (fun t b => t.labelByte r b) s =
      if labelCheck content = x then s.holdLabel r (natOfBytes (content.take 8)) (field content 8 1)
      else s := by
  obtain ⟨last, run⟩ := State.labelBytes_run (s := s) on content [] s.osc (by simp [whole])
  rw [List.cons_append, List.foldl_cons, State.labelByte_hunting on hunting, if_pos rfl,
    List.foldl_append, run, List.nil_append]
  exact State.labelByte_last on hunting last whole x

theorem State.holdLabel_on (on : (s.ref r).state ≠ .off) (second quality : Nat) :
    s.holdLabel r second quality = s.setRef r { s.ref r with heldLabel := some ⟨second, quality⟩ } :=
  if_neg on

theorem State.huntLabel_hunting (hunting : (s.ref r).receiver = .hunting) : s.huntLabel r = s :=
  (congrArg (s.setRef r) (by rw [← hunting])).trans (s.setRef_self r)

theorem exec_labelArrival (r : RefId) (second : BitVec 64) (quality : Byte) (s : State) :
    exec (.labelArrival r second quality) s =
      .next ((s.huntLabel r).holdLabel r second.toNat quality.toNat) := rfl

theorem exec_labelLineByte (r : RefId) (b : Byte) (s : State) :
    exec (.labelLineByte r b) s = .next (s.labelByte r b) := rfl

theorem exec_labelRecordAbandoned (r : RefId) (cause : AbandonCause) (s : State) :
    exec (.labelRecordAbandoned r cause) s = .next (s.abandonLabel r cause) := rfl

/-- Settles O24. -/
theorem labelRecords : Obligations.LabelRecords := by
  intro r second quality s
  refine ⟨fun on hunting => ⟨?_, fun x wrong => ?_⟩, fun on => ?_, fun off => ⟨?_, ?_⟩,
    fun on hunting => ?_, fun bytes last assembling => ⟨?_, fun silent => ?_⟩⟩
  · have number : natOfBytes ((beBytes 8 second.toNat ++ [quality]).take 8) = second.toNat := by
      rw [List.take_left' (beBytes_length 8 _), natOfBytes_beBytes 8 _ second.isLt]
    have byte : field (beBytes 8 second.toNat ++ [quality]) 8 1 = quality.toNat := by
      rw [field_append _ _ _ _ (by simp), beBytes_length]
      exact field_cons_zero _ _
    rw [execAll_labelBytes, State.labelBytes_record on hunting (by simp), if_pos rfl, number, byte,
      exec_labelArrival, State.huntLabel_hunting hunting]
  · rw [execAll_labelBytes, State.labelBytes_record on hunting (by simp), if_neg (Ne.symm wrong)]
  · rw [exec_labelArrival, State.holdLabel_on (by simpa [State.huntLabel] using on)]
    simp [State.huntLabel]
  · rw [exec_labelArrival]
    exact congrArg Host.Outcome.next (if_pos (by simpa [State.huntLabel] using off))
  · rw [exec_labelLineByte, State.labelByte_off off]
  · rw [exec_labelLineByte, State.labelByte_hunting on hunting]
    rfl
  · rw [exec_labelRecordAbandoned]
    simp only [State.abandonLabel, assembling, State.huntLabel]
  · rw [exec_labelRecordAbandoned]
    simp only [State.abandonLabel, assembling, State.huntLabel, silentSince, silent, decide_true, if_true]

end Sys2Proof.Machine
end

section
/-!
PROOFS. The requests of the epoch outputs (R42, R45 to R47).
-/

namespace Sys2Proof.Machine

/-! ### Schedules as bytes -/

theorem EpbMode.code_lt (m : EpbMode) : m.code < 256 := by cases m <;> decide
theorem PinLevel.code_lt (x : PinLevel) : x.code < 256 := by cases x <;> decide

@[simp] theorem epbModeOf_code (m : EpbMode) : epbModeOf m.code = some m := by cases m <;> rfl
@[simp] theorem pinLevelOf_code (x : PinLevel) : pinLevelOf x.code = some x := by cases x <;> rfl

@[simp] theorem Schedule.bytes_length (c : Schedule) : c.bytes.length = 18 := by simp [Schedule.bytes]

/-- A schedule whose numbers fit their fields is what a SET EPOCH carries (12). -/
theorem scheduleOf_bytes {c : Schedule} (period : c.period < 65536) (width : c.width < 4294967296)
    (phase : c.phase < 4294967296) (gap : c.deadGap < 4294967296) : scheduleOf c.bytes = some c := by
  have mode := c.epbMode.code_lt
  have idleA := c.epaIdle.code_lt
  have idleB := c.epbIdle.code_lt
  have fields : field c.bytes 0 2 = c.period ∧ field c.bytes 2 4 = c.width ∧
      field c.bytes 6 4 = c.phase ∧ field c.bytes 10 1 = c.epbMode.code ∧
      field c.bytes 11 4 = c.deadGap ∧ field c.bytes 15 1 = c.epaIdle.code ∧
      field c.bytes 16 1 = c.epbIdle.code ∧ field c.bytes 17 1 = c.squelch.toNat := by
    simp only [Schedule.bytes, List.append_assoc]
    refine ⟨?_, ?_, ?_, ?_, ?_, ?_, ?_, ?_⟩
    all_goals simp (disch := simp) only [field_append, field_zero_append, field_all, beBytes_length,
      byteOf_length, Nat.reduceSub]
    · exact natOfBytes_beBytes 2 _ (by simpa using period)
    · exact natOfBytes_beBytes 4 _ (by simpa using width)
    · exact natOfBytes_beBytes 4 _ (by simpa using phase)
    · exact natOfBytes_byteOf mode
    · exact natOfBytes_beBytes 4 _ (by simpa using gap)
    · exact natOfBytes_byteOf idleA
    · exact natOfBytes_byteOf idleB
    · rw [natOfBytes_singleton, flagByte_toNat]
  obtain ⟨f0, f2, f6, f10, f11, f15, f16, f17⟩ := fields
  simp [scheduleOf, flagField, f0, f2, f6, f10, f11, f15, f16, f17]

theorem Schedule.drawable_iff (c : Schedule) : c.drawable = true ↔
    (c.period ≠ 0 ∧ c.period ≤ 1000 ∧ 1000 % c.period = 0 ∧ c.width ≠ 0 ∧
      c.width < c.period * 1000 ∧ c.phase < c.period * 1000 ∧ c.deadGap ≤ 999999 ∧
      (c.epbMode = .complement → 2 * c.deadGap < c.period * 1000 - c.width)) := by
  simp only [Schedule.drawable, Bool.and_eq_true, decide_eq_true_eq, Bool.not_eq_true',
    Bool.and_eq_false_iff, decide_eq_false_iff_not, Nat.not_le, ← imp_iff_not_or]
  constructor
  · rintro ⟨⟨⟨⟨⟨⟨⟨a, b⟩, c⟩, d⟩, e⟩, f⟩, g⟩, h⟩
    exact ⟨a, b, c, d, e, f, h, g⟩
  · rintro ⟨a, b, c, d, e, f, h, g⟩
    exact ⟨⟨⟨⟨⟨⟨⟨a, b⟩, c⟩, d⟩, e⟩, f⟩, g⟩, h⟩

/-! ### The requests -/

theorem Epg.accept_running {g : Epg} (running : g.running = true) (c : Schedule) (r : Reading)
    (t : TsState) : g.accept c r t = { g with pendingSchedule := some c } := if_pos running

theorem Epg.accept_stopped {g : Epg} (stopped : g.running = false) (c : Schedule) (r : Reading)
    (t : TsState) : g.accept c r t =
      { g with schedule := c, epa := c.epaIdle, epb := c.epbIdle, epaPulse := none, epbPulse := none,
               epbCarried := none, complementDue := none,
               nextBoundary := c.firstBoundary r.hall, nextSecond := firstSecond r.hall,
               alignEra := r.era, squelched := c.squelchedIn t } := by
  rw [Epg.accept, if_neg (by simp [stopped]), Epg.reckon_eq, Epg.silence_eq]

theorem Epg.start_eq (g : Epg) : g.start = { g with running := true } := by
  unfold Epg.start
  split
  · next running => rw [← running]
  · rfl

theorem Epg.stop_stopped {g : Epg} (stopped : g.running = false) : g.stop = g :=
  if_neg (by simp [stopped])

theorem Epg.stop_running {g : Epg} (running : g.running = true) : g.stop =
    { g with running := false, pendingSchedule := none, epa := g.schedule.epaIdle,
             epb := g.schedule.epbIdle, epaPulse := none, epbPulse := none, epbCarried := none,
             complementDue := none } := if_pos running

theorem State.epochStatus_congr {s t : State} (h : t.epg = s.epg) : t.epochStatus = s.epochStatus := by
  simp only [State.epochStatus, h]

theorem State.setEpg_self (s : State) : s.setEpg s.epg = s := rfl

/-- Settles O29. -/
theorem epochRequests : Obligations.EpochRequests := by
  refine ⟨fun p tag c s accepts period width phase gap => ?_, fun p tag s accepts => ?_⟩
  · have carried := scheduleOf_bytes period width phase gap
    refine ⟨c.drawable_iff, fun undrawable => ?_, fun drawable =>
      ⟨s.epg.accept c s.readNow s.rdu.tsState, ?_, fun running => Epg.accept_running running _ _ _,
        fun stopped => ?_⟩⟩
    · refine congrArg Host.Outcome.next (State.request_answered accepts _ _ ?_)
      simp only [setEpochH, withLength_of_eq _ c.bytes_length, carried, withField_some, undrawable,
        answer, State.epochStatus_congr (s.taken_epg p 0x20#8 tag)]
      rfl
    · refine congrArg Host.Outcome.next (State.request_answered accepts _ _ ?_)
      simp only [setEpochH, withLength_of_eq _ c.bytes_length, carried, withField_some, drawable,
        answer, if_true, State.readNow, State.taken_epg, State.taken_tsu, State.taken_osc,
        State.taken_rdu]
    · rw [Epg.accept_stopped stopped]
      exact ⟨rfl, stopped, rfl, rfl, rfl, rfl, rfl⟩
  · refine ⟨?_, fun stopped => ?_, fun running => ⟨_, ?_, rfl⟩⟩ <;>
      refine congrArg Host.Outcome.next (State.request_answered accepts _ _ ?_)
    · simp only [startEpochH, withLength_of_eq _ (List.length_nil), answer, Epg.start_eq,
        State.taken_epg]
      rfl
    · simp only [stopEpochH, withLength_of_eq _ (List.length_nil), answer, State.taken_epg,
        Epg.stop_stopped stopped]
      rw [← State.taken_epg s p 0x22#8 tag, State.setEpg_self,
        State.epochStatus_congr (s.taken_epg p 0x22#8 tag)]
    · simp only [stopEpochH, withLength_of_eq _ (List.length_nil), answer, State.taken_epg,
        Epg.stop_running running]

end Sys2Proof.Machine
end

section
/-!
PROOFS. The edges of both epoch outputs (R43, R44, R48, R50).
-/

namespace Sys2Proof.Machine

/-! ### The next boundary -/

/-- What is added to reach the next number of a residue class. -/
theorem add_residue {p r C : Nat} (hp : p < C) (hr : r < C) :
    (p + (C - r)) % C = if p < r then p + (C - r) else p - r := by
  split
  · exact Nat.mod_eq_of_lt (by omega)
  · rw [show p + (C - r) = p - r + C by omega, Nat.add_mod_right]
    exact Nat.mod_eq_of_lt (by omega)

/-- The first number at or after `h` that leaves `p` over `C`. -/
theorem nextResidue_least {p h C : Nat} (hp : p < C) :
    h ≤ h + (p + (C - h % C)) % C ∧ (h + (p + (C - h % C)) % C) % C = p ∧
      ∀ b, h ≤ b → b % C = p → h + (p + (C - h % C)) % C ≤ b := by
  have hr : h % C < C := Nat.mod_lt _ (by omega)
  have whole := Nat.div_add_mod h C
  have reach : h + (p + (C - h % C)) % C = C * (h / C + if p < h % C then 1 else 0) + p := by
    rw [add_residue hp hr]
    split <;> rw [Nat.mul_add] <;> omega
  refine ⟨Nat.le_add_right _ _, ?_, fun b above same => ?_⟩
  · rw [reach, Nat.mul_add_mod, Nat.mod_eq_of_lt hp]
  · rw [reach]
    have wholeB := Nat.div_add_mod b C
    have rounds : h / C + (if p < h % C then 1 else 0) ≤ b / C := by
      have floor : h / C ≤ b / C := Nat.div_le_div_right above
      split
      · next later =>
        by_contra few
        have equal : b / C = h / C := by omega
        rw [equal] at wholeB
        omega
      · omega
    have := Nat.mul_le_mul_left C rounds
    omega

/-! ### What the edges leave alone -/

variable {g : Epg}

/-- A change of the outputs and their pulses alone: the run state, the alignment era, the next second
and the squelch flag stand. -/
structure Epg.SameRun (g h : Epg) : Prop where
  running : h.running = g.running
  alignEra : h.alignEra = g.alignEra
  nextSecond : h.nextSecond = g.nextSecond

theorem Epg.SameRun.trans {g h k : Epg} (a : g.SameRun h) (b : h.SameRun k) : g.SameRun k :=
  ⟨b.running.trans a.running, b.alignEra.trans a.alignEra, b.nextSecond.trans a.nextSecond⟩

theorem Epg.startEpa_sameRun (g : Epg) (b : Nat) : g.SameRun (g.startEpa b) := by
  unfold Epg.startEpa
  dsimp only
  split <;> exact ⟨rfl, rfl, rfl⟩

theorem Epg.passBoundary_sameRun (g : Epg) (b : Nat) : g.SameRun (g.passBoundary b) := by
  unfold Epg.passBoundary
  split
  · exact (g.startEpa_sameRun b).trans ⟨rfl, rfl, rfl⟩
  · exact ⟨rfl, rfl, rfl⟩

theorem Epg.applyPending_sameRun (g : Epg) (c : Schedule) (b : Nat) (t : TsState) :
    g.SameRun (g.applyPending c b t) := by
  unfold Epg.applyPending
  dsimp only
  repeat' split
  · refine .trans ?_ (Epg.passBoundary_sameRun _ b)
    exact ⟨rfl, rfl, rfl⟩
  · exact ⟨rfl, rfl, rfl⟩
  · refine .trans ?_ (Epg.passBoundary_sameRun _ b)
    exact ⟨rfl, rfl, rfl⟩
  · exact ⟨rfl, rfl, rfl⟩

theorem Epg.boundaryEvent_sameRun (g : Epg) (t : TsState) : g.SameRun (g.boundaryEvent t) := by
  unfold Epg.boundaryEvent
  dsimp only
  split
  · refine .trans ?_ (Epg.applyPending_sameRun _ _ _ t)
    exact ⟨rfl, rfl, rfl⟩
  · refine .trans ?_ (Epg.passBoundary_sameRun _ _)
    exact ⟨rfl, rfl, rfl⟩

/-- The schedule in force and its pending one after a pending schedule is applied. -/
theorem Epg.applyPending_schedule (g : Epg) (c : Schedule) (b : Nat) (t : TsState) :
    (g.applyPending c b t).schedule = c ∧ (g.applyPending c b t).pendingSchedule = none := by
  have pass (h : Epg) : (h.passBoundary b).schedule = h.schedule ∧
      (h.passBoundary b).pendingSchedule = h.pendingSchedule := by
    unfold Epg.passBoundary Epg.startEpa
    dsimp only
    repeat' split
    all_goals exact ⟨rfl, rfl⟩
  unfold Epg.applyPending
  dsimp only
  repeat' split
  · exact pass _
  · exact ⟨rfl, rfl⟩
  · exact pass _
  · exact ⟨rfl, rfl⟩

/-! ### A boundary reached (R43, R48) -/

theorem Epg.boundaryEvent_applies {c : Schedule} (running : g.running = true)
    (pending : g.pendingSchedule = some c) (t : TsState) :
    g.boundaryEvent t = (g.endEpbBy g.nextBoundary).applyPending c g.nextBoundary t := by
  simp only [Epg.boundaryEvent, Epg.endEpbBy, Epg.driveEpb, running, pending]

theorem Epg.boundaryEvent_passes (none_ : g.running = false ∨ g.pendingSchedule = none) (t : TsState) :
    g.boundaryEvent t = (g.endEpbBy g.nextBoundary).passBoundary g.nextBoundary := by
  unfold Epg.boundaryEvent
  dsimp only
  split
  · next running pending =>
    rcases none_ with stopped | absent
    · exact absurd (running.symm.trans stopped) (by decide)
    · exact absurd (pending.symm.trans absent) (Option.some_ne_none _)
  · rfl

theorem Epg.passBoundary_starts (running : g.running = true) (open_ : g.squelched = false) (b : Nat) :
    g.passBoundary b = { g.startEpa b with nextBoundary := b + g.schedule.period * 1000000 } := by
  simp only [Epg.passBoundary, running, open_, Bool.not_false, Bool.and_self, if_true]

theorem Epg.passBoundary_still (still : g.running = false ∨ g.squelched = true) (b : Nat) :
    g.passBoundary b = { g with nextBoundary := b + g.schedule.period * 1000000 } := by
  have idle : (g.running && !g.squelched) = false := by
    rcases still with h | h <;> simp [h]
  simp only [Epg.passBoundary, idle, Bool.false_eq_true, if_false]

/-- An EPA pulse begun at a boundary, and the EPB pulse that goes with it in SAME (R43, R44). -/
theorem Epg.startEpa_pulse (g : Epg) (b : Nat) :
    (g.startEpa b).schedule = g.schedule ∧
      (g.startEpa b).epaPulse = some (b + g.schedule.width * 1000) ∧
      (g.startEpa b).epa = g.schedule.epaIdle.opposite ∧
      (g.schedule.epbMode = .same →
        (g.startEpa b).epbPulse = some ⟨b + g.schedule.width * 1000, g.schedule.epbIdle⟩) := by
  unfold Epg.startEpa
  dsimp only
  split
  · exact ⟨rfl, rfl, rfl, fun _ => rfl⟩
  · next other => exact ⟨rfl, rfl, rfl, fun same => absurd same other⟩

/-- A pending schedule applied at a boundary that is none of its own starts no EPA pulse; a pulse of
EPB that has not ended is carried to its end unless the new schedule is squelched (R48). -/
theorem Epg.applyPending_later {c : Schedule} {b : Nat} (later : c.firstBoundary b ≠ b) (t : TsState) :
    (g.applyPending c b t).nextBoundary = c.firstBoundary b ∧
      (g.applyPending c b t).epaPulse = none ∧ (g.applyPending c b t).epa = c.epaIdle ∧
      ∀ x, g.epbCarried = none → g.epbPulse = some x → c.squelchedIn t = false →
        (g.applyPending c b t).epbCarried = some x ∧ (g.applyPending c b t).epbPulse = none ∧
        (g.applyPending c b t).epb = x.idle.opposite := by
  unfold Epg.applyPending
  cases squelched : c.squelchedIn t
  · simp [Epg.driveEpb, later]
    intro x carried pulse
    simp [carried, pulse]
  · simp [Epg.driveEpb, Epg.silence, later]

theorem Epg.endEpbBy_beyond {x : EpbPulse} {h : Nat} (pulse : g.epbPulse = some x) (beyond : h < x.endHall) :
    (g.endEpbBy h).epbPulse = some x := by
  simp [Epg.endEpbBy, Epg.driveEpb, pulse, EpbPulse.beyond, beyond]

/-! ### Readings -/

theorem Epg.atReading_aligned {r : Reading} (aligned : r.era = g.alignEra) (edge : Epg → Epg) :
    g.atReading r edge = edge g := if_neg (by simp [Epg.misaligned, aligned])

/-- A reading of another era is taken as the step (R50). -/
theorem Epg.atReading_misaligned {r : Reading} (other : r.era ≠ g.alignEra) (edge : Epg → Epg) :
    g.atReading r edge = { g with
      epa := g.schedule.epaIdle, epb := g.schedule.epbIdle, epaPulse := none,
      epbPulse := none, epbCarried := none, complementDue := none, alignEra := r.era,
      nextBoundary := g.schedule.firstBoundary r.hall, nextSecond := firstSecond r.hall,
      lastReading := r } := by
  rw [Epg.atReading, if_pos (by simp [Epg.misaligned, other]), Epg.realign, Epg.reckon_eq,
    Epg.silence_eq]

section

variable (s : State)

theorem exec_epochBoundary : exec .epochBoundary s =
    .next (s.setEpg (s.epg.boundaryDue s.readNow s.rdu.tsState)) := rfl
theorem exec_epaPulseEnd : exec .epaPulseEnd s = .next (s.setEpg (s.epg.epaEndDue s.readNow)) := rfl
theorem exec_epbPulseStart : exec .epbPulseStart s =
    .next (s.setEpg (s.epg.epbStartDue s.readNow s.rdu.tsState)) := rfl
theorem exec_epbPulseEnd : exec .epbPulseEnd s = .next (s.setEpg (s.epg.epbEndDue s.readNow)) := rfl

end

/-! ### The other edges (R44) -/

theorem Epg.epaEndDue_of_reached {r : Reading} (aligned : r.era = g.alignEra) {e : Nat}
    (pulse : g.epaPulse = some e) (reached : e ≤ r.hall) : g.epaEndDue r = g.endEpa e := by
  simp only [Epg.epaEndDue, Epg.atReading_aligned aligned, pulse, reached, if_true]

theorem Epg.endEpa_frame (g : Epg) (e : Nat) : (g.endEpa e).epaPulse = none ∧
    (g.endEpa e).epa = g.schedule.epaIdle ∧ (g.endEpa e).schedule = g.schedule ∧
    (g.endEpa e).nextBoundary = g.nextBoundary := by
  unfold Epg.endEpa
  dsimp only
  split <;> exact ⟨rfl, rfl, rfl, rfl⟩

theorem Epg.endEpa_same (same : g.schedule.epbMode = .same) (uncarried : g.epbCarried = none) (e : Nat) :
    (g.endEpa e).epbPulse = none ∧ (g.endEpa e).epb = g.schedule.epbIdle := by
  simp [Epg.endEpa, same, Epg.driveEpb, uncarried]

theorem Epg.endEpa_complement (complement : g.schedule.epbMode = .complement) (e : Nat) :
    (g.endEpa e).complementDue = some ⟨e + g.schedule.deadGap * 1000,
      e - g.schedule.width * 1000 + g.schedule.period * 1000000 - g.schedule.deadGap * 1000⟩ := by
  simp [Epg.endEpa, complement]

/-- With no pending schedule an EPB pulse is judged under the schedule in force. -/
theorem Epg.epbStartDue_steady {r : Reading} (aligned : r.era = g.alignEra)
    (steady : g.pendingSchedule = none) (t : TsState) :
    g.epbStartDue r t = (g.complementStart r.hall).secondStart r.hall := by
  simp only [Epg.epbStartDue, Epg.atReading_aligned aligned, steady, Option.isSome_none,
    Bool.and_false, Bool.false_and, Bool.false_eq_true, if_false]

theorem Epg.startEpb_uncarried (uncarried : g.epbCarried = none) (e : Nat) : g.startEpb e =
    { g with epbPulse := some ⟨e, g.schedule.epbIdle⟩, epb := g.schedule.epbIdle.opposite } := by
  simp [Epg.startEpb, Epg.driveEpb, uncarried]

theorem Epg.complementStart_none (none_ : g.complementDue = none) (h : Nat) : g.complementStart h = g := by
  simp only [Epg.complementStart, none_]

theorem Epg.complementStart_due {x : ComplementDue} (due : g.complementDue = some x) {h : Nat}
    (reached : x.startHall ≤ h) (running : g.running = true) (open_ : g.squelched = false)
    (mode : g.schedule.epbMode = .complement) (uncarried : g.epbCarried = none) :
    g.complementStart h = { g with
      complementDue := none, epbPulse := some ⟨x.endHall, g.schedule.epbIdle⟩,
      epb := g.schedule.epbIdle.opposite } := by
  have started := Epg.startEpb_uncarried (g := { g with complementDue := none }) uncarried x.endHall
  have starts : (g.running && !g.squelched && decide (g.schedule.epbMode = .complement)) = true := by
    simp [running, open_, mode]
  simp only [Epg.complementStart, due, reached, if_true]
  exact (if_pos starts).trans started

theorem Epg.secondStart_early {h : Nat} (early : h < g.nextSecond) : g.secondStart h = g :=
  if_neg (Nat.not_le.mpr early)

theorem Epg.secondStart_due {h : Nat} (reached : g.nextSecond ≤ h) (running : g.running = true)
    (open_ : g.squelched = false) (mode : g.schedule.epbMode = .seconds)
    (uncarried : g.epbCarried = none) :
    g.secondStart h = { g with
      nextSecond := g.nextSecond + 1000000000
      epbPulse := some ⟨g.nextSecond + g.schedule.width * 1000, g.schedule.epbIdle⟩
      epb := g.schedule.epbIdle.opposite } := by
  have started := Epg.startEpb_uncarried (g := { g with nextSecond := g.nextSecond + second })
    uncarried (g.nextSecond + g.schedule.width * 1000)
  have starts : (g.running && !g.squelched && decide (g.schedule.epbMode = .seconds)) = true := by
    simp [running, open_, mode]
  simp only [Epg.secondStart, reached, if_true]
  exact (if_pos starts).trans started

theorem Epg.epbEndDue_aligned {r : Reading} (aligned : r.era = g.alignEra) :
    g.epbEndDue r = g.endEpbBy r.hall := Epg.atReading_aligned aligned _

theorem Epg.endEpbBy_pulse {x : EpbPulse} {h : Nat} (uncarried : g.epbCarried = none)
    (pulse : g.epbPulse = some x) (ended : x.endHall ≤ h) :
    g.endEpbBy h = { g with epbPulse := none, epb := g.schedule.epbIdle } := by
  simp [Epg.endEpbBy, Epg.driveEpb, uncarried, pulse, EpbPulse.beyond, ended]

theorem Epg.endEpbBy_carried {x : EpbPulse} {h : Nat} (carried : g.epbCarried = some x)
    (no : g.epbPulse = none) (ends : h < x.endHall) :
    g.endEpbBy h = { g with epb := x.idle.opposite } := by
  rw [Epg.endEpbBy, carried, no]
  simp only [Epg.driveEpb, Option.filter, EpbPulse.beyond, ends, decide_true, if_true]

theorem Epg.endEpbBy_carriedEnds {x : EpbPulse} {h : Nat} (carried : g.epbCarried = some x)
    (no : g.epbPulse = none) (ended : x.endHall ≤ h) :
    g.endEpbBy h = { g with epbCarried := none, epb := g.schedule.epbIdle } := by
  have past : ¬ h < x.endHall := by omega
  rw [Epg.endEpbBy, carried, no]
  simp only [Epg.driveEpb, Option.filter, EpbPulse.beyond, past, decide_false, Bool.false_eq_true,
    if_false, Option.isSome_none]

/-! ### The obligation -/

/-- What a boundary reached leaves behind (R43, R48). -/
theorem Epg.boundaryEvent_spec (g : Epg) (t : TsState) :
    (g.running = true → g.squelched = false → g.pendingSchedule = none →
      (g.boundaryEvent t).schedule = g.schedule ∧
      (g.boundaryEvent t).nextBoundary = g.nextBoundary + g.schedule.period * 1000000 ∧
      (g.boundaryEvent t).epaPulse = some (g.nextBoundary + g.schedule.width * 1000) ∧
      (g.boundaryEvent t).epa = g.schedule.epaIdle.opposite ∧
      (g.schedule.epbMode = .same → (g.boundaryEvent t).epbPulse =
        some ⟨g.nextBoundary + g.schedule.width * 1000, g.schedule.epbIdle⟩)) ∧
    (g.running = false ∨ (g.squelched = true ∧ g.pendingSchedule = none) →
      (g.boundaryEvent t).schedule = g.schedule ∧
      (g.boundaryEvent t).pendingSchedule = g.pendingSchedule ∧
      (g.boundaryEvent t).nextBoundary = g.nextBoundary + g.schedule.period * 1000000 ∧
      (g.boundaryEvent t).epaPulse = g.epaPulse ∧ (g.boundaryEvent t).epa = g.epa) ∧
    ∀ c, g.running = true → g.pendingSchedule = some c →
      (g.boundaryEvent t).schedule = c ∧ (g.boundaryEvent t).pendingSchedule = none ∧
      (c.firstBoundary g.nextBoundary ≠ g.nextBoundary →
        (g.boundaryEvent t).nextBoundary = c.firstBoundary g.nextBoundary ∧
        (g.boundaryEvent t).epaPulse = none ∧ (g.boundaryEvent t).epa = c.epaIdle ∧
        ∀ x, g.schedule.epbMode = .seconds → g.epbCarried = none → g.epbPulse = some x →
          g.nextBoundary < x.endHall → c.squelchedIn t = false →
          (g.boundaryEvent t).epbCarried = some x ∧ (g.boundaryEvent t).epbPulse = none ∧
          (g.boundaryEvent t).epb = x.idle.opposite) := by
  refine ⟨fun running open_ none_ => ?_, fun still => ?_, fun c running pending => ?_⟩
  · obtain ⟨schedule, pulse, level, same⟩ := (g.endEpbBy g.nextBoundary).startEpa_pulse g.nextBoundary
    rw [Epg.boundaryEvent_passes (.inr none_), Epg.passBoundary_starts (g := g.endEpbBy g.nextBoundary) running open_]
    exact ⟨schedule, rfl, pulse, level, same⟩
  · rw [Epg.boundaryEvent_passes (still.imp_right And.right),
      Epg.passBoundary_still (g := g.endEpbBy g.nextBoundary) (still.imp_right And.left)]
    exact ⟨rfl, rfl, rfl, rfl, rfl⟩
  · rw [Epg.boundaryEvent_applies running pending]
    obtain ⟨schedule, none_⟩ := (g.endEpbBy g.nextBoundary).applyPending_schedule c g.nextBoundary t
    refine ⟨schedule, none_, fun later => ?_⟩
    obtain ⟨boundary, pulse, level, carry⟩ :=
      Epg.applyPending_later (g := g.endEpbBy g.nextBoundary) later t
    refine ⟨boundary, pulse, level, fun x _ uncarried running beyond open_ => ?_⟩
    exact carry x (by simp [Epg.endEpbBy, Epg.driveEpb, uncarried])
      (Epg.endEpbBy_beyond running beyond) open_

/-- Settles O28. -/
theorem epochOutputEdges : Obligations.EpochOutputEdges := by
  refine ⟨fun c h drawable => ?_, fun s aligned => ⟨fun early => ?_, fun reached => ?_⟩,
    fun s aligned uncarried => ⟨fun e pulse reached => ?_, fun running open_ steady none_ mode due => ?_,
      fun x running open_ steady due mode reached early => ?_, fun x pulse ended => ?_⟩,
    fun s x aligned carried no => ⟨fun ends => ?_, fun ended => ?_⟩, fun s c other edge => ?_⟩
  · have phase := (c.drawable_iff.mp drawable).2.2.2.2.2.1
    exact nextResidue_least (C := c.period * 1000000) (p := c.phase * 1000) (by omega)
  · rw [exec_epochBoundary, Epg.boundaryDue, Epg.atReading_aligned aligned,
      if_neg (Nat.not_le.mpr early), State.setEpg_self]
  · obtain ⟨running, era, next⟩ := s.epg.boundaryEvent_sameRun s.rdu.tsState
    refine ⟨s.epg.boundaryEvent s.rdu.tsState, ?_, running, era, next,
      s.epg.boundaryEvent_spec s.rdu.tsState⟩
    rw [exec_epochBoundary, Epg.boundaryDue, Epg.atReading_aligned aligned, if_pos reached]
  · obtain ⟨ended, level, schedule, boundary⟩ := s.epg.endEpa_frame e
    refine ⟨s.epg.endEpa e, ?_, ended, level, schedule, boundary,
      fun same => Epg.endEpa_same same uncarried e, fun complement =>
        ⟨_, Epg.endEpa_complement complement e, rfl, fun started fits => ?_⟩⟩
    · rw [exec_epaPulseEnd, Epg.epaEndDue_of_reached aligned pulse reached]
    · dsimp only
      omega
  · rw [exec_epbPulseStart, Epg.epbStartDue_steady aligned steady, Epg.complementStart_none none_,
      Epg.secondStart_due due running open_ mode uncarried]
  · have started : s.epg.complementStart s.readNow.hall = { s.epg with
        complementDue := none
        epbPulse := some { endHall := x.endHall, idle := s.epg.schedule.epbIdle }
        epb := s.epg.schedule.epbIdle.opposite } :=
      Epg.complementStart_due due reached running open_ mode uncarried
    rw [exec_epbPulseStart, Epg.epbStartDue_steady aligned steady, started]
    exact congrArg (fun g => Host.Outcome.next (s.setEpg g)) (Epg.secondStart_early early)
  · rw [exec_epbPulseEnd, Epg.epbEndDue_aligned aligned, Epg.endEpbBy_pulse uncarried pulse ended]
  · rw [exec_epbPulseEnd, Epg.epbEndDue_aligned aligned, Epg.endEpbBy_carried carried no ends]
  · rw [exec_epbPulseEnd, Epg.epbEndDue_aligned aligned, Epg.endEpbBy_carriedEnds carried no ended]
  · rcases edge with rfl | rfl | rfl | rfl
    · rw [exec_epochBoundary, Epg.boundaryDue, Epg.atReading_misaligned other]
    · rw [exec_epaPulseEnd, Epg.epaEndDue, Epg.atReading_misaligned other]
    · rw [exec_epbPulseStart, Epg.epbStartDue, Epg.atReading_misaligned other]
    · rw [exec_epbPulseEnd, Epg.epbEndDue, Epg.atReading_misaligned other]

end Sys2Proof.Machine
end

section
/-!
PROOFS. What an event that may change the timescale state does beyond the discipline (R37, R49, R156):
it changes it at most once, behind a few postings.
-/

namespace Sys2Proof.Machine

variable {s t u : State} {n m : Nat}

/-! ### The switches of the condition reporting unit -/

/-- The recording switches and the class masks stand. -/
structure Cru.SameSwitches (c d : Cru) : Prop where
  recording : d.recordingOff = c.recordingOff
  maskA : d.maskA = c.maskA
  maskB : d.maskB = c.maskB

theorem Cru.SameSwitches.trans {a b c : Cru} (h : a.SameSwitches b) (k : b.SameSwitches c) :
    a.SameSwitches c :=
  ⟨k.recording.trans h.recording, k.maskA.trans h.maskA, k.maskB.trans h.maskB⟩

theorem Cru.SameSwitches.refl (c : Cru) : c.SameSwitches c := ⟨rfl, rfl, rfl⟩

theorem Cru.SameSwitches.records {c d : Cru} (h : c.SameSwitches d) (k : CondKind) :
    d.records? k = c.records? k := by simp only [Cru.records?, h.recording]

theorem Cru.SameSwitches.wants {c d : Cru} (h : c.SameSwitches d) (p : Port) (k : CondKind) :
    d.wants p k = c.wants p k := by
  cases p <;> simp only [Cru.wants, Cru.classOn, Cru.mask, h.maskA, h.maskB]

theorem Cru.activate_switches (c : Cru) (k : CondKind) (sc : Scope) : c.SameSwitches (c.activate k sc) := by
  unfold Cru.activate; split <;> exact ⟨rfl, rfl, rfl⟩

theorem Cru.noteLinkDown_switches (c : Cru) (k : CondKind) (sc : Scope) (now : Nat) :
    c.SameSwitches (c.noteLinkDown k sc now) := by
  unfold Cru.noteLinkDown; split <;> exact ⟨rfl, rfl, rfl⟩

theorem Cru.raiseListFull_switches (c : Cru) (now : Reading) : c.SameSwitches (c.raiseListFull now) :=
  (c.activate_switches .conditionListFull .part).trans ⟨rfl, rfl, rfl⟩

theorem Cru.appendRecord_switches (c : Cru) (r : CondRecord) : c.SameSwitches (c.appendRecord r) := by
  have add (l : List CondRecord) : c.SameSwitches
      (if c.needed r then { c with list := l ++ [r] } else { c with list := l }) := by
    split <;> exact ⟨rfl, rfl, rfl⟩
  unfold Cru.appendRecord
  dsimp only
  split
  · exact add _
  · split
    · exact add _
    · exact .trans (b := { c with listFullRefusals := satAdd 65535 c.listFullRefusals 1 })
        ⟨rfl, rfl, rfl⟩ (Cru.raiseListFull_switches _ _)

theorem Cru.post_switches (c : Cru) (k : CondKind) (sc : Scope) (d : Details) (now : Reading) (anc : Bool) :
    c.SameSwitches (c.post k sc d now anc) := by
  unfold Cru.post
  split
  · exact ⟨rfl, rfl, rfl⟩
  · exact c.appendRecord_switches _

theorem Cru.clear_switches (c : Cru) (k : CondKind) (sc : Scope) : c.SameSwitches (c.clear k sc) := by
  unfold Cru.clear; split <;> exact ⟨rfl, rfl, rfl⟩

theorem Cru.settleListFull_switches (c : Cru) : c.SameSwitches c.settleListFull := by
  unfold Cru.settleListFull
  split
  · exact (c.clear_switches _ _).trans ⟨rfl, rfl, rfl⟩
  · exact .refl _

theorem State.raiseWith_switches (s : State) (k : CondKind) (sc : Scope) (d : Details) (f : Bool) :
    s.cru.SameSwitches (s.raiseWith k sc d f).cru := by
  unfold State.raiseWith
  split
  · exact ((Cru.activate_switches _ _ _).trans (Cru.noteLinkDown_switches _ _ _ _)).trans
      (Cru.post_switches _ _ _ _ _ _)
  · exact .refl _

/-! ### Steps without a change of timescale state -/

/-- The timescale state, the epoch outputs, the wait-outs and the ports stand, with at most `n`
postings, none of them a TIMESCALE_STATE. -/
structure Steady (n : Nat) (s t : State) : Prop where
  state : t.rdu.tsState = s.rdu.tsState
  epg : t.epg = s.epg
  sdu : t.sdu = s.sdu
  mgp : t.mgp = s.mgp
  switches : s.cru.SameSwitches t.cru
  length : s.cru.list.length + n ≤ 64 → t.cru.list.length ≤ s.cru.list.length + n
  keeps : s.cru.list.length + n ≤ 64 → ∀ r ∈ s.cru.list, r.kind = .timescaleState → r ∈ t.cru.list

theorem Steady.refl (s : State) : Steady 0 s s := 
  ⟨rfl, rfl, rfl, rfl, .refl _, fun _ => le_refl _, fun _ _ h _ => h⟩

theorem Steady.trans (h : Steady n s u) (k : Steady m u t) : Steady (n + m) s t where
  state := k.state.trans h.state
  epg := k.epg.trans h.epg
  sdu := k.sdu.trans h.sdu
  mgp := k.mgp.trans h.mgp
  switches := h.switches.trans k.switches
  length room := by
    have first := h.length (by omega)
    have second := k.length (by omega)
    omega
  keeps room r mem kind := by
    have first := h.length (by omega)
    exact k.keeps (by omega) r (h.keeps (by omega) r mem kind) kind

theorem Steady.mono (h : Steady n s t) (le : n ≤ m) : Steady m s t :=
  { h with
    length := fun room => (h.length (by omega)).trans (by omega)
    keeps := fun room => h.keeps (by omega) }

/-- A write outside the condition reporting unit that keeps the timescale state. -/
theorem Steady.of_cru (state : t.rdu.tsState = s.rdu.tsState) (epg : t.epg = s.epg) (sdu : t.sdu = s.sdu)
    (mgp : t.mgp = s.mgp) (cru : t.cru = s.cru) : Steady 0 s t :=
  ⟨state, epg, sdu, mgp, by rw [cru]; exact .refl _, fun _ => by rw [cru]; exact le_refl _, fun _ _ mem _ => by rwa [cru]⟩

theorem Steady.setRef (s : State) (r : RefId) (x : Reference) : Steady 0 s (s.setRef r x) :=
  .of_cru (by simp) (by simp) (by simp) (by simp) (by simp)

theorem Steady.setRdu (s : State) {x : Rdu} (state : x.tsState = s.rdu.tsState := by rfl) :
    Steady 0 s (s.setRdu x) := .of_cru state rfl rfl rfl rfl

theorem Steady.setTsu (s : State) (x : Tsu) : Steady 0 s (s.setTsu x) := .of_cru rfl rfl rfl rfl rfl

theorem Steady.raise (s : State) {k : CondKind} (other : k ≠ .timescaleState) (sc : Scope) (d : Details) :
    Steady 1 s (s.raise k sc d) where
  state := by rw [State.raise_rdu]
  epg := by simp
  sdu := by simp
  mgp := by simp
  switches := s.raiseWith_switches k sc d false
  length room := s.raiseWith_length (by omega) k sc d false
  keeps room r mem kind := s.mem_raiseWith (by omega) mem (by rw [kind]; exact other.symm) sc d false

theorem Steady.clearOutlier (s : State) (r : RefId) : Steady 0 s (s.clearOutlier r) where
  state := rfl
  epg := rfl
  sdu := rfl
  mgp := rfl
  switches := s.cru.clear_switches _ _
  length _ := s.cru.clear_length _ _
  keeps _ x mem kind := s.cru.mem_clear mem (by rw [kind]; decide) _

theorem Steady.settleCru (s : State) : Steady 0 s s.settleCru where
  state := rfl
  epg := rfl
  sdu := rfl
  mgp := rfl
  switches := s.cru.settleListFull_switches.trans ⟨rfl, rfl, rfl⟩
  length _ := by
    change s.cru.settleListFull.list.length ≤ _
    unfold Cru.settleListFull
    split
    · exact s.cru.clear_length _ _
    · exact le_refl _
  keeps _ x mem kind := s.cru.mem_settle mem (by rw [kind]; decide)

/-! ### A transition -/

/-- An event of at most `n` postings before and one behind at most one change of timescale state,
entered in the era the event began in. -/
inductive Shifts (n : Nat) (s t : State) : Prop where
  | stays (steady : Steady (n + 1) s t)
  | enters (u : State) (x : TsState) (before : Steady n s u) (era : u.tsu.era = s.tsu.era)
      (change : u.rdu.tsState ≠ x) (behind : Steady 1 (u.enterTimescale x) t)
      (era' : t.tsu.era = u.tsu.era)

theorem Steady.shifts (h : Steady n s t) : Shifts n s t := .stays (h.mono (Nat.le_succ n))

theorem Steady.then (h : Steady n s u) (era : u.tsu.era = s.tsu.era) (k : Shifts m u t) :
    Shifts (n + m) s t := by
  cases k with
  | stays steady => exact .stays (h.trans steady)
  | enters v x before sameEra change behind sameEra' =>
    exact .enters v x (h.trans before) (sameEra.trans era) change behind sameEra'

theorem Steady.before (h : Steady 0 s u) (era : u.tsu.era = s.tsu.era) (k : Shifts m u t) :
    Shifts m s t := by simpa using h.then era k

theorem Shifts.mono (h : Shifts n s t) (le : n ≤ m) : Shifts m s t := by
  cases h with
  | stays steady => exact .stays (steady.mono (by omega))
  | enters u x before era change behind era' =>
    exact .enters u x (before.mono le) era change behind era'

theorem Steady.enter {x : TsState} (h : Steady n s u) (era : u.tsu.era = s.tsu.era)
    (change : u.rdu.tsState ≠ x) : Shifts n s (u.enterTimescale x) :=
  .enters u x h era change ((Steady.refl _).mono (by omega)) (by simp)

/-- The end of the event. -/
theorem Shifts.settle (h : Shifts n s t) : Shifts n s t.settleCru := by
  cases h with
  | stays steady => exact .stays (steady.trans (.settleCru t))
  | enters u x before era change behind era' =>
    exact .enters u x before era change (behind.trans (.settleCru t)) era'

/-- R49 of the epoch pulse generator. -/
theorem Epg.timescaleChanged_follows (g : Epg) (x : TsState) : EpgFollows g x (g.timescaleChanged x) := by
  have flag : g.schedule.squelchedIn x = true ↔
      g.schedule.squelch = true ∧ x ≠ .locked ∧ x ≠ .holdover := by
    cases x <;> simp [Schedule.squelchedIn, TsState.squelches]
  have kept : (g.timescaleChanged x).squelched = g.schedule.squelchedIn x := by
    unfold Epg.timescaleChanged
    dsimp only
    split <;> rfl
  refine ⟨by rw [kept]; exact flag, fun quiet => ?_, fun running squelched => ?_⟩
  · rw [kept] at quiet ⊢
    refine if_neg ?_
    rcases quiet with stopped | open_
    · simp [stopped]
    · simp [open_]
  · rw [kept] at squelched
    unfold Epg.timescaleChanged
    rw [if_pos (by simp [running, squelched]), squelched]
    rfl

/-- What the other blocks keep and lose at a transition (R49, R156). -/
theorem State.enterTimescale_parked (s : State) {x : TsState} (free : x ≠ .free) (failed : x ≠ .failed) :
    (s.enterTimescale x).sdu = s.sdu ∧ (s.enterTimescale x).mgp = s.mgp := by
  rw [State.enterTimescale_eq]
  cases x <;> simp_all [State.announceTimescale]

theorem State.enterTimescale_untimed (s : State) {x : TsState} (stops : x = .free ∨ x = .failed) :
    (s.enterTimescale x).sdu = { s.sdu with waitOuts := [] } ∧
      ∀ q, (s.port q).queue.length + s.sdu.share q ≤ 16 →
        ((s.enterTimescale x).port q).replies = (s.port q).replies ++
          waitReplies q .untimed (waitReply 0 s.tsu.era 0 x) s.sdu.waitOuts := by
  rw [State.enterTimescale_eq]
  generalize posted : (s.leaveTimescale x).raise .timescaleState .part
      { oldState := some s.rdu.tsState.code, newState := some x.code, era := some s.tsu.era } = v
  have sdu : v.sdu = s.sdu := by rw [← posted]; simp
  have tsu : v.tsu = s.tsu := by rw [← posted]; simp
  have port (q : Port) : v.port q = s.port q := by
    have mgp : v.mgp = s.mgp := by rw [← posted]; simp
    cases q <;> simp [State.port, mgp]
  have announced : v.announceTimescale x = (v.setEpg (v.epg.timescaleChanged x)).untimeWaits x := by
    rcases stops with rfl | rfl <;> rfl
  rw [announced]
  refine ⟨by simp [State.untimeWaits, sdu], fun q room => ?_⟩
  have replies := (v.setEpg (v.epg.timescaleChanged x)).completeWaits_replies (fun _ => true) .untimed
    (waitReply 0 v.tsu.era 0 x) (q := q) (by simpa [sdu, port] using room)
  simpa [State.untimeWaits, sdu, tsu, port] using replies

theorem State.leaveTimescale_list (s : State) (x : TsState) :
    (s.leaveTimescale x).cru.list.length ≤ s.cru.list.length := by
  unfold State.leaveTimescale
  dsimp only
  split
  · exact (Cru.clear_length _ _ _).trans (Cru.clear_length _ _ _)
  · exact le_refl _

theorem State.leaveTimescale_switches (s : State) (x : TsState) :
    s.cru.SameSwitches (s.leaveTimescale x).cru := by
  unfold State.leaveTimescale
  dsimp only
  split
  · exact (Cru.clear_switches _ _ _).trans (Cru.clear_switches _ _ _)
  · exact .refl _

/-- A transition posts its TIMESCALE_STATE where that is recorded and wanted (R37). -/
theorem State.enterTimescale_posted (s : State) (x : TsState) (room : s.cru.list.length < 64)
    (recorded : s.cru.records? .timescaleState = true)
    (wanted : (s.cru.wants .a .timescaleState || s.cru.wants .b .timescaleState) = true) :
    ∃ r ∈ (s.enterTimescale x).cru.list, r.Shows .timescaleState .part
      { oldState := some s.rdu.tsState.code, newState := some x.code, era := some s.tsu.era }
      (s.leaveTimescale x).readNow := by
  have switches := s.leaveTimescale_switches x
  rw [State.enterTimescale_eq, State.announceTimescale_cru]
  exact State.raiseWith_shows _ (lt_of_le_of_lt (s.leaveTimescale_list x) room)
    (by rwa [switches.records]) (by rwa [switches.wants, switches.wants]) _ _ _

theorem State.enterTimescale_length (s : State) (x : TsState) (room : s.cru.list.length < 64) :
    (s.enterTimescale x).cru.list.length ≤ s.cru.list.length + 1 := by
  have left := s.leaveTimescale_list x
  rw [State.enterTimescale_eq, State.announceTimescale_cru]
  exact (State.raiseWith_length _ (by omega) _ _ _ _).trans (by omega)

theorem Steady.timescaleMoved (h : Steady n s t) : TimescaleMoved s t where
  stands _ := ⟨h.epg, h.sdu, h.mgp⟩
  outputs moved := absurd h.state moved
  parked moved := absurd h.state moved
  untimed moved := absurd h.state moved
  posted moved := absurd h.state moved

theorem State.port_congr (h : t.mgp = s.mgp) (q : Port) : t.port q = s.port q := by
  cases q <;> simp [State.port, h]

/-- Every event of the reference discipline moves the timescale state as R37, R49 and R156 say. -/
theorem Shifts.timescaleMoved (h : Shifts 2 s t) : TimescaleMoved s t := by
  cases h with
  | stays steady => exact steady.timescaleMoved
  | enters u x before era change behind era' =>
    have state : t.rdu.tsState = x := by rw [behind.state, State.enterTimescale_rdu]
    refine ⟨fun stays => ?_, fun _ => ?_, fun _ free failed => ?_, fun _ stops => ?_, fun _ recorded wanted room => ?_⟩
    · exact absurd (before.state.trans (stays.symm.trans state)) change
    · rw [behind.epg, State.enterTimescale_epg, state, before.epg]
      exact Epg.timescaleChanged_follows _ _
    · rw [state] at free failed
      obtain ⟨sdu, mgp⟩ := u.enterTimescale_parked free failed
      exact ⟨behind.sdu.trans (sdu.trans before.sdu), behind.mgp.trans (mgp.trans before.mgp)⟩
    · rw [state] at stops
      obtain ⟨sdu, replies⟩ := u.enterTimescale_untimed stops
      rw [before.sdu] at sdu replies
      refine ⟨behind.sdu.trans sdu, fun q room => ?_⟩
      rw [State.port_congr behind.mgp, replies q (by rwa [State.port_congr before.mgp]),
        State.port_congr before.mgp, era, state]
    · have few := before.length (by omega)
      obtain ⟨r, mem, shows⟩ := u.enterTimescale_posted x (by omega)
        (by rwa [before.switches.records]) (by rwa [before.switches.wants, before.switches.wants])
      have more := u.enterTimescale_length x (by omega)
      refine ⟨r, behind.keeps (by omega) r mem shows.kind, shows.kind, shows.scope, ?_⟩
      rw [shows.details, before.state, state, era']

end Sys2Proof.Machine
end

section
/-!
PROOFS. The reference discipline, operation by operation (2.2 to 2.5): what a mark, a loss and a
re-judged selection do to the timescale, to the references and to the selection.
-/

namespace Sys2Proof.Machine

variable {s t u : State} {r : RefId}

/-! ### References -/

theorem RefId.eq_or_other (r x : RefId) : x = r ∨ x = otherRef r := by cases r <;> cases x <;> simp [otherRef]

theorem otherRef_ne (r : RefId) : otherRef r ≠ r := by cases r <;> decide

@[simp] theorem otherRef_otherRef (r : RefId) : otherRef (otherRef r) = r := by cases r <;> rfl

/-- The records of the references are those of the reference discipline unit. -/
theorem State.ref_congr (a : t.rdu.refA = s.rdu.refA) (b : t.rdu.refB = s.rdu.refB) (x : RefId) :
    t.ref x = s.ref x := by cases x <;> assumption

@[simp] theorem State.enterTimescale_ref (s : State) (x : TsState) (y : RefId) :
    (s.enterTimescale x).ref y = s.ref y := State.ref_congr (by simp) (by simp) y

@[simp] theorem State.writeRate_ref (s : State) (v : Int) (y : RefId) : (s.writeRate v).ref y = s.ref y :=
  s.setTsu_ref y _

theorem State.becomesSelected_rdu (s : State) : s.becomesSelected.rdu =
    match s.rdu.tsState with
    | .free => { s.rdu with tsState := .acquiring, lockCount := 0, unlockCount := 0 }
    | .holdover => { s.rdu with tsState := .acquiring, lockCount := 0, unlockCount := 0,
                                holdoverStart := none }
    | _ => s.rdu := by
  unfold State.becomesSelected
  cases s.rdu.tsState <;> simp [State.zeroLock]

theorem State.noneRemains_rdu (s : State) : s.noneRemains.rdu =
    match s.rdu.tsState with
    | .locked => { s.rdu with tsState := .holdover, lockCount := 0, unlockCount := 0,
                              holdoverStart := some s.osc }
    | .acquiring => { s.rdu with tsState := .free, lockCount := 0, unlockCount := 0, clampCount := 0 }
    | _ => s.rdu := by
  unfold State.noneRemains
  cases s.rdu.tsState <;> simp [State.zeroLock, State.zeroCounters, State.writeRate]

@[simp] theorem State.becomesSelected_ref (s : State) (y : RefId) : s.becomesSelected.ref y = s.ref y := by
  refine State.ref_congr ?_ ?_ y <;> rw [State.becomesSelected_rdu] <;> split <;> rfl

@[simp] theorem State.noneRemains_ref (s : State) (y : RefId) : s.noneRemains.ref y = s.ref y := by
  refine State.ref_congr ?_ ?_ y <;> rw [State.noneRemains_rdu] <;> split <;> rfl

theorem State.ref_setRdu_choice (s : State) (a b : Option RefId) (y : RefId) :
    (s.setRdu { s.rdu with selected := a, candidate := b }).ref y = s.ref y := by cases y <;> rfl

/-! ### The best reference (R25) -/

theorem State.isQualified_iff (s : State) (r : RefId) :
    s.isQualified r = true ↔ (s.ref r).state = .qualified := decide_eq_true_iff

theorem State.bestRef_isBest {x : RefId} (h : s.bestRef = some x) : IsBest s x := by
  unfold State.bestRef at h
  cases a : s.isQualified .a <;> cases b : s.isQualified .b <;> rw [a, b] at h
  · cases h
  · cases h
    refine ⟨(s.isQualified_iff .b).mp b, fun q => ?_⟩
    rw [(s.isQualified_iff .a).mpr q] at a; cases a
  · cases h
    refine ⟨(s.isQualified_iff .a).mp a, fun q => ?_⟩
    rw [(s.isQualified_iff .b).mpr q] at b; cases b
  · simp only at h
    split at h
    · next lower => cases h; exact ⟨(s.isQualified_iff .b).mp b, fun _ => .inl lower⟩
    · next higher =>
      cases h
      refine ⟨(s.isQualified_iff .a).mp a, fun _ => ?_⟩
      simp only [State.ref, otherRef, and_true]
      omega

theorem State.bestRef_none_iff : s.bestRef = none ↔ ∀ r, (s.ref r).state ≠ .qualified := by
  have cases_ : s.bestRef = none ↔ s.isQualified .a = false ∧ s.isQualified .b = false := by
    unfold State.bestRef
    cases s.isQualified .a <;> cases s.isQualified .b <;> simp
    split <;> simp
  rw [cases_]
  simp only [State.isQualified, decide_eq_false_iff_not]
  exact ⟨fun ⟨a, b⟩ x => by cases x <;> assumption, fun h => ⟨h .a, h .b⟩⟩

theorem IsBest.unique {x y : RefId} (h : IsBest s x) (k : IsBest s y) : x = y := by
  rcases RefId.eq_or_other x y with rfl | rfl
  · rfl
  · have hx := h.first k.qualified
    have hy := k.first (by rw [otherRef_otherRef]; exact h.qualified)
    rw [otherRef_otherRef] at hy
    rcases hx with hx | ⟨hx, rfl⟩
    · rcases hy with hy | ⟨hy, -⟩ <;> omega
    · rcases hy with hy | ⟨-, hy⟩
      · omega
      · exact absurd hy (by decide)

theorem IsBest.congr {x : RefId} (refs : ∀ y, t.ref y = s.ref y) : IsBest t x ↔ IsBest s x := by
  constructor
  · rintro ⟨q, f⟩; rw [refs] at q; rw [refs, refs] at f; exact ⟨q, f⟩
  · rintro ⟨q, f⟩; rw [← refs] at q; rw [← refs, ← refs x] at f; exact ⟨q, f⟩

/-! ### The selection re-judged (R25) -/

theorem State.rejudge_first {best : RefId} (unselected : s.rdu.selected = none)
    (h : s.bestRef = some best) : s.rejudge =
      (s.setRdu { s.rdu with selected := some best, candidate := none }).becomesSelected := by
  simp only [State.rejudge, unselected, h]

theorem State.rejudge_nothing (unselected : s.rdu.selected = none) (h : s.bestRef = none) :
    s.rejudge = s := by simp only [State.rejudge, unselected, h]

theorem State.rejudge_kept {x best : RefId} (selected : s.rdu.selected = some x)
    (qualified : (s.ref x).state = .qualified) (h : s.bestRef = some best) : s.rejudge =
      s.setRdu { s.rdu with candidate := if best = x then none else some best } := by
  simp only [State.rejudge, selected, (s.isQualified_iff x).mpr qualified, if_true, h]

theorem State.rejudge_replaced {x : RefId} (selected : s.rdu.selected = some x)
    (lost : (s.ref x).state ≠ .qualified) (other : (s.ref (otherRef x)).state = .qualified) :
    s.rejudge = s.setRdu { s.rdu with selected := some (otherRef x), candidate := none } := by
  simp only [State.rejudge, selected, mt (s.isQualified_iff x).mp lost, Bool.false_eq_true, if_false,
    (s.isQualified_iff _).mpr other, if_true]

theorem State.rejudge_lost {x : RefId} (selected : s.rdu.selected = some x)
    (lost : ∀ y, (s.ref y).state ≠ .qualified) : s.rejudge =
      (s.setRdu { s.rdu with selected := none, candidate := none }).noneRemains := by
  simp only [State.rejudge, selected, mt (s.isQualified_iff x).mp (lost x),
    Bool.false_eq_true, if_false, mt (s.isQualified_iff _).mp (lost (otherRef x))]

/-- The five outcomes of a re-judged selection. -/
inductive Rejudged (s : State) : Prop where
  | first (best : RefId) (unselected : s.rdu.selected = none) (h : s.bestRef = some best)
  | nothing (unselected : s.rdu.selected = none) (h : s.bestRef = none)
  | kept (x best : RefId) (selected : s.rdu.selected = some x)
      (qualified : (s.ref x).state = .qualified) (h : s.bestRef = some best)
  | replaced (x : RefId) (selected : s.rdu.selected = some x) (lost : (s.ref x).state ≠ .qualified)
      (other : (s.ref (otherRef x)).state = .qualified)
  | lost (x : RefId) (selected : s.rdu.selected = some x) (lost : ∀ y, (s.ref y).state ≠ .qualified)

theorem State.rejudged (s : State) : Rejudged s := by
  cases chosen : s.rdu.selected with
  | none =>
    cases h : s.bestRef with
    | none => exact .nothing chosen h
    | some best => exact .first best chosen h
  | some x =>
    by_cases qualified : (s.ref x).state = .qualified
    · cases h : s.bestRef with
      | none => exact absurd qualified (State.bestRef_none_iff.mp h x)
      | some best => exact .kept x best chosen qualified h
    · by_cases other : (s.ref (otherRef x)).state = .qualified
      · exact .replaced x chosen qualified other
      · refine .lost x chosen fun y => ?_
        rcases RefId.eq_or_other x y with rfl | rfl <;> assumption

@[simp] theorem State.rejudge_ref (s : State) (y : RefId) : s.rejudge.ref y = s.ref y := by
  cases s.rejudged with
  | first best unselected h =>
    rw [State.rejudge_first unselected h, State.becomesSelected_ref, State.ref_setRdu_choice]
  | nothing unselected h => rw [State.rejudge_nothing unselected h]
  | kept x best selected qualified h =>
    rw [State.rejudge_kept selected qualified h]
    cases y <;> rfl
  | replaced x selected lost other =>
    rw [State.rejudge_replaced selected lost other, State.ref_setRdu_choice]
  | lost x selected lost =>
    rw [State.rejudge_lost selected lost, State.noneRemains_ref, State.ref_setRdu_choice]

theorem State.becomesSelected_shifts (s : State) : Shifts 0 s s.becomesSelected := by
  unfold State.becomesSelected
  split
  · next free =>
    refine Steady.enter (.setRdu s) rfl ?_
    simp [State.zeroLock, free]
  · next holdover =>
    refine Steady.enter (.setRdu s) rfl ?_
    simp [State.zeroLock, holdover]
  · exact (Steady.refl s).shifts
  · exact (Steady.refl s).shifts
  · exact (Steady.refl s).shifts

theorem State.noneRemains_shifts (s : State) : Shifts 0 s s.noneRemains := by
  unfold State.noneRemains
  split
  · next locked =>
    refine Steady.enter (.of_cru ?_ rfl rfl rfl rfl) ?_ ?_ <;>
      simp [State.zeroLock, State.writeRate, locked]
  · next acquiring =>
    refine Steady.enter (.setRdu s) rfl ?_
    simp [State.zeroCounters, acquiring]
  · exact (Steady.refl s).shifts
  · exact (Steady.refl s).shifts
  · exact (Steady.refl s).shifts

theorem State.rejudge_shifts (s : State) : Shifts 0 s s.rejudge := by
  cases s.rejudged with
  | first best unselected h =>
    rw [State.rejudge_first unselected h]
    refine Steady.before ?_ ?_ (State.becomesSelected_shifts _)
    · exact .setRdu s
    · rfl
  | nothing unselected h =>
    rw [State.rejudge_nothing unselected h]
    exact (Steady.refl s).shifts
  | kept x best selected qualified h =>
    rw [State.rejudge_kept selected qualified h]
    exact Steady.shifts (.setRdu s)
  | replaced x selected lost other =>
    rw [State.rejudge_replaced selected lost other]
    exact Steady.shifts (.setRdu s)
  | lost x selected lost =>
    rw [State.rejudge_lost selected lost]
    refine Steady.before ?_ ?_ (State.noneRemains_shifts _)
    · exact .setRdu s
    · rfl

/-- What the judgement reads of the state it begins in, and the state it ends in: two events that agree
on these have judged the selection alike. -/
theorem SelectionJudged.congr {s' t' : State} (h : SelectionJudged s t)
    (selected : s'.rdu.selected = s.rdu.selected) (state : s'.rdu.tsState = s.rdu.tsState)
    (integral : s'.rdu.integral = s.rdu.integral) (osc : s'.osc = s.osc) (tsu : s'.tsu = s.tsu)
    (rdu : t'.rdu = t.rdu) (tsu' : t'.tsu = t.tsu) : SelectionJudged s' t' := by
  have refs (y : RefId) : t'.ref y = t.ref y := State.ref_congr (by rw [rdu]) (by rw [rdu]) y
  have best_iff (x : RefId) : IsBest t' x ↔ IsBest t x := IsBest.congr refs
  obtain ⟨chosen, none_best, kept, replaced, lost⟩ := h
  constructor <;> rw [selected] <;> simp only [refs, best_iff, rdu, tsu', state, integral, osc, tsu] <;>
    assumption

theorem State.rejudge_judged (s : State) : SelectionJudged s s.rejudge := by
  have best_iff (x : RefId) : IsBest s.rejudge x ↔ IsBest s x := IsBest.congr s.rejudge_ref
  cases s.rejudged with
  | first best unselected h =>
    have isBest := State.bestRef_isBest h
    constructor <;> rw [unselected] <;> simp only [best_iff, State.rejudge_ref]
    · intro _ x hx
      rw [hx.unique isBest, State.rejudge_first unselected h, State.becomesSelected_rdu]
      cases state : s.rdu.tsState <;> simp [state]
    · exact fun _ none_ => absurd isBest.qualified (none_ best)
    all_goals intro x hx; cases hx
  | nothing unselected h =>
    have none_ := State.bestRef_none_iff.mp h
    constructor <;> rw [unselected] <;> simp only [best_iff, State.rejudge_ref]
    · exact fun _ x hx => absurd hx.qualified (none_ x)
    · exact fun _ _ => by rw [State.rejudge_nothing unselected h]; exact ⟨unselected, rfl⟩
    all_goals intro x hx; cases hx
  | kept y best selected qualified h =>
    have isBest := State.bestRef_isBest h
    constructor <;> rw [selected] <;> simp only [best_iff, State.rejudge_ref]
    · intro hx; cases hx
    · intro hx; cases hx
    · intro x hx _
      cases hx
      rw [State.rejudge_kept selected qualified h]
      refine ⟨selected, rfl, fun isY => if_pos (isBest.unique isY), fun notY => ?_⟩
      have ne : best ≠ y := fun e => notY (e ▸ isBest)
      exact (if_neg ne).trans (congrArg some ((RefId.eq_or_other y best).resolve_left ne))
    · intro x hx out; cases hx; exact absurd qualified out
    · intro x hx out; exact absurd qualified (out y)
  | replaced y selected gone other =>
    constructor <;> rw [selected] <;> simp only [best_iff, State.rejudge_ref]
    · intro hx; cases hx
    · intro hx; cases hx
    · intro x hx q; cases hx; exact absurd q gone
    · intro x hx _ _
      cases hx
      rw [State.rejudge_replaced selected gone other]
      exact ⟨rfl, rfl, rfl⟩
    · intro x hx out; exact absurd other (out _)
  | lost y selected gone =>
    constructor <;> rw [selected] <;> simp only [best_iff, State.rejudge_ref]
    · intro hx; cases hx
    · intro hx; cases hx
    · intro x hx q; exact absurd q (gone x)
    · intro x hx _ q; exact absurd q (gone _)
    · intro x hx _
      rw [State.rejudge_lost selected gone, State.noneRemains_rdu, State.noneRemains_tsu]
      cases state : s.rdu.tsState <;> simp [state]

end Sys2Proof.Machine
end

section
/-!
PROOFS. Marks (R19 to R36): what each operation on a mark keeps of the references, and that it moves
the timescale at most once.
-/

namespace Sys2Proof.Machine

variable {s t u : State} {r : RefId}

/-! ### Records of the references -/

section

variable (s : State) (y : RefId)

@[simp] theorem State.zeroLock_ref : s.zeroLock.ref y = s.ref y := by cases y <;> rfl
@[simp] theorem State.servoRun_ref (e : Int) : (s.servoRun e).ref y = s.ref y := by cases y <;> rfl
@[simp] theorem State.countLock_ref (e : Int) : (s.countLock e).ref y = s.ref y := by cases y <;> rfl
@[simp] theorem State.countUnlock_ref (e : Int) : (s.countUnlock e).ref y = s.ref y := by cases y <;> rfl

@[simp] theorem State.enterFailed_rdu :
    s.enterFailed.rdu = { s.rdu with holdoverStart := none, tsState := .failed } := by
  simp [State.enterFailed]

@[simp] theorem State.enterFailed_ref : s.enterFailed.ref y = s.ref y :=
  State.ref_congr (by rw [State.enterFailed_rdu]) (by rw [State.enterFailed_rdu]) y

theorem State.judgeAcquiring_rdu : s.judgeAcquiring.rdu =
    if 8 ≤ s.rdu.clampCount then { s.rdu with holdoverStart := none, tsState := .failed }
    else if 8 ≤ s.rdu.lockCount
      then { s.rdu with lockCount := 0, unlockCount := 0, tsState := .locked } else s.rdu := by
  by_cases clamp : 8 ≤ s.rdu.clampCount
  · simp [State.judgeAcquiring, State.clampReached, clamp]
  · by_cases lock : 8 ≤ s.rdu.lockCount <;>
      simp [State.judgeAcquiring, State.clampReached, clamp, State.lockIfReached, lock, State.zeroLock]

theorem State.judgeLocked_rdu : s.judgeLocked.rdu =
    if 8 ≤ s.rdu.clampCount then { s.rdu with holdoverStart := none, tsState := .failed }
    else if 8 ≤ s.rdu.unlockCount
      then { s.rdu with lockCount := 0, unlockCount := 0, tsState := .acquiring } else s.rdu := by
  by_cases clamp : 8 ≤ s.rdu.clampCount
  · simp [State.judgeLocked, State.clampReached, clamp]
  · by_cases unlock : 8 ≤ s.rdu.unlockCount <;>
      simp [State.judgeLocked, State.clampReached, clamp, State.unlockIfReached, unlock, State.zeroLock]

@[simp] theorem State.judgeAcquiring_ref : s.judgeAcquiring.ref y = s.ref y := by
  refine State.ref_congr ?_ ?_ y <;> rw [State.judgeAcquiring_rdu] <;> split <;> try split
  all_goals rfl

@[simp] theorem State.judgeLocked_ref : s.judgeLocked.ref y = s.ref y := by
  refine State.ref_congr ?_ ?_ y <;> rw [State.judgeLocked_rdu] <;> split <;> try split
  all_goals rfl

theorem State.stepHall_ref {s : State} {e : Int} (y : RefId) (h : s.stepHall e = some u) : u.ref y = s.ref y := by
  unfold State.stepHall at h
  split at h
  · cases h; simp
  · cases h

theorem State.stepHall_rdu {s : State} {e : Int} (h : s.stepHall e = some u) : u.rdu = s.rdu := by
  unfold State.stepHall at h
  split at h
  · cases h; simp
  · cases h

theorem State.loseRef_ref_same (new : RefState) : (s.loseRef r new).ref r =
    { s.ref r with state := new, goodRun := 0, badRun := 0, outlierRun := 0 } := by
  simp [State.loseRef]

theorem State.loseRef_ref_other (new : RefState) :
    (s.loseRef r new).ref (otherRef r) = s.ref (otherRef r) := by
  simp [State.loseRef, State.ref_setRef_ne _ _ _ _ (otherRef_ne r)]

end

/-- The other reference stands, and the previous mark, the held label and the missing deadline of this
one. -/
structure MarksKept (r : RefId) (s t : State) : Prop where
  other : t.ref (otherRef r) = s.ref (otherRef r)
  previousMark : (t.ref r).previousMark = (s.ref r).previousMark
  heldLabel : (t.ref r).heldLabel = (s.ref r).heldLabel
  missingDeadline : (t.ref r).missingDeadline = (s.ref r).missingDeadline

theorem MarksKept.trans (h : MarksKept r s u) (k : MarksKept r u t) : MarksKept r s t :=
  ⟨k.other.trans h.other, k.previousMark.trans h.previousMark, k.heldLabel.trans h.heldLabel,
    k.missingDeadline.trans h.missingDeadline⟩

theorem MarksKept.of_refs (h : ∀ y, t.ref y = s.ref y) : MarksKept r s t :=
  ⟨h _, by rw [h], by rw [h], by rw [h]⟩

theorem MarksKept.setRef (s : State) {x : Reference} (mark : x.previousMark = (s.ref r).previousMark)
    (label : x.heldLabel = (s.ref r).heldLabel) (deadline : x.missingDeadline = (s.ref r).missingDeadline) :
    MarksKept r s (s.setRef r x) :=
  ⟨State.ref_setRef_ne _ _ _ _ (otherRef_ne r), by rw [State.ref_setRef_same]; exact mark,
    by rw [State.ref_setRef_same]; exact label, by rw [State.ref_setRef_same]; exact deadline⟩

section

variable (s : State) (new : RefState)

@[simp] theorem State.loseRef_osc : (s.loseRef r new).osc = s.osc := by simp [State.loseRef]
@[simp] theorem State.loseRef_selected : (s.loseRef r new).rdu.selected = s.rdu.selected := by
  simp [State.loseRef]
@[simp] theorem State.loseRef_tsState : (s.loseRef r new).rdu.tsState = s.rdu.tsState := by
  simp [State.loseRef]
@[simp] theorem State.loseRef_integral : (s.loseRef r new).rdu.integral = s.rdu.integral := by
  simp [State.loseRef]

end

theorem MarksKept.loseRef (s : State) (new : RefState) : MarksKept r s (s.loseRef r new) :=
  ⟨s.loseRef_ref_other new, by rw [State.loseRef_ref_same], by rw [State.loseRef_ref_same],
    by rw [State.loseRef_ref_same]⟩

theorem State.rejudge_marks (s : State) (r : RefId) : MarksKept r s s.rejudge := .of_refs s.rejudge_ref

/-! ### Bad marks (R23, R24) -/

theorem State.loseRef_steady (s : State) (new : RefState) : Steady 1 s (s.loseRef r new) :=
  ((Steady.setRef s r _).trans (.clearOutlier _ r)).trans (.raise _ (by decide) _ _)

/-- A QUALIFIED reference with its bad run below the limit (R24). -/
theorem State.badQualified_few (s : State) (few : (s.ref r).badRun < 2) :
    s.badQualified r = s.setRef r { s.ref r with badRun := (s.ref r).badRun + 1 } :=
  if_neg (by omega)

/-- The third bad mark in a row takes the reference out of QUALIFIED (R24). -/
theorem State.badQualified_third (s : State) (third : 2 ≤ (s.ref r).badRun) : s.badQualified r =
    ((s.setRef r { s.ref r with badRun := (s.ref r).badRun + 1 }).loseRef r .waiting).rejudge :=
  if_pos (by omega)

theorem State.badQualified_shifts (s : State) (r : RefId) : Shifts 1 s (s.badQualified r) := by
  rcases Nat.lt_or_ge (s.ref r).badRun 2 with few | third
  · rw [s.badQualified_few few]
    exact (Steady.shifts (.setRef s r _)).mono (by omega)
  · rw [s.badQualified_third third]
    refine Steady.then (n := 1) (m := 0) ?_ ?_ (State.rejudge_shifts _)
    · exact (Steady.setRef s r _).trans (State.loseRef_steady _ _)
    · simp

theorem State.badQualified_marks (s : State) (r : RefId) : MarksKept r s (s.badQualified r) := by
  rcases Nat.lt_or_ge (s.ref r).badRun 2 with few | third
  · rw [s.badQualified_few few]
    exact .setRef s rfl rfl rfl
  · rw [s.badQualified_third third]
    refine .trans (.trans ?_ (.loseRef _ _)) (State.rejudge_marks _ r)
    exact .setRef s rfl rfl rfl

/-- The selection judged behind steps that leave it, the timescale and hall time alone. -/
theorem SelectionJudged.of_rejudge (selected : s.rdu.selected = u.rdu.selected)
    (state : s.rdu.tsState = u.rdu.tsState) (integral : s.rdu.integral = u.rdu.integral)
    (osc : s.osc = u.osc) (tsu : s.tsu = u.tsu) : SelectionJudged s u.rejudge :=
  u.rejudge_judged.congr selected state integral osc tsu rfl rfl

/-- What the third bad mark leaves of the reference, and the selection judged on it (R24, R25). -/
theorem State.badQualified_lost (s : State) (third : 2 ≤ (s.ref r).badRun) :
    (s.badQualified r).ref r =
        { s.ref r with state := .waiting, goodRun := 0, badRun := 0, outlierRun := 0 } ∧
      SelectionJudged s (s.badQualified r) := by
  rw [s.badQualified_third third]
  constructor
  · rw [State.rejudge_ref, State.loseRef_ref_same, State.ref_setRef_same]
  · exact .of_rejudge (by simp) (by simp) (by simp) (by simp) (by simp)

theorem State.badQualified_few_ref (s : State) (few : (s.ref r).badRun < 2) :
    (s.badQualified r).ref r = { s.ref r with badRun := (s.ref r).badRun + 1 } := by
  rw [s.badQualified_few few, State.ref_setRef_same]

theorem State.badMark_shifts (s : State) (r : RefId) : Shifts 1 s (s.badMark r) := by
  unfold State.badMark
  dsimp only
  split
  · exact (Steady.refl s).shifts.mono (by omega)
  · exact (Steady.refl s).shifts.mono (by omega)
  · exact (Steady.shifts (.setRef s r _)).mono (by omega)
  · exact s.badQualified_shifts r

theorem State.badMark_marks (s : State) (r : RefId) : MarksKept r s (s.badMark r) := by
  unfold State.badMark
  dsimp only
  split
  · exact .of_refs fun _ => rfl
  · exact .of_refs fun _ => rfl
  · exact .setRef s rfl rfl rfl
  · exact s.badQualified_marks r

theorem State.badMark_waiting (s : State) (h : (s.ref r).state = .waiting) : s.badMark r = s := by
  simp only [State.badMark, h]

theorem State.badMark_qualifying (s : State) (h : (s.ref r).state = .qualifying) :
    s.badMark r = s.setRef r { s.ref r with state := .waiting, goodRun := 0 } := by
  simp only [State.badMark, h]

theorem State.badMark_qualified (s : State) (h : (s.ref r).state = .qualified) :
    s.badMark r = s.badQualified r := by simp only [State.badMark, h]

/-! ### The timescale machine on a mark (R27 to R32) -/

theorem State.enterFailed_shifts (s : State) (h : s.rdu.tsState ≠ .failed) : Shifts 0 s s.enterFailed :=
  .enters (s.setRdu { s.rdu with holdoverStart := none }) .failed (.setRdu s) rfl h
    (.raise _ (by decide) _ _) (by simp [State.enterFailed])

theorem State.judgeAcquiring_shifts (s : State) (h : s.rdu.tsState = .acquiring) :
    Shifts 0 s s.judgeAcquiring := by
  unfold State.judgeAcquiring State.lockIfReached
  split
  · exact s.enterFailed_shifts (by simp [h])
  · split
    · refine Steady.enter (.setRdu s) rfl ?_
      simp [State.zeroLock, h]
    · exact (Steady.refl s).shifts

theorem State.judgeLocked_shifts (s : State) (h : s.rdu.tsState = .locked) :
    Shifts 0 s s.judgeLocked := by
  unfold State.judgeLocked State.unlockIfReached
  split
  · exact s.enterFailed_shifts (by simp [h])
  · split
    · refine Steady.enter (.setRdu s) rfl ?_
      simp [State.zeroLock, h]
    · exact (Steady.refl s).shifts

/-- A servo run counted in ACQUIRING (R28, R30). -/
def State.servoAcquiring (s : State) (r : RefId) (e : Int) : State :=
  (((s.servoRun e).clearOutlier r).resetBadRun r).countLock e

/-- A servo run counted in LOCKED (R28, R32). -/
def State.servoLocked (s : State) (r : RefId) (e : Int) : State :=
  (((s.servoRun e).clearOutlier r).resetRuns r).countUnlock e

/-- A mark beyond the outlier gate: its run counted and REF_OUTLIER posted (R32, R33). -/
def State.noteOutlier (s : State) (r : RefId) (e : Int) : State :=
  let run := satAdd 255 (s.ref r).outlierRun 1
  (s.setRef r { s.ref r with outlierRun := run }).raise .refOutlier (.reference r)
    { offset := some e, count := some run }

theorem State.noteOutlier_ref_same (s : State) (r : RefId) (e : Int) : (s.noteOutlier r e).ref r =
    { s.ref r with outlierRun := satAdd 255 (s.ref r).outlierRun 1 } := by simp [State.noteOutlier]

theorem State.noteOutlier_ref_other (s : State) (r : RefId) (e : Int) :
    (s.noteOutlier r e).ref (otherRef r) = s.ref (otherRef r) := by
  simp [State.noteOutlier, State.ref_setRef_ne _ _ _ _ (otherRef_ne r)]

theorem State.noteOutlier_steady (s : State) (r : RefId) (e : Int) : Steady 1 s (s.noteOutlier r e) :=
  (Steady.setRef s r _).trans (.raise _ (by decide) _ _)

theorem State.noteOutlier_marks (s : State) (r : RefId) (e : Int) : MarksKept r s (s.noteOutlier r e) :=
  ⟨s.noteOutlier_ref_other r e, by rw [State.noteOutlier_ref_same], by rw [State.noteOutlier_ref_same],
    by rw [State.noteOutlier_ref_same]⟩

theorem State.servoRun_steady (s : State) (e : Int) : Steady 0 s (s.servoRun e) :=
  .of_cru rfl rfl rfl rfl rfl

theorem State.servoAcquiring_steady (s : State) (r : RefId) (e : Int) :
    Steady 0 s (s.servoAcquiring r e) :=
  ((s.servoRun_steady e).trans (.clearOutlier _ r)).trans ((Steady.setRef _ r _).trans (.setRdu _))

theorem State.servoLocked_steady (s : State) (r : RefId) (e : Int) : Steady 0 s (s.servoLocked r e) :=
  ((s.servoRun_steady e).trans (.clearOutlier _ r)).trans ((Steady.setRef _ r _).trans (.setRdu _))

theorem State.actAcquiring_servo (s : State) (r : RefId) {e : Int} (h : s.rdu.settings.steps e = false) :
    s.actAcquiring r e = (s.servoAcquiring r e).judgeAcquiring := if_neg (by simp [h])

theorem State.actAcquiring_step (s : State) {u : State} (r : RefId) {e : Int}
    (h : s.rdu.settings.steps e = true)
    (step : s.stepHall e = some u) :
    s.actAcquiring r e = u.zeroLock.resetBadRun r := by
  simp only [State.actAcquiring, h, if_true, step]

theorem State.actAcquiring_refused (s : State) (r : RefId) {e : Int} (h : s.rdu.settings.steps e = true)
    (step : s.stepHall e = none) : s.actAcquiring r e = s.refuseStep r := by
  simp only [State.actAcquiring, h, if_true, step]

theorem State.actLocked_servo (s : State) (r : RefId) {e : Int}
    (inside : e.natAbs ≤ s.rdu.settings.outlierGate) :
    s.actLocked r e = (s.servoLocked r e).judgeLocked := if_pos inside

theorem State.actLocked_rejected (s : State) (r : RefId) {e : Int}
    (beyond : s.rdu.settings.outlierGate < e.natAbs) :
    s.actLocked r e = (s.noteOutlier r e).badQualified r := if_neg (by omega)

theorem State.stepHall_steady {e : Int} (h : s.stepHall e = some u) : Steady 1 s u := by
  unfold State.stepHall at h
  split at h
  · cases h; exact (Steady.setTsu s _).trans (.raise _ (by decide) _ _)
  · cases h

theorem State.actAcquiring_shifts (s : State) (r : RefId) (e : Int) (h : s.rdu.tsState = .acquiring) :
    Shifts 2 s (s.actAcquiring r e) := by
  cases steps : s.rdu.settings.steps e
  · rw [s.actAcquiring_servo r steps]
    have steady := s.servoAcquiring_steady r e
    refine (steady.before ?_ (State.judgeAcquiring_shifts _ (steady.state.trans h))).mono (by omega)
    simp [State.servoAcquiring, State.servoRun_tsu]
  · cases step : s.stepHall e with
    | some u =>
      rw [s.actAcquiring_step r steps step]
      refine .stays (((State.stepHall_steady step).trans ?_).mono (m := 3) (n := 1 + 0) (by omega))
      exact .trans (n := 0) (m := 0) (.setRdu u) (.setRef _ r _)
    | none =>
      rw [s.actAcquiring_refused r steps step]
      refine (Steady.before ?_ ?_ (State.badQualified_shifts _ r)).mono (by omega)
      · exact .setRdu s
      · rfl

theorem State.actLocked_shifts (s : State) (r : RefId) (e : Int) (h : s.rdu.tsState = .locked) :
    Shifts 2 s (s.actLocked r e) := by
  rcases Nat.lt_or_ge s.rdu.settings.outlierGate e.natAbs with beyond | inside
  · rw [s.actLocked_rejected r beyond]
    exact (s.noteOutlier_steady r e).then (by simp [State.noteOutlier]) (State.badQualified_shifts _ r)
  · rw [s.actLocked_servo r inside]
    have steady := s.servoLocked_steady r e
    refine (steady.before ?_ (State.judgeLocked_shifts _ (steady.state.trans h))).mono (by omega)
    simp [State.servoLocked, State.servoRun_tsu]

theorem State.resetBadRun_marks (s : State) (r : RefId) : MarksKept r s (s.resetBadRun r) := .setRef s rfl rfl rfl

theorem State.resetRuns_marks (s : State) (r : RefId) : MarksKept r s (s.resetRuns r) := .setRef s rfl rfl rfl

theorem State.servoAcquiring_marks (s : State) (r : RefId) (e : Int) :
    MarksKept r s (s.servoAcquiring r e) :=
  (MarksKept.of_refs (t := (s.servoRun e).clearOutlier r) (by simp)).trans
    ((State.resetBadRun_marks _ r).trans (.of_refs (State.countLock_ref _ · e)))

theorem State.servoLocked_marks (s : State) (r : RefId) (e : Int) :
    MarksKept r s (s.servoLocked r e) :=
  (MarksKept.of_refs (t := (s.servoRun e).clearOutlier r) (by simp)).trans
    ((State.resetRuns_marks _ r).trans (.of_refs (State.countUnlock_ref _ · e)))

theorem State.actAcquiring_marks (s : State) (r : RefId) (e : Int) : MarksKept r s (s.actAcquiring r e) := by
  cases steps : s.rdu.settings.steps e
  · rw [s.actAcquiring_servo r steps]
    exact (s.servoAcquiring_marks r e).trans (.of_refs (State.judgeAcquiring_ref _))
  · cases step : s.stepHall e with
    | some u =>
      rw [s.actAcquiring_step r steps step]
      exact (MarksKept.of_refs fun y => by rw [State.zeroLock_ref, State.stepHall_ref y step]).trans
        (State.resetBadRun_marks _ r)
    | none =>
      rw [s.actAcquiring_refused r steps step]
      refine .trans (u := s.setRdu { s.rdu with lockCount := 0 }) (.of_refs fun y => ?_)
        (State.badQualified_marks _ r)
      cases y <;> rfl

theorem State.actLocked_marks (s : State) (r : RefId) (e : Int) : MarksKept r s (s.actLocked r e) := by
  rcases Nat.lt_or_ge s.rdu.settings.outlierGate e.natAbs with beyond | inside
  · rw [s.actLocked_rejected r beyond]
    exact .trans (s.noteOutlier_marks r e) (State.badQualified_marks _ r)
  · rw [s.actLocked_servo r inside]
    exact (s.servoLocked_marks r e).trans (.of_refs (State.judgeLocked_ref _))

end Sys2Proof.Machine
end

section
/-!
PROOFS. Mark arrivals and missing marks (R19 to R36): the obligations on them.
-/

namespace Sys2Proof.Machine

variable {s t u : State} {r : RefId}

/-! ### A GOOD mark, by the state of its reference (R23, R24, R26) -/

/-- A reference that has its fourth GOOD mark: QUALIFIED, with REF_QUALIFIED posted (R23). -/
def State.qualify (s : State) (r : RefId) : State :=
  (s.setRef r { s.ref r with state := .qualified, goodRun := 4, badRun := 0 }).raise .refQualified
    (.reference r) { newState := some RefState.qualified.code, count := some 4 }

section

variable (s : State) (l c : Nat)

theorem State.goodMark_off (h : (s.ref r).state = .off) : s.goodMark r l c = s := by
  simp only [State.goodMark, h]

theorem State.goodMark_waiting (h : (s.ref r).state = .waiting) : s.goodMark r l c =
    s.setRef r { s.ref r with state := .qualifying, goodRun := 1 } := by simp only [State.goodMark, h]

theorem State.goodMark_counts (h : (s.ref r).state = .qualifying) (few : (s.ref r).goodRun < 3) :
    s.goodMark r l c = s.setRef r { s.ref r with goodRun := (s.ref r).goodRun + 1 } := by
  simp only [State.goodMark, h]
  exact if_neg (by omega)

theorem State.goodMark_fourth (h : (s.ref r).state = .qualifying) (fourth : 3 ≤ (s.ref r).goodRun) :
    s.goodMark r l c = (s.qualify r).rejudge := by
  simp only [State.goodMark, h]
  exact if_pos (by omega)

theorem State.goodMark_acts (h : (s.ref r).state = .qualified)
    (selected : (s.moveCandidate r).rdu.selected = some r) :
    s.goodMark r l c = (s.moveCandidate r).actOnMark r l c := by
  simp only [State.goodMark, h, selected, if_true]

theorem State.goodMark_unselected (h : (s.ref r).state = .qualified)
    (unselected : (s.moveCandidate r).rdu.selected ≠ some r) :
    s.goodMark r l c = (s.moveCandidate r).resetBadRun r := by
  simp only [State.goodMark, h, unselected, if_false]

theorem State.moveCandidate_other (h : s.rdu.candidate ≠ some r) : s.moveCandidate r = s := if_neg h

theorem State.moveCandidate_steady (r : RefId) : Steady 0 s (s.moveCandidate r) := by
  unfold State.moveCandidate
  split
  · refine Steady.trans (n := 0) (m := 0) ?_ (.clearOutlier _ _)
    exact .setRdu s
  · exact .refl s

theorem State.moveCandidate_ref (r y : RefId) : (s.moveCandidate r).ref y = s.ref y := by
  unfold State.moveCandidate
  split
  · exact s.ref_setRdu_choice _ _ y
  · rfl

/-- A mark acted on (R27): stale or out of ACQUIRING and LOCKED it resets the bad run alone. -/
theorem State.actOnMark_cases (r : RefId) :
    s.actOnMark r l c = s.resetBadRun r ∨
    (s.rdu.tsState = .acquiring ∧ s.actOnMark r l c = s.actAcquiring r (phaseError s c l)) ∨
    (s.rdu.tsState = .locked ∧ s.actOnMark r l c = s.actLocked r (phaseError s c l)) := by
  unfold State.actOnMark
  dsimp only
  split
  · exact .inl rfl
  · split
    · next h => exact .inr (.inl ⟨h, rfl⟩)
    · next h => exact .inr (.inr ⟨h, rfl⟩)
    all_goals exact .inl rfl

theorem State.actOnMark_acquiring (fresh : (s.tsu.convert c).era = s.tsu.era)
    (h : s.rdu.tsState = .acquiring) : s.actOnMark r l c = s.actAcquiring r (phaseError s c l) := by
  simp only [State.actOnMark, fresh, ne_eq, not_true_eq_false, if_false, h]
  rfl

theorem State.actOnMark_locked (fresh : (s.tsu.convert c).era = s.tsu.era)
    (h : s.rdu.tsState = .locked) : s.actOnMark r l c = s.actLocked r (phaseError s c l) := by
  simp only [State.actOnMark, fresh, ne_eq, not_true_eq_false, if_false, h]
  rfl

theorem State.actOnMark_shifts (r : RefId) : Shifts 2 s (s.actOnMark r l c) := by
  rcases s.actOnMark_cases l c r with h | ⟨state, h⟩ | ⟨state, h⟩ <;> rw [h]
  · exact (Steady.shifts (.setRef s r _)).mono (by omega)
  · exact s.actAcquiring_shifts r _ state
  · exact s.actLocked_shifts r _ state

theorem State.actOnMark_marks (r : RefId) : MarksKept r s (s.actOnMark r l c) := by
  rcases s.actOnMark_cases l c r with h | ⟨-, h⟩ | ⟨-, h⟩ <;> rw [h]
  · exact s.resetBadRun_marks r
  · exact s.actAcquiring_marks r _
  · exact s.actLocked_marks r _

theorem State.goodMark_shifts (r : RefId) : Shifts 2 s (s.goodMark r l c) := by
  cases state : (s.ref r).state with
  | off => rw [s.goodMark_off l c state]; exact (Steady.refl s).shifts.mono (by omega)
  | waiting =>
    rw [s.goodMark_waiting l c state]
    exact (Steady.shifts (.setRef s r _)).mono (by omega)
  | qualifying =>
    rcases Nat.lt_or_ge (s.ref r).goodRun 3 with few | fourth
    · rw [s.goodMark_counts l c state few]
      exact (Steady.shifts (.setRef s r _)).mono (by omega)
    · rw [s.goodMark_fourth l c state fourth]
      refine (Steady.then (n := 1) (m := 0) ?_ (by simp [State.qualify]) (State.rejudge_shifts _)).mono
        (by omega)
      exact (Steady.setRef s r _).trans (.raise _ (by decide) _ _)
  | qualified =>
    by_cases selected : (s.moveCandidate r).rdu.selected = some r
    · rw [s.goodMark_acts l c state selected]
      exact (s.moveCandidate_steady r).before (by simp) (State.actOnMark_shifts _ l c r)
    · rw [s.goodMark_unselected l c state selected]
      refine Shifts.mono (n := 0) ?_ (by omega)
      exact (s.moveCandidate_steady r).before (by simp) (Steady.shifts (.setRef _ r _))

theorem State.goodMark_marks (r : RefId) : MarksKept r s (s.goodMark r l c) := by
  cases state : (s.ref r).state with
  | off => rw [s.goodMark_off l c state]; exact .of_refs fun _ => rfl
  | waiting => rw [s.goodMark_waiting l c state]; exact .setRef s rfl rfl rfl
  | qualifying =>
    rcases Nat.lt_or_ge (s.ref r).goodRun 3 with few | fourth
    · rw [s.goodMark_counts l c state few]; exact .setRef s rfl rfl rfl
    · rw [s.goodMark_fourth l c state fourth]
      refine MarksKept.trans ?_ (State.rejudge_marks _ r)
      refine MarksKept.trans ?_ (.of_refs (State.raise_ref _ _ _ _))
      exact .setRef s rfl rfl rfl
  | qualified =>
    have moved : MarksKept r s (s.moveCandidate r) := .of_refs (s.moveCandidate_ref r)
    by_cases selected : (s.moveCandidate r).rdu.selected = some r
    · rw [s.goodMark_acts l c state selected]
      exact moved.trans (State.actOnMark_marks _ l c r)
    · rw [s.goodMark_unselected l c state selected]
      exact moved.trans (State.resetBadRun_marks _ r)

/-! ### A mark arrival (R19, R21) -/

/-- The record of a reference as a mark arrives (R21). -/
def State.marked (s : State) (r : RefId) (c : Nat) : State :=
  s.setRef r { s.ref r with heldLabel := none, previousMark := some c,
                            missingDeadline := some (c + 1500000000) }

@[simp] theorem State.marked_tsu (r : RefId) : (s.marked r c).tsu = s.tsu := by simp [State.marked]
@[simp] theorem State.marked_osc (r : RefId) : (s.marked r c).osc = s.osc := by simp [State.marked]
@[simp] theorem State.marked_ref (r : RefId) : (s.marked r c).ref r =
    { s.ref r with heldLabel := none, previousMark := some c,
                   missingDeadline := some (c + 1500000000) } := by simp [State.marked]
theorem State.marked_ref_other (r : RefId) : (s.marked r c).ref (otherRef r) = s.ref (otherRef r) :=
  State.ref_setRef_ne _ _ _ _ (otherRef_ne r)
@[simp] theorem State.marked_selected (r : RefId) : (s.marked r c).rdu.selected = s.rdu.selected := by
  simp [State.marked]
@[simp] theorem State.marked_candidate (r : RefId) : (s.marked r c).rdu.candidate = s.rdu.candidate := by
  simp [State.marked]
@[simp] theorem State.marked_tsState (r : RefId) : (s.marked r c).rdu.tsState = s.rdu.tsState := by
  simp [State.marked]
@[simp] theorem State.marked_integral (r : RefId) : (s.marked r c).rdu.integral = s.rdu.integral := by
  simp [State.marked]
@[simp] theorem State.marked_settings (r : RefId) : (s.marked r c).rdu.settings = s.rdu.settings := by
  simp [State.marked]

theorem State.markArrival_off (h : (s.ref r).state = .off) : s.markArrival r c = s := if_pos h

theorem State.markArrival_opening (on : (s.ref r).state ≠ .off)
    (h : (s.ref r).classify c = .opening) : s.markArrival r c = s.marked r c := by
  simp only [State.markArrival, if_neg on, h]
  rfl

theorem State.markArrival_good (on : (s.ref r).state ≠ .off)
    (h : (s.ref r).classify c = .good l) : s.markArrival r c = (s.marked r c).goodMark r l c := by
  simp only [State.markArrival, if_neg on, h]
  rfl

theorem State.markArrival_bad (on : (s.ref r).state ≠ .off)
    (h : (s.ref r).classify c = .bad) : s.markArrival r c = (s.marked r c).badMark r := by
  simp only [State.markArrival, if_neg on, h]
  rfl

theorem exec_markArrival (r : RefId) :
    exec (.markArrival r c) s = .next (s.markArrival r c).settleCru :=
  congrArg Host.Outcome.next (ClockOnly.markArrival s r c).endEvent_eq

theorem State.markArrival_shifts (r : RefId) : Shifts 2 s (s.markArrival r c) := by
  have marked : Steady 0 s (s.marked r c) := .setRef s r _
  by_cases off : (s.ref r).state = .off
  · rw [s.markArrival_off c off]; exact (Steady.refl s).shifts.mono (by omega)
  · cases cls : (s.ref r).classify c with
    | opening => rw [s.markArrival_opening c off cls]; exact marked.shifts.mono (by omega)
    | good l =>
      rw [s.markArrival_good l c off cls]
      exact marked.before (by simp) (State.goodMark_shifts _ l c r)
    | bad =>
      rw [s.markArrival_bad c off cls]
      exact (marked.before (by simp) (State.badMark_shifts _ r)).mono (by omega)

theorem State.markArrival_marks (r : RefId) (on : (s.ref r).state ≠ .off) :
    MarksKept r (s.marked r c) (s.markArrival r c) := by
  cases cls : (s.ref r).classify c with
  | opening => rw [s.markArrival_opening c on cls]; exact .of_refs fun _ => rfl
  | good l => rw [s.markArrival_good l c on cls]; exact State.goodMark_marks _ l c r
  | bad => rw [s.markArrival_bad c on cls]; exact State.badMark_marks _ r

end

theorem SelectionJudged.settle (h : SelectionJudged s t) : SelectionJudged s t.settleCru :=
  h.congr rfl rfl rfl rfl rfl rfl rfl

/-- A judgement of the selection that begins in the state a mark leaves begins in the state before it. -/
theorem SelectionJudged.of_marked {c : Nat} (h : SelectionJudged (s.marked r c) t) : SelectionJudged s t :=
  h.congr (by simp) (by simp) (by simp) (by simp) (by simp) rfl rfl

/-- Settles O21: an event of a mark moves the timescale at most once, and each class acts on the record
of its reference alone. -/
theorem markArrivals : Obligations.MarkArrivals := by
  refine ⟨fun r c s => ⟨_, exec_markArrival s c r, (ClockOnly.markArrival s r c).trans (.settleCru _),
    (s.markArrival_shifts c r).settle.timescaleMoved, ?_, fun off => ?_, fun on => ?_⟩,
    fun r c s => ⟨_, exec_markArrival s c r, fun opening => ?_, fun second good => ⟨fun waiting => ?_,
      fun qualifying few => ?_, fun qualifying fourth => ?_⟩, fun bad => ⟨fun waiting => ?_,
      fun qualifying => ?_, fun qualified few => ?_, fun qualified third => ?_⟩⟩⟩ <;>
    simp only [State.settleCru_ref, State.settleCru_rdu, State.settleCru_tsu, State.settleCru_epg,
      State.settleCru_sdu, State.settleCru_mgp]
  · by_cases off : (s.ref r).state = .off
    · rw [s.markArrival_off c off]
    · rw [(s.markArrival_marks c r off).other, State.marked_ref_other]
  · rw [s.markArrival_off c off]
    exact ⟨rfl, rfl, rfl, rfl, rfl⟩
  · obtain ⟨-, mark, label, deadline⟩ := s.markArrival_marks c r on
    rw [mark, label, deadline, State.marked_ref]
    exact ⟨rfl, rfl, rfl⟩
  · by_cases off : (s.ref r).state = .off
    · rw [s.markArrival_off c off]
      exact ⟨rfl, rfl, rfl⟩
    · rw [s.markArrival_opening c off opening, State.marked_ref]
      exact ⟨rfl, rfl, rfl⟩
  · rw [s.markArrival_good second c (by simp [waiting]) good,
      State.goodMark_waiting _ _ _ (by simpa using waiting), State.ref_setRef_same]
    exact ⟨rfl, rfl⟩
  · rw [s.markArrival_good second c (by simp [qualifying]) good,
      State.goodMark_counts _ _ _ (by simpa using qualifying) (by simpa using few),
      State.ref_setRef_same, State.marked_ref]
    exact ⟨qualifying, rfl⟩
  · rw [s.markArrival_good second c (by simp [qualifying]) good,
      State.goodMark_fourth _ _ _ (by simpa using qualifying) (by simpa using fourth), State.rejudge_ref]
    refine ⟨by simp [State.qualify], by simp [State.qualify], SelectionJudged.settle (.of_rejudge ?_ ?_ ?_ ?_ ?_)⟩ <;>
      simp [State.qualify]
  · rw [s.markArrival_bad c (by simp [waiting]) bad, State.badMark_waiting _ (by simpa using waiting),
      State.marked_ref]
    exact waiting
  · rw [s.markArrival_bad c (by simp [qualifying]) bad,
      State.badMark_qualifying _ (by simpa using qualifying), State.ref_setRef_same]
    exact ⟨rfl, rfl⟩
  · rw [s.markArrival_bad c (by simp [qualified]) bad,
      State.badMark_qualified _ (by simpa using qualified),
      State.badQualified_few_ref _ (by simpa using few), State.marked_ref]
    exact ⟨qualified, rfl⟩
  · obtain ⟨ref, judged⟩ := State.badQualified_lost (s.marked r c) (r := r) (by simpa using third)
    rw [s.markArrival_bad c (by simp [qualified]) bad,
      State.badMark_qualified _ (by simpa using qualified), ref]
    exact ⟨rfl, rfl, judged.of_marked.settle⟩

end Sys2Proof.Machine
end

section
/-!
PROOFS. The servo run on a mark of the selected reference, and marks that are rejected or step hall
time (R26 to R32, R36).
-/

namespace Sys2Proof.Machine

variable {s t u : State} {r : RefId}

/-! ### The servo run -/

/-- The integral term after a servo run (R28). -/
def State.nextIntegral (s : State) (e : Int) : Int :=
  max (-100000000) (min 100000000 (s.rdu.integral + e * s.rdu.settings.q))

/-- The clamp counter after a servo run (R28). -/
def State.nextClamps (s : State) (e : Int) : Nat :=
  if s.nextIntegral e = 100000000 ∨ s.nextIntegral e = -100000000 then s.rdu.clampCount + 1 else 0

/-- The rate a servo run writes (R28). -/
def State.servoRate (s : State) (e : Int) : Int :=
  max (-100000000) (min 100000000 (s.nextIntegral e + e * s.rdu.settings.p))

theorem State.servoRun_eq (s : State) (e : Int) : s.servoRun e =
    (s.setRdu { s.rdu with integral := s.nextIntegral e, clampCount := s.nextClamps e }).setTsu
      (s.tsu.writeRate s.osc (clampSym 100000000 (s.nextIntegral e + e * s.rdu.settings.p))) := by
  simp only [State.servoRun, State.nextClamps, State.nextIntegral, clampSym_eq, State.writeRate]
  rfl

/-- A value written to the pending rate is clamped once. -/
theorem Tsu.writeRate_clamp (x : Tsu) (o : Nat) (v : Int) :
    x.writeRate o (clampSym 100000000 v) = x.writeRate o (max (-100000000) (min 100000000 v)) := by
  rw [clampSym_eq]
  rfl

/-- What a servo run counted in ACQUIRING holds (R28, R30). -/
structure ServoAcquired (s : State) (r : RefId) (e : Int) (w : State) : Prop where
  integral : w.rdu.integral = s.nextIntegral e
  clamps : w.rdu.clampCount = s.nextClamps e
  lock : w.rdu.lockCount = if e.natAbs ≤ s.rdu.settings.lockWindow then s.rdu.lockCount + 1 else 0
  unlock : w.rdu.unlockCount = s.rdu.unlockCount
  state : w.rdu.tsState = s.rdu.tsState
  ref : w.ref r = { s.ref r with badRun := 0 }
  tsu : w.tsu = s.tsu.writeRate s.osc (s.servoRate e)

theorem State.servoAcquiring_spec (s : State) (r : RefId) (e : Int) :
    ServoAcquired s r e (s.servoAcquiring r e) := by
  have ref : (s.servoAcquiring r e).ref r = { s.ref r with badRun := 0 } := by
    rw [State.servoAcquiring, State.countLock_ref, State.resetBadRun, State.ref_setRef_same,
      State.clearOutlier_ref, State.servoRun_ref]
  refine ⟨?_, ?_, ?_, ?_, ?_, ref, ?_⟩ <;>
    simp [State.servoAcquiring, State.countLock, State.resetBadRun, State.servoRun_eq]
  exact Tsu.writeRate_clamp _ _ _

/-- What a servo run counted in LOCKED holds (R28, R32). -/
structure ServoLocked (s : State) (r : RefId) (e : Int) (w : State) : Prop where
  integral : w.rdu.integral = s.nextIntegral e
  clamps : w.rdu.clampCount = s.nextClamps e
  lock : w.rdu.lockCount = s.rdu.lockCount
  unlock : w.rdu.unlockCount = if e.natAbs ≤ s.rdu.settings.lockWindow then 0 else s.rdu.unlockCount + 1
  state : w.rdu.tsState = s.rdu.tsState
  ref : w.ref r = { s.ref r with badRun := 0, outlierRun := 0 }
  tsu : w.tsu = s.tsu.writeRate s.osc (s.servoRate e)

theorem State.servoLocked_spec (s : State) (r : RefId) (e : Int) :
    ServoLocked s r e (s.servoLocked r e) := by
  have ref : (s.servoLocked r e).ref r = { s.ref r with badRun := 0, outlierRun := 0 } := by
    rw [State.servoLocked, State.countUnlock_ref, State.resetRuns, State.ref_setRef_same,
      State.clearOutlier_ref, State.servoRun_ref]
  refine ⟨?_, ?_, ?_, ?_, ?_, ref, ?_⟩ <;>
    simp [State.servoLocked, State.countUnlock, State.resetRuns, State.servoRun_eq]
  exact Tsu.writeRate_clamp _ _ _

/-! ### A GOOD mark of the selected reference reaches the timescale machine (R27) -/

theorem SelectedGoodMark.on {c l : Nat} (h : SelectedGoodMark s r c l) : (s.ref r).state ≠ .off := by
  rw [h.qualified]; decide

theorem SelectedGoodMark.markArrival {c l : Nat} (h : SelectedGoodMark s r c l) :
    s.markArrival r c = (s.marked r c).actOnMark r l c := by
  have same : (s.marked r c).moveCandidate r = s.marked r c :=
    State.moveCandidate_other _ (by simpa using h.noCandidate)
  rw [s.markArrival_good l c h.on h.good, State.goodMark_acts _ l c (by simpa using h.qualified)
    (by simpa [same] using h.selected), same]

theorem State.phaseError_marked (s : State) (r : RefId) (c l : Nat) :
    phaseError (s.marked r c) c l = phaseError s c l := by simp [phaseError]

theorem SelectedGoodMark.acquiring {c l : Nat} (h : SelectedGoodMark s r c l)
    (state : s.rdu.tsState = .acquiring) :
    s.markArrival r c = (s.marked r c).actAcquiring r (phaseError s c l) := by
  rw [h.markArrival, State.actOnMark_acquiring _ l c (by simpa using h.notStale) (by simpa using state),
    State.phaseError_marked]

theorem SelectedGoodMark.locked {c l : Nat} (h : SelectedGoodMark s r c l)
    (state : s.rdu.tsState = .locked) :
    s.markArrival r c = (s.marked r c).actLocked r (phaseError s c l) := by
  rw [h.markArrival, State.actOnMark_locked _ l c (by simpa using h.notStale) (by simpa using state),
    State.phaseError_marked]

@[simp] theorem State.marked_clampCount (s : State) (r : RefId) (c : Nat) :
    (s.marked r c).rdu.clampCount = s.rdu.clampCount := by simp [State.marked]
@[simp] theorem State.marked_lockCount (s : State) (r : RefId) (c : Nat) :
    (s.marked r c).rdu.lockCount = s.rdu.lockCount := by simp [State.marked]
@[simp] theorem State.marked_unlockCount (s : State) (r : RefId) (c : Nat) :
    (s.marked r c).rdu.unlockCount = s.rdu.unlockCount := by simp [State.marked]

/-- The takeover by the candidate gives the state in which it is the selected reference (R26). -/
theorem State.markArrival_candidate (s : State) {c l : Nat} (qualified : (s.ref r).state = .qualified)
    (good : (s.ref r).classify c = .good l) (candidate : s.rdu.candidate = some r) :
    s.markArrival r c = ((s.setRdu { s.rdu with selected := some r, candidate := none }).clearCond
      .refOutlier (.reference (otherRef r))).markArrival r c := by
  generalize taken : (s.setRdu { s.rdu with selected := some r, candidate := none }).clearCond
    .refOutlier (.reference (otherRef r)) = u
  have refs (y : RefId) : u.ref y = s.ref y := by
    rw [← taken, State.clearCond_ref]
    exact s.ref_setRdu_choice _ _ y
  have chosen : u.rdu.selected = some r ∧ u.rdu.candidate = none := by rw [← taken]; exact ⟨rfl, rfl⟩
  have moved : (s.marked r c).moveCandidate r = u.marked r c := by
    rw [State.moveCandidate, if_pos (by simpa using candidate)]
    unfold State.marked
    rw [refs, ← taken]
    cases r <;> rfl
  have still : (u.marked r c).moveCandidate r = u.marked r c :=
    State.moveCandidate_other _ (by simp [chosen.2])
  rw [s.markArrival_good l c (by simp [qualified]) good,
    u.markArrival_good l c (by simp [refs, qualified]) (by rwa [refs]),
    State.goodMark_acts _ l c (by simpa using qualified) (by simp [moved, chosen.1]),
    State.goodMark_acts _ l c (by simpa [refs] using qualified) (by simp [still, chosen.1]), moved, still]

section

variable (s : State) (r : RefId) (c : Nat) (e : Int)

@[simp] theorem State.marked_nextIntegral : (s.marked r c).nextIntegral e = s.nextIntegral e := by
  simp [State.nextIntegral]
@[simp] theorem State.marked_nextClamps : (s.marked r c).nextClamps e = s.nextClamps e := by
  simp [State.nextClamps]
@[simp] theorem State.marked_servoRate : (s.marked r c).servoRate e = s.servoRate e := by
  simp [State.servoRate]

end

/-- What the counters of a servo run in ACQUIRING lead to (R30, R36). -/
theorem ServoAcquired.judged {v w : State} {e : Int} (h : ServoAcquired v r e w)
    (state : v.rdu.tsState = .acquiring) :
    w.judgeAcquiring.rdu.integral = v.nextIntegral e ∧ w.judgeAcquiring.rdu.clampCount = v.nextClamps e ∧
      w.judgeAcquiring.ref r = { v.ref r with badRun := 0 } ∧
      w.judgeAcquiring.tsu = v.tsu.writeRate v.osc (v.servoRate e) ∧
      (8 ≤ v.nextClamps e →
        w.judgeAcquiring.rdu.tsState = .failed ∧ w.judgeAcquiring.rdu.holdoverStart = none) ∧
      (v.nextClamps e < 8 → (w.judgeAcquiring.rdu.tsState = .locked ↔
        e.natAbs ≤ v.rdu.settings.lockWindow ∧ 7 ≤ v.rdu.lockCount)) ∧
      (w.judgeAcquiring.rdu.lockCount, w.judgeAcquiring.rdu.unlockCount) =
        if w.judgeAcquiring.rdu.tsState = .locked then (0, 0)
        else (if e.natAbs ≤ v.rdu.settings.lockWindow then v.rdu.lockCount + 1 else 0,
          v.rdu.unlockCount) := by
  rw [State.judgeAcquiring_ref, State.judgeAcquiring_tsu, State.judgeAcquiring_rdu, h.ref, h.tsu,
    h.clamps, h.lock]
  by_cases clamped : 8 ≤ v.nextClamps e
  · simp [clamped, h.integral, h.clamps, h.lock, h.unlock, Nat.not_lt.mpr clamped]
  · by_cases close : e.natAbs ≤ v.rdu.settings.lockWindow <;> by_cases lock : 7 ≤ v.rdu.lockCount <;>
      simp [clamped, close, lock, h.integral, h.clamps, h.lock, h.unlock, h.state, state]

/-- What the counters of a servo run in LOCKED lead to (R32, R36). -/
theorem ServoLocked.judged {v w : State} {e : Int} (h : ServoLocked v r e w)
    (state : v.rdu.tsState = .locked) :
    w.judgeLocked.rdu.integral = v.nextIntegral e ∧ w.judgeLocked.rdu.clampCount = v.nextClamps e ∧
      w.judgeLocked.ref r = { v.ref r with badRun := 0, outlierRun := 0 } ∧
      w.judgeLocked.tsu = v.tsu.writeRate v.osc (v.servoRate e) ∧
      (8 ≤ v.nextClamps e →
        w.judgeLocked.rdu.tsState = .failed ∧ w.judgeLocked.rdu.holdoverStart = none) ∧
      (v.nextClamps e < 8 → (w.judgeLocked.rdu.tsState = .acquiring ↔
        v.rdu.settings.lockWindow < e.natAbs ∧ 7 ≤ v.rdu.unlockCount)) ∧
      (w.judgeLocked.rdu.lockCount, w.judgeLocked.rdu.unlockCount) =
        if w.judgeLocked.rdu.tsState = .acquiring then (0, 0)
        else (v.rdu.lockCount,
          if e.natAbs ≤ v.rdu.settings.lockWindow then 0 else v.rdu.unlockCount + 1) := by
  rw [State.judgeLocked_ref, State.judgeLocked_tsu, State.judgeLocked_rdu, h.ref, h.tsu, h.clamps,
    h.unlock]
  by_cases clamped : 8 ≤ v.nextClamps e
  · simp [clamped, h.integral, h.clamps, h.lock, h.unlock, Nat.not_lt.mpr clamped]
  · by_cases close : e.natAbs ≤ v.rdu.settings.lockWindow <;>
      by_cases unlock : 7 ≤ v.rdu.unlockCount <;>
      simp [clamped, close, unlock, h.integral, h.clamps, h.lock, h.unlock, h.state, state,
        Nat.lt_of_not_le]

theorem Discipline.steps_false {d : Discipline} {e : Int}
    (h : d.stepThreshold = 0 ∨ e.natAbs ≤ d.stepThreshold) : d.steps e = false := by
  rcases h with zero | within
  · simp [Discipline.steps, zero]
  · simp [Discipline.steps, Nat.not_lt.mpr within]

theorem Discipline.steps_true {d : Discipline} {e : Int} (on : d.stepThreshold ≠ 0)
    (beyond : d.stepThreshold < e.natAbs) : d.steps e = true := by simp [Discipline.steps, on, beyond]

/-- Settles O22: the counters of the servo run first, then what they lead to. -/
theorem servoRunOnGoodMark : Obligations.ServoRunOnGoodMark := by
  refine ⟨?_, fun r c l s qualified good candidate => ?_⟩
  · intro r c l s mark
    dsimp only
    intro band
    refine ⟨_, exec_markArrival s c r, (s.markArrival_shifts c r).settle.timescaleMoved, ?_⟩
    rw [State.settleCru_rdu, State.settleCru_ref, State.settleCru_tsu]
    rcases band with ⟨state, inside⟩ | ⟨state, inside⟩
    · obtain ⟨integral, clamps, ref, tsu, failed, moved, counts⟩ :=
        ((s.marked r c).servoLocked_spec r (phaseError s c l)).judged (by simpa using state)
      rw [mark.locked state, State.actLocked_servo _ r (by simpa using inside), integral, clamps, ref, tsu]
      simp only [State.marked_nextIntegral, State.marked_nextClamps, State.marked_servoRate,
        State.marked_settings, State.marked_tsu, State.marked_osc, State.marked_unlockCount,
        State.marked_lockCount] at failed moved counts ⊢
      exact ⟨rfl, rfl, trivial, rfl, failed, fun _ no => absurd (state.symm.trans no) (by decide),
        fun few _ => moved few, fun no => absurd (state.symm.trans no) (by decide),
        fun _ => ⟨trivial, counts⟩⟩
    · obtain ⟨integral, clamps, ref, tsu, failed, moved, counts⟩ :=
        ((s.marked r c).servoAcquiring_spec r (phaseError s c l)).judged (by simpa using state)
      rw [mark.acquiring state, State.actAcquiring_servo _ r
        (Discipline.steps_false (by simpa using inside)), integral, clamps, ref, tsu]
      simp only [State.marked_nextIntegral, State.marked_nextClamps, State.marked_servoRate,
        State.marked_settings, State.marked_tsu, State.marked_osc, State.marked_unlockCount,
        State.marked_lockCount] at failed moved counts ⊢
      exact ⟨rfl, rfl, trivial, rfl, failed, fun few _ => moved few,
        fun _ no => absurd (state.symm.trans no) (by decide), fun _ => ⟨by rw [State.marked_ref], counts⟩,
        fun no => absurd (state.symm.trans no) (by decide)⟩
  · rw [exec_markArrival, exec_markArrival, s.markArrival_candidate qualified good candidate]

/-! ### Rejected and stepping marks (R24, R30 to R32) -/

@[simp] theorem State.rejudge_integral (s : State) : s.rejudge.rdu.integral = s.rdu.integral := by
  cases s.rejudged with
  | first best unselected h =>
    rw [State.rejudge_first unselected h, State.becomesSelected_rdu]
    split <;> rfl
  | nothing unselected h => rw [State.rejudge_nothing unselected h]
  | kept x best selected qualified h => rw [State.rejudge_kept selected qualified h]; rfl
  | replaced x selected lost other => rw [State.rejudge_replaced selected lost other]; rfl
  | lost x selected lost =>
    rw [State.rejudge_lost selected lost, State.noneRemains_rdu]
    split <;> rfl

/-- Out of LOCKED a re-judged selection writes no rate (R34). -/
theorem State.rejudge_tsu (s : State) (h : s.rdu.tsState ≠ .locked) : s.rejudge.tsu = s.tsu := by
  cases s.rejudged with
  | first best unselected h => rw [State.rejudge_first unselected h, State.becomesSelected_tsu]; rfl
  | nothing unselected h => rw [State.rejudge_nothing unselected h]
  | kept x best selected qualified h => rw [State.rejudge_kept selected qualified h]; rfl
  | replaced x selected lost other => rw [State.rejudge_replaced selected lost other]; rfl
  | lost x selected lost =>
    rw [State.rejudge_lost selected lost, State.noneRemains_tsu]
    exact if_neg h

/-- A lock counter of 0 stays at 0. -/
theorem State.rejudge_lockCount (s : State) (h : s.rdu.lockCount = 0) : s.rejudge.rdu.lockCount = 0 := by
  cases s.rejudged with
  | first best unselected h' =>
    rw [State.rejudge_first unselected h', State.becomesSelected_rdu]
    split <;> first | rfl | exact h
  | nothing unselected h' => rw [State.rejudge_nothing unselected h', h]
  | kept x best selected qualified h' => rw [State.rejudge_kept selected qualified h']; exact h
  | replaced x selected lost other => rw [State.rejudge_replaced selected lost other]; exact h
  | lost x selected lost =>
    rw [State.rejudge_lost selected lost, State.noneRemains_rdu]
    split <;> first | rfl | exact h

theorem State.badQualified_integral (s : State) (r : RefId) :
    (s.badQualified r).rdu.integral = s.rdu.integral := by
  rcases Nat.lt_or_ge (s.ref r).badRun 2 with few | third
  · simp [s.badQualified_few few]
  · simp [s.badQualified_third third]

theorem State.badQualified_tsu (s : State) (r : RefId) (h : s.rdu.tsState ≠ .locked) :
    (s.badQualified r).tsu = s.tsu := by
  rcases Nat.lt_or_ge (s.ref r).badRun 2 with few | third
  · simp [s.badQualified_few few]
  · rw [s.badQualified_third third, State.rejudge_tsu _ (by simpa using h)]
    simp

theorem State.badQualified_lockCount (s : State) (r : RefId) (h : s.rdu.lockCount = 0) :
    (s.badQualified r).rdu.lockCount = 0 := by
  rcases Nat.lt_or_ge (s.ref r).badRun 2 with few | third
  · simpa [s.badQualified_few few] using h
  · rw [s.badQualified_third third]
    exact State.rejudge_lockCount _ (by simpa [State.loseRef] using h)

theorem State.stepHall_out {e : Int} (h : s.tsu.stepInRange s.osc e = false) : s.stepHall e = none :=
  if_neg (by simp [h])

theorem State.stepHall_in {e : Int} (h : s.tsu.stepInRange s.osc e = true) : ∃ u, s.stepHall e = some u :=
  ⟨_, if_pos h⟩

theorem State.ref_setRdu_lockCount (s : State) (r : RefId) (n : Nat) :
    (s.setRdu { s.rdu with lockCount := n }).ref r = s.ref r := by cases r <;> rfl

/-- Settles O23: a rejected mark is a bad mark behind a noted outlier or a zeroed lock counter. -/
theorem rejectedAndSteppingMarks : Obligations.RejectedAndSteppingMarks := by
  intro r c l s mark
  dsimp only
  refine ⟨_, exec_markArrival s c r, fun state beyond few => ?_, fun state beyond third => ?_,
    fun state on beyond => ⟨fun fits => ?_, fun out few => ?_, fun out third => ?_⟩⟩ <;>
    rw [State.settleCru_ref, State.settleCru_rdu]
  · rw [mark.locked state, State.actLocked_rejected _ r (by simpa using beyond), State.settleCru_tsu,
      State.badQualified_few _ (by simpa [State.noteOutlier_ref_same] using few)]
    simp [State.noteOutlier, satAdd_eq_min, state]
  · obtain ⟨ref, judged⟩ := State.badQualified_lost (r := r)
      ((s.marked r c).noteOutlier r (phaseError s c l)) (by simpa [State.noteOutlier_ref_same] using third)
    rw [mark.locked state, State.actLocked_rejected _ r (by simpa using beyond), ref,
      State.badQualified_integral]
    refine ⟨rfl, by simp [State.noteOutlier], rfl, (judged.congr ?_ ?_ ?_ ?_ ?_ rfl rfl).settle⟩ <;>
      simp [State.noteOutlier]
  all_goals
    have steps : (s.marked r c).rdu.settings.steps (phaseError s c l) = true :=
      Discipline.steps_true (by simpa using on) (by simpa using beyond)
  · obtain ⟨u, step⟩ := State.stepHall_in (s := s.marked r c) (by simpa using fits)
    rw [mark.acquiring state, State.actAcquiring_step _ r steps step, State.settleCru_tsu]
    have tsu := State.stepHall_tsu _ step
    have rdu := State.stepHall_rdu step
    simp [State.resetBadRun, State.zeroLock, rdu]
    simpa using tsu
  · rw [mark.acquiring state, State.actAcquiring_refused _ r steps
      (State.stepHall_out (by simpa using out)), State.settleCru_tsu, State.refuseStep,
      State.badQualified_tsu _ _ (by simp [state]), State.badQualified_lockCount _ _ rfl,
      State.badQualified_few_ref _ (by rw [State.ref_setRdu_lockCount]; simpa using few),
      State.ref_setRdu_lockCount]
    simp
  · obtain ⟨ref, judged⟩ := State.badQualified_lost (r := r)
      ((s.marked r c).setRdu { (s.marked r c).rdu with lockCount := 0 })
      (by rw [State.ref_setRdu_lockCount]; simpa using third)
    rw [mark.acquiring state, State.actAcquiring_refused _ r steps
      (State.stepHall_out (by simpa using out)), State.settleCru_tsu, State.refuseStep, ref,
      State.badQualified_tsu _ _ (by simp [state]), State.badQualified_lockCount _ _ rfl]
    refine ⟨rfl, by simp, rfl, rfl, (judged.congr ?_ ?_ ?_ ?_ ?_ rfl rfl).settle⟩ <;> simp

end Sys2Proof.Machine
end

section
/-!
PROOFS. Missing marks, the holdover limit and the two requests of the reference discipline (2.5, 2.6).
-/

namespace Sys2Proof.Machine

variable {s t u : State} {r : RefId}

/-! ### A missing mark (R22) -/

/-- The record of a reference whose missing mark is declared (R22). -/
def State.missed (s : State) (r : RefId) : State :=
  s.setRef r { s.ref r with missingDeadline := (s.ref r).missingDeadline.map (· + 1000000000) }

section

variable (s : State) (r : RefId)

@[simp] theorem State.missed_ref : (s.missed r).ref r =
    { s.ref r with missingDeadline := (s.ref r).missingDeadline.map (· + 1000000000) } := by
  simp [State.missed]

@[simp] theorem State.missed_ref_other : (s.missed r).ref (otherRef r) = s.ref (otherRef r) :=
  State.ref_setRef_ne _ _ _ _ (otherRef_ne r)

@[simp] theorem State.missed_tsState : (s.missed r).rdu.tsState = s.rdu.tsState := by simp [State.missed]
@[simp] theorem State.missed_tsu : (s.missed r).tsu = s.tsu := by simp [State.missed]

theorem SelectionJudged.of_missed (h : SelectionJudged (s.missed r) t) : SelectionJudged s t := by
  refine h.congr ?_ ?_ ?_ ?_ ?_ rfl rfl <;> simp [State.missed]

end

theorem State.missingMark_due {d : Nat} (on : (s.ref r).state ≠ .off)
    (deadline : (s.ref r).missingDeadline = some d) (due : d ≤ s.osc) :
    s.missingMark r = (s.missed r).badMark r := by
  refine if_pos ?_
  simp [State.missingDue, deadline, on, due]

theorem exec_missingMark (s : State) (r : RefId) :
    exec (.missingMark r) s = .next (s.missingMark r).settleCru :=
  congrArg Host.Outcome.next (ClockOnly.missingMark s r).endEvent_eq

/-- A selected reference that is lost with no other QUALIFIED one leaves none. -/
theorem State.none_qualified (lost : (s.ref r).state ≠ .qualified)
    (other : (s.ref (otherRef r)).state ≠ .qualified) (x : RefId) : (s.ref x).state ≠ .qualified := by
  rcases RefId.eq_or_other r x with rfl | rfl <;> assumption

/-! ### The holdover limit (R35) -/

theorem State.holdoverExpired_eq {start : Nat} (state : s.rdu.tsState = .holdover)
    (held : s.rdu.holdoverStart = some start) : s.holdoverExpired =
      decide (start + s.rdu.settings.holdoverLimit * 1000000000 ≤ s.osc) := by
  simp [State.holdoverExpired, state, held, second]

theorem State.holdoverExpired_other (state : s.rdu.tsState ≠ .holdover) : s.holdoverExpired = false := by
  unfold State.holdoverExpired
  split
  · next h _ => exact absurd h state
  · rfl

theorem State.expireHoldover_due (h : s.holdoverExpired = true) : s.expireHoldover =
    (s.setRdu { s.rdu with holdoverStart := none }).enterTimescale .free := if_pos h

theorem State.expireHoldover_early (h : s.holdoverExpired = false) : s.expireHoldover = s :=
  if_neg (by simp [h])

theorem State.holdover_of_expired (h : s.holdoverExpired = true) : s.rdu.tsState = .holdover := by
  by_contra other
  rw [State.holdoverExpired_other other] at h
  cases h

theorem State.expireHoldover_rdu (s : State) : s.expireHoldover.rdu =
    if s.holdoverExpired then { s.rdu with tsState := .free, holdoverStart := none } else s.rdu := by
  cases h : s.holdoverExpired
  · rw [State.expireHoldover_early h]; rfl
  · rw [State.expireHoldover_due h]; simp

section

variable (s : State)

theorem State.expireHoldover_tsState :
    s.expireHoldover.rdu.tsState = if s.holdoverExpired then .free else s.rdu.tsState := by
  rw [State.expireHoldover_rdu]; split <;> rfl

theorem State.expireHoldover_settings : s.expireHoldover.rdu.settings = s.rdu.settings := by
  rw [State.expireHoldover_rdu]; split <;> rfl

theorem State.expireHoldover_selected : s.expireHoldover.rdu.selected = s.rdu.selected := by
  rw [State.expireHoldover_rdu]; split <;> rfl

theorem State.expireHoldover_integral : s.expireHoldover.rdu.integral = s.rdu.integral := by
  rw [State.expireHoldover_rdu]; split <;> rfl

theorem State.expireHoldover_counters : (s.expireHoldover.rdu.lockCount,
    s.expireHoldover.rdu.unlockCount, s.expireHoldover.rdu.clampCount) =
      (s.rdu.lockCount, s.rdu.unlockCount, s.rdu.clampCount) := by
  rw [State.expireHoldover_rdu]; split <;> rfl

theorem State.expireHoldover_ref (r : RefId) : s.expireHoldover.ref r = s.ref r := by
  refine State.ref_congr ?_ ?_ r <;> rw [State.expireHoldover_rdu] <;> split <;> rfl

end

theorem State.expireHoldover_shifts (s : State) : Shifts 0 s s.expireHoldover := by
  cases h : s.holdoverExpired
  · rw [State.expireHoldover_early h]
    exact (Steady.refl s).shifts
  · rw [State.expireHoldover_due h]
    refine Steady.enter (.setRdu s) rfl ?_
    simp [State.holdover_of_expired h]

theorem exec_holdoverLimitExpiry (s : State) :
    exec .holdoverLimitExpiry s = .next s.expireHoldover.settleCru :=
  congrArg Host.Outcome.next (ClockOnly.expireHoldover s).endEvent_eq

/-- Settles O25: a missing mark is a bad mark behind a moved deadline, and the holdover limit is one
transition. -/
theorem missingMarksAndHoldoverLimit : Obligations.MissingMarksAndHoldoverLimit := by
  refine ⟨fun r d s on deadline due => ?_, fun start s state held => ?_⟩
  · have marks : MarksKept r (s.missed r) ((s.missed r).badMark r) := State.badMark_marks _ r
    have missed : Steady 0 s (s.missed r) := .setRef s r _
    refine ⟨((s.missed r).badMark r).settleCru, ?_, ?_, ?_, ?_⟩
    · rw [exec_missingMark, State.missingMark_due on deadline due]
    · rw [← State.missingMark_due on deadline due]
      exact (ClockOnly.missingMark s r).trans (.settleCru _)
    · exact ((missed.before (by simp) (State.badMark_shifts _ r)).settle.mono (by omega)).timescaleMoved
    · refine ⟨by simp [marks.missingDeadline, deadline], by simp [marks.previousMark],
        by simp [marks.heldLabel], by simp [marks.other], fun waiting => ?_, fun qualifying => ?_,
        fun qualified few => ?_, fun qualified third => ?_⟩ <;>
        simp only [State.settleCru_ref, State.settleCru_rdu, State.settleCru_tsu]
      · rw [State.badMark_waiting _ (by simpa using waiting)]
        simpa using waiting
      · rw [State.badMark_qualifying _ (by simpa using qualifying)]
        simp
      · rw [State.badMark_qualified _ (by simpa using qualified),
          State.badQualified_few_ref _ (by simpa using few),
          State.badQualified_few _ (by simpa using few)]
        simp [qualified]
      · obtain ⟨ref, judged⟩ := State.badQualified_lost (s.missed r) (r := r) (by simpa using third)
        rw [State.badMark_qualified _ (by simpa using qualified)] at marks ⊢
        have lost (other : (s.ref (otherRef r)).state ≠ .qualified) :
            ∀ x, (((s.missed r).badQualified r).ref x).state ≠ .qualified :=
          State.none_qualified (r := r) (by simp [ref])
            (by rw [marks.other]; simpa using other)
        rw [ref]
        refine ⟨rfl, rfl, judged.of_missed.settle, fun locked selected other => ?_,
          fun acquiring selected other => ?_⟩
        · obtain ⟨-, -, holdover, -⟩ := judged.of_missed.lost r selected (lost other)
          obtain ⟨state, since, -, -, tsu⟩ := holdover locked
          exact ⟨state, since, tsu⟩
        · obtain ⟨-, -, -, free, -⟩ := judged.of_missed.lost r selected (lost other)
          exact free acquiring
  · have moved := s.expireHoldover_shifts.settle.mono (Nat.zero_le 2)
    refine ⟨_, exec_holdoverLimitExpiry s, (ClockOnly.expireHoldover s).trans (.settleCru _),
      s.expireHoldover_tsu, moved.timescaleMoved, fun early => ?_, fun due => ?_⟩
    · rw [State.expireHoldover_early (by rw [State.holdoverExpired_eq state held]; simpa using early)]
      exact ⟨rfl, rfl⟩
    · have expired : s.holdoverExpired = true := by
        rw [State.holdoverExpired_eq state held]; exact decide_eq_true due
      have rdu : s.expireHoldover.settleCru.rdu =
          { s.rdu with tsState := .free, holdoverStart := none } := by
        rw [State.settleCru_rdu, State.expireHoldover_rdu, expired]; rfl
      obtain ⟨sdu, replies⟩ := moved.timescaleMoved.untimed (by rw [rdu, state]; simp)
        (.inl (by rw [rdu]))
      rw [rdu] at replies
      exact ⟨rdu, sdu, replies⟩

/-! ### SET TIMESCALE (R39) -/

/-- The values of a SET TIMESCALE in force before the holdover limit is judged. -/
def State.withTimescale (s : State) (body : List Byte) : State :=
  (s.setRdu { s.rdu with settings := (disciplineOf body).shape }).setTsu
    { s.tsu with uLock := clampRange 0 1000000 (field body 24 4),
                 holdoverBound := clampRange 1 100000 (field body 28 4) }

theorem Discipline.eq_iff (c d : Discipline) : c = d ↔ c.p = d.p ∧ c.q = d.q ∧
    c.stepThreshold = d.stepThreshold ∧ c.lockWindow = d.lockWindow ∧
    c.outlierGate = d.outlierGate ∧ c.holdoverLimit = d.holdoverLimit := by
  cases c; cases d; simp

/-- The eight values a SET TIMESCALE stores, in the order of its body. -/
theorem timescale_stored (body : List Byte) :
    [(disciplineOf body).shape.p, (disciplineOf body).shape.q, (disciplineOf body).shape.stepThreshold,
      (disciplineOf body).shape.lockWindow, (disciplineOf body).shape.outlierGate,
      clampRange 0 1000000 (field body 24 4), clampRange 1 100000 (field body 28 4),
      (disciplineOf body).shape.holdoverLimit] =
    [min 100000 (field body 0 4), min 10000 (field body 4 4), min 1000000000000 (field body 8 8),
      max 1 (min 1000000 (field body 16 4)),
      max (max 1 (min 1000000 (field body 16 4))) (max 1 (min 100000000 (field body 20 4))),
      min 1000000 (field body 24 4), max 1 (min 100000 (field body 28 4)),
      max 60 (min 86400 (field body 32 4))] := by
  have raised (gate lock : Nat) : (if gate < lock then lock else gate) = max lock gate := by
    split <;> omega
  simp (disch := omega) only [Discipline.shape, disciplineOf, clampRange_eq, raised, Nat.zero_max]

/-- Whether a SET TIMESCALE brings a value into its range. -/
def timescaleClamped (body : List Byte) : Bool :=
  decide ((disciplineOf body).shape ≠ disciplineOf body) ||
    decide (clampRange 0 1000000 (field body 24 4) ≠ field body 24 4) ||
    decide (clampRange 1 100000 (field body 28 4) ≠ field body 28 4)

theorem setTimescaleH_eq {body : List Byte} (length : body.length = 36) (v : State) :
    setTimescaleH body v = finish v (v.withTimescale body).expireHoldover
      (clampResult (timescaleClamped body)) State.timescaleBody := by
  rw [setTimescaleH, withLength_of_eq _ length]
  rfl

/-- Whether SET TIMESCALE changed a value, told from the values asked and stored. -/
theorem timescale_clamped (body : List Byte) {stored : List Nat}
    (h : [(disciplineOf body).shape.p, (disciplineOf body).shape.q,
      (disciplineOf body).shape.stepThreshold, (disciplineOf body).shape.lockWindow,
      (disciplineOf body).shape.outlierGate, clampRange 0 1000000 (field body 24 4),
      clampRange 1 100000 (field body 28 4), (disciplineOf body).shape.holdoverLimit] = stored) :
    clampResult (timescaleClamped body) =
      if stored = [field body 0 4, field body 4 4, field body 8 8, field body 16 4, field body 20 4,
        field body 24 4, field body 28 4, field body 32 4] then .done else .doneClamped := by
  have same : stored = [field body 0 4, field body 4 4, field body 8 8, field body 16 4,
      field body 20 4, field body 24 4, field body 28 4, field body 32 4] ↔
      (disciplineOf body).shape = disciplineOf body ∧
        clampRange 0 1000000 (field body 24 4) = field body 24 4 ∧
        clampRange 1 100000 (field body 28 4) = field body 28 4 := by
    rw [← h, Discipline.eq_iff]
    simp only [List.cons.injEq, disciplineOf]
    tauto
  simp only [same, clampResult, timescaleClamped]
  by_cases d : (disciplineOf body).shape = disciplineOf body <;>
    by_cases u : clampRange 0 1000000 (field body 24 4) = field body 24 4 <;> simp [d, u]

/-- Settles O26: the values are in force before the holdover limit is judged. -/
theorem setTimescaleRequest : Obligations.SetTimescaleRequest := by
  intro p tag body s accepts length asked window stored
  have written := timescale_stored body
  have result := timescale_clamped body written
  have answered := State.request_answered accepts 0x13#8 tag (setTimescaleH_eq length _)
  have osc : (s.taken p 0x13#8 tag).osc = s.osc := State.taken_osc _ _ _ _
  have rdu : (s.taken p 0x13#8 tag).rdu = s.rdu := State.taken_rdu _ _ _ _
  have tsu : (s.taken p 0x13#8 tag).tsu = s.tsu := State.taken_tsu _ _ _ _
  generalize s.taken p 0x13#8 tag = v at answered osc rdu tsu
  have clock : ClockOnly v (v.withTimescale body).expireHoldover :=
    ((ClockOnly.setRdu v _).trans (.setTsu _ _)).trans (.expireHoldover _)
  have steady : Steady 0 v (v.withTimescale body) := (Steady.setRdu v).trans (.setTsu _ _)
  rw [clock.endEvent_eq, result] at answered
  refine ⟨_, congrArg Host.Outcome.next answered, ?_, clock.trans (.settleCru _),
    ((steady.before rfl (State.expireHoldover_shifts _)).settle.mono (by omega)).timescaleMoved, ?_⟩ <;>
    simp only [State.settleCru_rdu, State.settleCru_tsu, State.settleCru_ref,
      State.expireHoldover_settings, State.expireHoldover_tsu, State.expireHoldover_selected,
      State.expireHoldover_integral, State.expireHoldover_counters, State.expireHoldover_ref,
      State.expireHoldover_tsState]
  · exact written
  · refine ⟨by rw [← rdu]; rfl, by rw [← rdu]; rfl, fun r => ?_, by rw [← rdu]; rfl, by rw [← tsu]; rfl,
      by rw [← tsu]; rfl, fun other => ?_, fun start state held => ?_⟩
    · exact State.ref_congr (by rw [← rdu]; rfl) (by rw [← rdu]; rfl) r
    · rw [State.holdoverExpired_other (by rw [← rdu] at other; exact other), ← rdu]
      rfl
    · rw [← rdu] at state held
      rw [State.holdoverExpired_eq (s := v.withTimescale body) state held, ← osc]
      simp only [decide_eq_true_eq]
      exact ite_congr rfl (fun _ => rfl) fun _ => state

end Sys2Proof.Machine
end

section
/-!
PROOFS. SET REFERENCE (R38).
-/

namespace Sys2Proof.Machine

variable {s t u : State} {r : RefId}

/-- The references of a SET REFERENCE before the selection is judged (R38). -/
def State.referenceSet (s : State) (r : RefId) (enable : Bool) (priority : Nat) : State :=
  let s1 := if enable then s.enableRef r else s.disableRef r
  s1.setRef r { s1.ref r with priority := clampRange 0 1 priority }

theorem State.setReference_eq (s : State) (r : RefId) (enable : Bool) (priority : Nat) :
    s.setReference r enable priority = (s.referenceSet r enable priority).rejudge := rfl

/-- The record of a reference that is disabled (R38). -/
def Reference.disabled (x : Reference) : Reference :=
  { x with enable := false, state := .off, previousMark := none, heldLabel := none,
           missingDeadline := none, goodRun := 0, badRun := 0, outlierRun := 0, receiver := .hunting }

theorem State.enableRef_off (h : (s.ref r).state = .off) : s.enableRef r =
    s.setRef r { (s.ref r).disabled with enable := true, state := .waiting } := if_pos h

theorem State.enableRef_on (h : (s.ref r).state ≠ .off) : s.enableRef r =
    s.setRef r { s.ref r with enable := true } := if_neg h

theorem State.disableRef_qualified (h : (s.ref r).state = .qualified) : s.disableRef r =
    (s.loseRef r .off).setRef r ((s.loseRef r .off).ref r).disabled := if_pos h

theorem State.disableRef_other (h : (s.ref r).state ≠ .qualified) : s.disableRef r =
    s.setRef r (s.ref r).disabled := if_neg h

theorem State.disableRef_ref (s : State) (r : RefId) : (s.disableRef r).ref r = (s.ref r).disabled := by
  by_cases h : (s.ref r).state = .qualified
  · rw [State.disableRef_qualified h, State.ref_setRef_same, State.loseRef_ref_same]
    rfl
  · rw [State.disableRef_other h, State.ref_setRef_same]

/-- Beyond the record of the reference, what SET REFERENCE leaves before the selection is judged. -/
structure RefSet (r : RefId) (s t : State) : Prop where
  steady : Steady 1 s t
  other : t.ref (otherRef r) = s.ref (otherRef r)
  selected : t.rdu.selected = s.rdu.selected
  settings : t.rdu.settings = s.rdu.settings
  integral : t.rdu.integral = s.rdu.integral
  osc : t.osc = s.osc
  tsu : t.tsu = s.tsu

theorem RefSet.setRef (s : State) (r : RefId) (x : Reference) : RefSet r s (s.setRef r x) :=
  ⟨(Steady.setRef s r x).mono (by omega), State.ref_setRef_ne _ _ _ _ (otherRef_ne r), by simp,
    by simp, by simp, by simp, by simp⟩

theorem RefSet.enableRef (s : State) (r : RefId) : RefSet r s (s.enableRef r) := by
  by_cases h : (s.ref r).state = .off
  · rw [State.enableRef_off h]; exact .setRef s r _
  · rw [State.enableRef_on h]; exact .setRef s r _

theorem RefSet.thenSet (h : RefSet r s t) (x : Reference) : RefSet r s (t.setRef r x) :=
  ⟨h.steady.trans (Steady.setRef t r x), (State.ref_setRef_ne _ _ _ _ (otherRef_ne r)).trans h.other,
    by simp [h.selected], by simp [h.settings], by simp [h.integral], by simp [h.osc], by simp [h.tsu]⟩

theorem RefSet.loseRef (s : State) (r : RefId) (new : RefState) : RefSet r s (s.loseRef r new) :=
  ⟨s.loseRef_steady new, s.loseRef_ref_other new, by simp, by simp [State.loseRef], by simp, by simp,
    by simp⟩

theorem RefSet.disableRef (s : State) (r : RefId) : RefSet r s (s.disableRef r) := by
  by_cases h : (s.ref r).state = .qualified
  · rw [State.disableRef_qualified h]; exact (RefSet.loseRef s r .off).thenSet _
  · rw [State.disableRef_other h]; exact .setRef s r _

theorem RefSet.referenceSet (s : State) (r : RefId) (enable : Bool) (priority : Nat) :
    RefSet r s (s.referenceSet r enable priority) := by
  cases enable
  · exact (RefSet.disableRef s r).thenSet _
  · exact (RefSet.enableRef s r).thenSet _

theorem RefSet.judged (h : RefSet r s t) : SelectionJudged s t.rejudge :=
  .of_rejudge h.selected.symm h.steady.state.symm h.integral.symm h.osc.symm h.tsu.symm

@[simp] theorem State.rejudge_settings (s : State) : s.rejudge.rdu.settings = s.rdu.settings := by
  cases s.rejudged with
  | first best unselected h =>
    rw [State.rejudge_first unselected h, State.becomesSelected_rdu]
    split <;> rfl
  | nothing unselected h => rw [State.rejudge_nothing unselected h]
  | kept x best selected qualified h => rw [State.rejudge_kept selected qualified h]; rfl
  | replaced x selected lost other => rw [State.rejudge_replaced selected lost other]; rfl
  | lost x selected lost =>
    rw [State.rejudge_lost selected lost, State.noneRemains_rdu]
    split <;> rfl

/-- A reference that is not QUALIFIED is not the selected one where the selection has been judged. -/
theorem SelectionJudged.not_selected (h : SelectionJudged s t) (lost : (t.ref r).state ≠ .qualified) :
    t.rdu.selected ≠ some r := by
  have ne {x : RefId} (qualified : (t.ref x).state = .qualified) : some x ≠ some r := by
    rintro same
    cases same
    exact lost qualified
  cases selected : s.rdu.selected with
  | none =>
    cases best : t.bestRef with
    | none => rw [(h.none_best selected (State.bestRef_none_iff.mp best)).1]; simp
    | some x =>
      have isBest := State.bestRef_isBest best
      rw [(h.chosen selected x isBest).1]
      exact ne isBest.qualified
  | some x =>
    by_cases kept : (t.ref x).state = .qualified
    · rw [(h.kept x selected kept).1]; exact ne kept
    · by_cases other : (t.ref (otherRef x)).state = .qualified
      · rw [(h.replaced x selected kept other).1]; exact ne other
      · rw [(h.lost x selected (State.none_qualified kept other)).1]; simp

theorem State.setReference_ref_off (h : (s.ref r).state = .off) (priority : Nat) :
    (s.setReference r true priority).ref r =
      { (s.ref r).disabled with enable := true, state := .waiting, priority := min 1 priority } := by
  rw [State.setReference_eq, State.rejudge_ref]
  simp [State.referenceSet, State.enableRef_off h, clampRange_eq]

theorem State.setReference_ref_on (h : (s.ref r).state ≠ .off) (priority : Nat) :
    (s.setReference r true priority).ref r =
      { s.ref r with enable := true, priority := min 1 priority } := by
  rw [State.setReference_eq, State.rejudge_ref]
  simp [State.referenceSet, State.enableRef_on h, clampRange_eq]

theorem State.setReference_ref_disabled (s : State) (r : RefId) (priority : Nat) :
    (s.setReference r false priority).ref r = { (s.ref r).disabled with priority := min 1 priority } := by
  rw [State.setReference_eq, State.rejudge_ref]
  simp [State.referenceSet, State.disableRef_ref, clampRange_eq]

theorem setReferenceH_eq (r : RefId) (enable : Bool) (priority : Byte) (v : State) :
    setReferenceH (byteOf (RefId.code r) ++ [flagByte enable, priority]) v =
      finish v (v.setReference r enable priority.toNat) (clampResult (decide (1 < priority.toNat)))
        (fun t => t.referenceBody r) := by
  have first : refIdOf (field (byteOf (RefId.code r) ++ [flagByte enable, priority]) 0 1) = some r := by
    cases r <;> rfl
  have second : flagField (byteOf (RefId.code r) ++ [flagByte enable, priority]) 1 = some enable := by
    cases r <;> cases enable <;> rfl
  have third : field (byteOf (RefId.code r) ++ [flagByte enable, priority]) 2 1 = priority.toNat := by
    cases r <;> simp [byteOf, beBytes, field, natOfBytes]
  rw [setReferenceH, withLength_of_eq _ (by simp), first, withField_some, second, withField_some, third]

/-- Settles O27: the records of the references first, then the selection judged on them. -/
theorem setReferenceRequest : Obligations.SetReferenceRequest := by
  intro p tag r enable priority s accepts
  have answered := State.request_answered accepts 0x14#8 tag (setReferenceH_eq r enable priority _)
  have osc : (s.taken p 0x14#8 tag).osc = s.osc := State.taken_osc _ _ _ _
  have rdu : (s.taken p 0x14#8 tag).rdu = s.rdu := State.taken_rdu _ _ _ _
  have tsu : (s.taken p 0x14#8 tag).tsu = s.tsu := State.taken_tsu _ _ _ _
  generalize s.taken p 0x14#8 tag = v at answered osc rdu tsu
  have clock := ClockOnly.setReference (s := v) r enable priority.toNat
  have before := RefSet.referenceSet v r enable priority.toNat
  have refs (x : RefId) : v.ref x = s.ref x := State.ref_congr (by rw [rdu]) (by rw [rdu]) x
  have judged : SelectionJudged s (v.setReference r enable priority.toNat) :=
    before.judged.congr (by rw [rdu]) (by rw [rdu]) (by rw [rdu]) osc.symm tsu.symm rfl rfl
  have result : clampResult (decide (1 < priority.toNat)) =
      if priority.toNat ≤ 1 then .done else .doneClamped := by
    by_cases h : priority.toNat ≤ 1 <;> simp [clampResult, h]
  rw [clock.endEvent_eq, result] at answered
  refine ⟨_, congrArg Host.Outcome.next answered, clock.trans (.settleCru _),
    ((before.steady.then (by rw [before.tsu]) (State.rejudge_shifts _)).settle.mono (by omega)).timescaleMoved,
    judged.settle, ?_⟩
  simp only [State.settleCru_rdu, State.settleCru_tsu, State.settleCru_ref]
  refine ⟨?_, ?_, ?_, ?_, ?_, ?_⟩
  · rw [State.setReference_eq, State.rejudge_ref, before.other, refs]
  · rw [State.setReference_eq, State.rejudge_settings, before.settings, rdu]
  · rw [State.setReference_eq, State.rejudge_integral, before.integral, rdu]
  · cases enable
    · rw [State.setReference_ref_disabled]; rfl
    · by_cases off : (v.ref r).state = .off
      · rw [State.setReference_ref_off off]
      · rw [State.setReference_ref_on off]
  · cases enable
    · rw [State.setReference_ref_disabled]
    · by_cases off : (v.ref r).state = .off
      · rw [State.setReference_ref_off off]
      · rw [State.setReference_ref_on off]
  · rw [← refs r]
    refine ⟨?_, ?_, ?_⟩
    · rintro rfl off
      rw [State.setReference_ref_off off]
      exact ⟨rfl, rfl, rfl⟩
    · rintro rfl on
      exact State.setReference_ref_on on _
    · rintro rfl
      have same := v.setReference_ref_disabled r priority.toNat
      have lost : ((v.setReference r false priority.toNat).ref r).state ≠ .qualified := by
        rw [same]; exact RefState.noConfusion
      have other : (v.setReference r false priority.toNat).ref (otherRef r) = s.ref (otherRef r) := by
        rw [State.setReference_eq, State.rejudge_ref, before.other, refs]
      refine ⟨by rw [same]; rfl, by rw [same]; rfl, by rw [same]; rfl, by rw [same]; rfl,
        by rw [same]; rfl, by rw [same]; rfl, judged.not_selected lost, fun selected kept => ?_,
        fun selected gone => ?_⟩
      · obtain ⟨moved, -, state⟩ := judged.replaced r selected lost (by rw [other]; exact kept)
        exact ⟨moved, state⟩
      · obtain ⟨none, -, holdover, free, -⟩ := judged.lost r selected
          (State.none_qualified lost (by rw [other]; exact gone))
        refine ⟨none, fun locked => ?_, fun acquiring => ?_⟩
        · obtain ⟨state, since, -, -, tsu⟩ := holdover locked
          exact ⟨state, since, tsu⟩
        · obtain ⟨state, tsu, -, counters⟩ := free acquiring
          exact ⟨state, tsu, counters⟩

end Sys2Proof.Machine
end

section
/-!
PROOFS. The drift watch (chapter 7): SET DRIFT LIMITS, the counting of evaluations, and the conditions of
a level.
-/

namespace Sys2Proof.Machine

variable {s t u : State} {l : Link}

/-! ### SET DRIFT LIMITS (R125, R126) -/

theorem linkOf_val (l : Link) : linkOf l.val = some l := dif_pos l.isLt

theorem Limits.bytes_length (x : Limits) : x.bytes.length = 26 := by simp [Limits.bytes]

/-- The limits a SET DRIFT LIMITS carries behind its link and its write flag (12). -/
theorem limitsOf_bytes {x : Limits} (fits : x.fitsFields) {head : List Byte} (two : head.length = 2) :
    limitsOf (head ++ x.bytes) = x := by
  obtain ⟨ow, oa, dw, da, tw, ta, k, m⟩ := fits
  have fields : field (head ++ x.bytes) 2 4 = x.offsetWatch ∧ field (head ++ x.bytes) 6 4 = x.offsetAlarm ∧
      field (head ++ x.bytes) 10 4 = x.driftWatch ∧ field (head ++ x.bytes) 14 4 = x.driftAlarm ∧
      field (head ++ x.bytes) 18 4 = x.totalWatch ∧ field (head ++ x.bytes) 22 4 = x.totalAlarm ∧
      field (head ++ x.bytes) 26 1 = x.k ∧ field (head ++ x.bytes) 27 1 = x.m := by
    simp only [Limits.bytes, List.append_assoc]
    refine ⟨?_, ?_, ?_, ?_, ?_, ?_, ?_, ?_⟩
    all_goals simp (disch := simp [two]) only [field_append, field_zero_append, field_all,
      beBytes_length, byteOf_length, two, Nat.reduceSub]
    · exact natOfBytes_beBytes 4 _ (by simpa using ow)
    · exact natOfBytes_beBytes 4 _ (by simpa using oa)
    · exact natOfBytes_beBytes 4 _ (by simpa using dw)
    · exact natOfBytes_beBytes 4 _ (by simpa using da)
    · exact natOfBytes_beBytes 4 _ (by simpa using tw)
    · exact natOfBytes_beBytes 4 _ (by simpa using ta)
    · exact natOfBytes_byteOf k
    · exact natOfBytes_byteOf m
  obtain ⟨f2, f6, f10, f14, f18, f22, f26, f27⟩ := fields
  simp [limitsOf, f2, f6, f10, f14, f18, f22, f26, f27]

theorem Limits.shape_eq (x : Limits) : x.shape =
    { offsetWatch := max 1 (min 1000000000 x.offsetWatch)
      offsetAlarm := max (max 1 (min 1000000000 x.offsetWatch)) (max 1 (min 1000000000 x.offsetAlarm))
      driftWatch := max 1 (min 1000000000 x.driftWatch)
      driftAlarm := max (max 1 (min 1000000000 x.driftWatch)) (max 1 (min 1000000000 x.driftAlarm))
      totalWatch := max 1 (min 1000000000 x.totalWatch)
      totalAlarm := max (max 1 (min 1000000000 x.totalWatch)) (max 1 (min 1000000000 x.totalAlarm))
      k := max 1 (min 64 x.k), m := max 1 (min 64 x.m) } := by
  simp (disch := omega) only [Limits.shape, clampRange_eq]

theorem clampResult_ne {α : Type} [DecidableEq α] (x y : α) :
    clampResult (decide (x ≠ y)) = if x = y then .done else .doneClamped := by
  by_cases h : x = y <;> simp [clampResult, h]

/-- Limits written to a link of the part (R126). -/
def State.writeLimits (s : State) (l : Link) (x : Limits) : State :=
  s.setDrift l ((s.driftOf l).writeLimits x)

/-- Limits written to all forty links (R126). -/
def State.writeAllLimits (s : State) (x : Limits) : State := forLinks (fun l st => st.writeLimits l x) s

theorem State.writeLimits_only (s : State) (l : Link) (x : Limits) : OnlyLink l s (s.writeLimits l x) :=
  .setDrift l s _

theorem State.writeAllLimits_rest (s : State) (x : Limits) : SameCore s (s.writeAllLimits x) ∧
    (s.writeAllLimits x).cru = s.cru ∧ (s.writeAllLimits x).links = s.links ∧
    (s.writeAllLimits x).entries = s.entries := by
  refine forLinks_keeps (P := fun st => SameCore s st ∧ st.cru = s.cru ∧ st.links = s.links ∧
    st.entries = s.entries) (fun l st ⟨core, cru, links, entries⟩ => ?_) s ⟨.refl s, rfl, rfl, rfl⟩
  refine ⟨core.trans (st.writeLimits_only l x).core, ?_, ?_, ?_⟩ <;>
    simpa only [State.writeLimits, State.setDrift_cru, State.setDrift_links, State.setDrift_entries]

theorem State.writeAllLimits_drift (s : State) (x : Limits) (l : Link) :
    (s.writeAllLimits x).driftOf l = (s.driftOf l).writeLimits x := by
  obtain ⟨st, -, before, after⟩ := forLinks_at
    (f := fun l st => st.writeLimits l x) (fun m st => st.writeLimits_only m x) s l
  rw [State.writeAllLimits, after.drift, State.writeLimits, State.driftOf_setDrift_same, before.drift]

/-- What a SET DRIFT LIMITS with its fields read does, by its selector and its write flag. -/
def driftLimitsAnswer (x : Limits) (sel : Option Link) (write : Bool) : Handler := fun v =>
  match sel, write with
  | some l, false => answer v .done (v.driftBody l)
  | none, false => bare v .malformed
  | some l, true => answer (v.writeLimits l x.shape) (clampResult (decide (x.shape ≠ x)))
      ((v.writeLimits l x.shape).driftBody l)
  | none, true => answer (v.writeAllLimits x.shape) (clampResult (decide (x.shape ≠ x)))
      (x.shape.bytes ++ byteOf (40 - v.heldPending) ++ byteOf v.heldPending)

theorem setDriftLimitsH_eq {x : Limits} (fits : x.fitsFields) {selector flag : List Byte}
    (one : selector.length = 1) (one' : flag.length = 1) {sel : Option Link} {write : Bool}
    (named : driftSelectorOf (natOfBytes selector) = some sel)
    (told : flagOf (natOfBytes flag) = some write) (v : State) :
    setDriftLimitsH (selector ++ flag ++ x.bytes) v = driftLimitsAnswer x sel write v := by
  have first : field (selector ++ flag ++ x.bytes) 0 1 = natOfBytes selector := by
    rw [List.append_assoc, field_zero_append _ _ _ one]
  have second : field (selector ++ flag ++ x.bytes) 1 1 = natOfBytes flag := by
    rw [List.append_assoc, field_append _ _ _ _ (by rw [one]), one, field_zero_append _ _ _ one']
  rw [setDriftLimitsH, withLength_of_eq _ (by simp [one, one', Limits.bytes_length]), first, named,
    withField_some, flagField, second, told, withField_some, limitsOf_bytes fits (by simp [one, one'])]
  rfl

/-- Settles O43. -/
theorem setDriftLimitsRequest : Obligations.SetDriftLimitsRequest := by
  intro p tag x s accepts fits th shaped held
  have shape : x.shape = shaped := x.shape_eq
  have link (l : Link) : driftSelectorOf (natOfBytes (byteOf l.val)) = some (some l) := by
    rw [natOfBytes_byteOf (by omega), driftSelectorOf, if_neg (by omega), linkOf_val]; rfl
  have body (l : Link) : (s.taken p 0x37#8 tag).driftBody l = s.driftBody l := by
    simp [State.driftBody]
  have shown : (s.taken p 0x37#8 tag).heldPending = held := by
    simp only [State.heldPending, State.taken_driftOf, held]
  have answers {selector flag : List Byte} (one : selector.length = 1)
      (one' : flag.length = 1) {sel : Option Link} {write : Bool}
      (named : driftSelectorOf (natOfBytes selector) = some sel)
      (told : flagOf (natOfBytes flag) = some write) {t : State} {res : Result} {bytes : List Byte}
      (result : driftLimitsAnswer x sel write (s.taken p 0x37#8 tag) = (t, some (res, bytes))) :
      exec (.setDriftLimits p tag (selector ++ flag ++ x.bytes)) s =
        .next (t.replied p 0x37#8 tag res bytes) :=
    congrArg Host.Outcome.next (State.request_answered accepts _ _
      ((setDriftLimitsH_eq fits one one' named told _).trans result))
  obtain ⟨core, cru, links, entries⟩ := (s.taken p 0x37#8 tag).writeAllLimits_rest x.shape
  refine ⟨fun l => ⟨?_, (s.taken p 0x37#8 tag).writeLimits l shaped, ?_, ?_⟩, ?_,
    (s.taken p 0x37#8 tag).writeAllLimits shaped, ?_, ?_, ?_, ?_, ?_, fun l => ?_⟩
  · exact answers (byteOf_length _) rfl (link l) (write := false) rfl (by rw [← body]; rfl)
  · refine answers (byteOf_length _) rfl (link l) (write := true) rfl ?_
    rw [← shape, ← clampResult_ne]
    rfl
  · simp only [State.writeLimits, State.taken_driftOf, DriftRecord.writeLimits]
  · exact answers (selector := [255#8]) (flag := [0#8]) rfl rfl (sel := none) (write := false) rfl rfl rfl
  · refine answers (selector := [255#8]) (flag := [1#8]) rfl rfl (sel := none) (write := true) rfl rfl ?_
    rw [← shape, ← clampResult_ne, ← shown]
    rfl
  · rw [← shape]; exact core
  · rw [← shape, cru, State.taken_cru]
  · rw [← shape, links, State.taken_links]
  · rw [← shape, entries, State.taken_entries]
  · rw [State.writeAllLimits_drift, State.taken_driftOf]
    rfl

end Sys2Proof.Machine
end

section
/-!
PROOFS. Drift levels (R116 to R124): how evaluations are counted over a run, and what a change of level
and a reset do to the conditions.
-/

namespace Sys2Proof.Machine

variable {s t u : State} {l : Link}

/-! ### Levels of an evaluation (R116, R118) -/

theorem meetsAny_half {o d e x y z : Nat} (h : meetsAny o d e x y z = true) :
    meetsAny o d e (x / 2) (y / 2) (z / 2) = true := by
  simp only [meetsAny, Bool.or_eq_true, decide_eq_true_eq] at h ⊢
  omega

/-- The clear level lies at or above the evaluation level, as its thresholds are the halves. -/
theorem Limits.evalLevel_le_clearLevel (x : Limits) (o d e : Nat) :
    (x.evalLevel o d e).code ≤ (x.clearLevel o d e).code := by
  unfold Limits.evalLevel Limits.clearLevel
  split
  · next alarm => rw [if_pos (meetsAny_half alarm)]
  · split
    · next watch =>
      split
      · decide
      · rw [if_pos (meetsAny_half watch)]
    · exact Nat.zero_le _

/-- Drift thresholds above 200,000 leave no part to the drift of an estimate. -/
theorem Limits.evalLevel_drift {x : Limits} {d : Nat} (o e : Nat) (held : d ≤ 200000)
    (watch : 200000 < x.driftWatch) (alarm : 200000 < x.driftAlarm) :
    x.evalLevel o d e = x.evalLevel o 0 e := by
  have below {th : Nat} (h : 200000 < th) (a b : Nat) : meetsAny o d e a th b = meetsAny o 0 e a th b := by
    simp only [meetsAny, decide_eq_false (show ¬ th ≤ d by omega), decide_eq_false (show ¬ th ≤ 0 by omega)]
  simp only [Limits.evalLevel, below watch, below alarm]

/-! ### Runs of evaluations (R119, R120) -/

theorem DriftLevel.lower_cases (x y : DriftLevel) : x.lower y = x ∨ x.lower y = y := by
  unfold DriftLevel.lower; split <;> simp

theorem DriftLevel.lower_le (x y : DriftLevel) :
    (x.lower y).code ≤ x.code ∧ (x.lower y).code ≤ y.code := by
  unfold DriftLevel.lower; split <;> omega

/-- The lowest evaluation level an evaluation above the level in force leaves (R119). -/
def DriftRecord.lowest (d : DriftRecord) (ev : DriftLevel) : DriftLevel :=
  match d.raiseMin with
  | some m => m.lower ev
  | none => ev

theorem DriftRecord.judge_counts {d : DriftRecord} {ev : DriftLevel} (cl : DriftLevel)
    (above : d.level.code < ev.code) (few : d.raiseCount + 1 < d.limits.k) : d.judge ev cl =
      ⟨{ d with raiseCount := d.raiseCount + 1, raiseMin := some (d.lowest ev), fallCount := 0 }, none⟩ := by
  simp only [DriftRecord.judge, if_pos above, if_neg (Nat.not_le.mpr few)]
  rfl

theorem DriftRecord.judge_rises {d : DriftRecord} {ev : DriftLevel} (cl : DriftLevel)
    (above : d.level.code < ev.code) (reached : d.limits.k ≤ d.raiseCount + 1) : d.judge ev cl =
      ⟨{ d with level := d.lowest ev, raiseCount := 0, raiseMin := none, fallCount := 0 },
        some (d.raiseCount + 1)⟩ := by
  simp only [DriftRecord.judge, if_pos above, if_pos reached]
  rfl

theorem DriftRecord.judge_counts_down {d : DriftRecord} {ev cl : DriftLevel}
    (not_above : ev.code ≤ d.level.code) (below : cl.code < d.level.code)
    (few : d.fallCount + 1 < d.limits.m) : d.judge ev cl =
      ⟨{ d with raiseCount := 0, raiseMin := none, fallCount := d.fallCount + 1 }, none⟩ := by
  simp only [DriftRecord.judge, if_neg (Nat.not_lt.mpr not_above), if_pos below,
    if_neg (Nat.not_le.mpr few)]

theorem DriftRecord.judge_falls {d : DriftRecord} {ev cl : DriftLevel}
    (not_above : ev.code ≤ d.level.code) (below : cl.code < d.level.code)
    (reached : d.limits.m ≤ d.fallCount + 1) : d.judge ev cl =
      ⟨{ d with level := cl, raiseCount := 0, raiseMin := none, fallCount := 0 },
        some (d.fallCount + 1)⟩ := by
  simp only [DriftRecord.judge, if_neg (Nat.not_lt.mpr not_above), if_pos below, if_pos reached]

theorem DriftRecord.judgeRun_snoc (d : DriftRecord) (run : List (DriftLevel × DriftLevel))
    (v : DriftLevel × DriftLevel) :
    d.judgeRun (run ++ [v]) = ((d.judgeRun run).judge v.1 v.2).record := by
  simp [DriftRecord.judgeRun]

/-- A lowest level of a run of evaluations: one of theirs, and none lies below it. -/
structure LowestOf (m : Option DriftLevel) (run : List (DriftLevel × DriftLevel)) : Prop where
  none : run = [] → m = none
  some : run ≠ [] → ∃ x, m = some x ∧ (∃ v ∈ run, x = v.1) ∧ ∀ v ∈ run, x.code ≤ v.1.code

/-- The lowest level of a run taken one evaluation further. -/
theorem LowestOf.snoc {d : DriftRecord} {run : List (DriftLevel × DriftLevel)}
    (h : LowestOf d.raiseMin run) (v : DriftLevel × DriftLevel) :
    (∃ x ∈ run ++ [v], d.lowest v.1 = x.1) ∧ ∀ x ∈ run ++ [v], (d.lowest v.1).code ≤ x.1.code := by
  by_cases start : run = []
  · subst start
    simp [DriftRecord.lowest, h.none rfl]
  · obtain ⟨m, held, ⟨w, mem, rfl⟩, least⟩ := h.some start
    have le := DriftLevel.lower_le w.1 v.1
    simp only [DriftRecord.lowest, held]
    refine ⟨?_, fun x hx => ?_⟩
    · rcases DriftLevel.lower_cases w.1 v.1 with same | same
      · exact ⟨w, List.mem_append_left _ mem, same⟩
      · exact ⟨v, List.mem_append_right _ (.head _), same⟩
    · rcases List.mem_append.mp hx with old | new
      · exact le.1.trans (least x old)
      · cases List.mem_singleton.mp new
        exact le.2

/-- A run of evaluations above the level in force, shorter than K, is counted (R119). -/
theorem DriftRecord.judgeRun_counts {d : DriftRecord} (count : d.raiseCount = 0) (lowest : d.raiseMin = none)
    {run : List (DriftLevel × DriftLevel)} (above : ∀ v ∈ run, d.level.code < v.1.code)
    (few : run.length < d.limits.k) :
    (d.judgeRun run).level = d.level ∧ (d.judgeRun run).limits = d.limits ∧
      (d.judgeRun run).raiseCount = run.length ∧ LowestOf (d.judgeRun run).raiseMin run := by
  induction run using List.reverseRecOn with
  | nil => exact ⟨rfl, rfl, count, fun _ => lowest, fun ne => absurd rfl ne⟩
  | append_singleton run v ih =>
    rw [List.length_append, List.length_singleton] at few
    obtain ⟨level, limits, counted, held⟩ := ih (fun x hx => above x (List.mem_append_left _ hx)) (by omega)
    have higher : (d.judgeRun run).level.code < v.1.code := level ▸ above v (List.mem_append_right _ (.head _))
    rw [DriftRecord.judgeRun_snoc, DriftRecord.judge_counts v.2 higher (by rw [counted, limits]; exact few)]
    exact ⟨level, limits, by simp [counted], fun nil => by simp at nil, fun _ => ⟨_, rfl, held.snoc v⟩⟩

/-- The K-th evaluation of such a run takes the level to the lowest of the run (R119). -/
theorem DriftRecord.judgeRun_rises {d : DriftRecord} (count : d.raiseCount = 0) (lowest : d.raiseMin = none)
    {run : List (DriftLevel × DriftLevel)} (above : ∀ v ∈ run, d.level.code < v.1.code)
    (positive : 1 ≤ d.limits.k) (reached : run.length = d.limits.k) :
    (d.judgeRun run).raiseCount = 0 ∧ (d.judgeRun run).raiseMin = none ∧
      (∃ v ∈ run, (d.judgeRun run).level = v.1) ∧ ∀ v ∈ run, (d.judgeRun run).level.code ≤ v.1.code := by
  rcases List.eq_nil_or_concat run with rfl | ⟨init, v, rfl⟩
  · rw [← reached] at positive; cases positive
  · rw [List.concat_eq_append] at above reached ⊢
    rw [List.length_append, List.length_singleton] at reached
    obtain ⟨level, limits, counted, held⟩ := DriftRecord.judgeRun_counts count lowest
      (fun x hx => above x (List.mem_append_left _ hx)) (by omega)
    have higher : (d.judgeRun init).level.code < v.1.code := level ▸ above v (List.mem_append_right _ (.head _))
    rw [DriftRecord.judgeRun_snoc, DriftRecord.judge_rises v.2 higher (by rw [counted, limits]; omega)]
    exact ⟨rfl, rfl, (held.snoc v).1, (held.snoc v).2⟩

/-- A run of evaluations whose clear levels lie below the level in force, shorter than M, is counted
(R120). -/
theorem DriftRecord.judgeRun_counts_down {d : DriftRecord} (count : d.fallCount = 0)
    {run : List (DriftLevel × DriftLevel)}
    (below : ∀ v ∈ run, v.2.code < d.level.code ∧ v.1.code ≤ v.2.code) (few : run.length < d.limits.m) :
    (d.judgeRun run).level = d.level ∧ (d.judgeRun run).limits = d.limits ∧
      (d.judgeRun run).fallCount = run.length := by
  induction run using List.reverseRecOn with
  | nil => exact ⟨rfl, rfl, count⟩
  | append_singleton run v ih =>
    rw [List.length_append, List.length_singleton] at few
    obtain ⟨level, limits, counted⟩ := ih (fun x hx => below x (List.mem_append_left _ hx)) (by omega)
    obtain ⟨lower, order⟩ := below v (List.mem_append_right _ (.head _))
    rw [DriftRecord.judgeRun_snoc, DriftRecord.judge_counts_down (by rw [level]; omega) (by rwa [level])
      (by rw [counted, limits]; exact few)]
    exact ⟨level, limits, by simp [counted]⟩

/-- The M-th evaluation of such a run takes the level to its clear level (R120). -/
theorem DriftRecord.judgeRun_falls {d : DriftRecord} (count : d.fallCount = 0)
    {run : List (DriftLevel × DriftLevel)}
    (below : ∀ v ∈ run, v.2.code < d.level.code ∧ v.1.code ≤ v.2.code) {v : DriftLevel × DriftLevel}
    (reached : run.length = d.limits.m) (last : run.getLast? = some v) :
    (d.judgeRun run).level = v.2 ∧ (d.judgeRun run).fallCount = 0 := by
  rcases List.eq_nil_or_concat run with rfl | ⟨init, w, rfl⟩
  · cases last
  · rw [List.concat_eq_append] at below reached last ⊢
    rw [List.getLast?_append, List.getLast?_singleton] at last
    cases last
    rw [List.length_append, List.length_singleton] at reached
    obtain ⟨level, limits, counted⟩ := DriftRecord.judgeRun_counts_down count
      (fun x hx => below x (List.mem_append_left _ hx)) (by omega)
    obtain ⟨lower, order⟩ := below v (List.mem_append_right _ (.head _))
    rw [DriftRecord.judgeRun_snoc, DriftRecord.judge_falls (by rw [level]; omega) (by rwa [level])
      (by rw [counted, limits]; omega)]
    exact ⟨rfl, rfl⟩

/-! ### The conditions of an evaluation (R121) -/

theorem DriftRecord.judge_moved_none {d : DriftRecord} {ev cl : DriftLevel} (h : (d.judge ev cl).moved = none) :
    (d.judge ev cl).record.level = d.level := by
  unfold DriftRecord.judge at h ⊢
  dsimp only at h ⊢
  split_ifs at h ⊢ <;> rfl

theorem DriftRecord.applyLimits_level (d : DriftRecord) : d.applyLimits.level = d.level := by
  unfold DriftRecord.applyLimits; split <;> rfl

/-- An evaluation that changes the level tells the counter that moved it. -/
theorem DriftRecord.evaluate_moved {d : DriftRecord} {e : Estimate} {total : Int}
    (change : (d.evaluate e total).record.level ≠ d.level) : ∃ n, (d.evaluate e total).moved = some n := by
  cases moved : (d.evaluate e total).moved with
  | some n => exact ⟨n, rfl⟩
  | none => exact absurd ((DriftRecord.judge_moved_none moved).trans d.applyLimits_level) change

theorem State.evaluate_still {e : Estimate} {total : Int} (h : ((s.driftOf l).evaluate e total).moved = none) :
    s.evaluate l e total = s.setDrift l ((s.driftOf l).evaluate e total).record := by
  simp only [State.evaluate, h]

theorem State.evaluate_change {e : Estimate} {total : Int} {n : Nat}
    (h : ((s.driftOf l).evaluate e total).moved = some n) : s.evaluate l e total =
      (s.setDrift l ((s.driftOf l).evaluate e total).record).reportLevel l (s.driftOf l).level
        ((s.driftOf l).evaluate e total).record.level e total n := by
  simp only [State.evaluate, h]

/-- The condition of the level left, cleared (R121). -/
def State.clearLevelCond (s : State) (l : Link) (old : DriftLevel) : State :=
  if old = .normal then s else s.clearCond old.kind (.link l)

theorem State.reportLevel_eq (s : State) (l : Link) (old new : DriftLevel) (e : Estimate) (total : Int)
    (n : Nat) : s.reportLevel l old new e total n = (s.clearLevelCond l old).raise new.kind (.link l)
      { offset := some e.theta, drift := some e.rho, trimTotal := some total,
        oldState := some old.code, newState := some new.code, count := some n } := rfl

theorem DriftLevel.kind_injective {x y : DriftLevel} (h : x.kind = y.kind) : x = y := by
  cases x <;> cases y <;> first | rfl | cases h

theorem Cru.isActive_activate_self (c : Cru) {k : CondKind} (state : k.isState = true) (sc : Scope) :
    (c.activate k sc).isActive k sc = true := by
  unfold Cru.activate
  split
  · simp [Cru.isActive]
  · next kept => simpa [state] using kept

theorem DriftLevel.kind_isState (x : DriftLevel) : x.kind.isState = decide (x ≠ .normal) := by
  cases x <;> decide

section

variable (s : State) (l : Link) (old : DriftLevel)

theorem State.clearLevelCond_switches : s.cru.SameSwitches (s.clearLevelCond l old).cru := by
  unfold State.clearLevelCond
  split
  · exact .refl _
  · exact Cru.clear_switches _ _ _

theorem State.clearLevelCond_length : (s.clearLevelCond l old).cru.list.length ≤ s.cru.list.length := by
  unfold State.clearLevelCond
  split
  · exact le_refl _
  · exact Cru.clear_length _ _ _

theorem State.clearLevelCond_driftOf (m : Link) : (s.clearLevelCond l old).driftOf m = s.driftOf m := by
  unfold State.clearLevelCond; split <;> rfl

end

theorem State.reportLevel_driftOf (s : State) (l m : Link) (old new : DriftLevel) (e : Estimate)
    (total : Int) (n : Nat) : (s.reportLevel l old new e total n).driftOf m = s.driftOf m := by
  rw [State.reportLevel_eq, State.raise_driftOf, State.clearLevelCond_driftOf]

/-- The condition of the level left is no longer active (R121). -/
theorem State.reportLevel_leaves (s : State) (l : Link) {old new : DriftLevel} (change : new ≠ old)
    (left : old ≠ .normal) (e : Estimate) (total : Int) (n : Nat) :
    (s.reportLevel l old new e total n).cru.isActive old.kind (.link l) = false := by
  have cleared : (s.clearLevelCond l old).cru.isActive old.kind (.link l) = false := by
    rw [State.clearLevelCond, if_neg left]
    exact Cru.isActive_clear_self _ _ _
  rw [State.reportLevel_eq, State.raise, State.raiseWith_isActive]
  split
  · rw [Cru.isActive_activate_kind fun same => change (DriftLevel.kind_injective same.symm), cleared]
  · exact cleared

/-- The condition of the level entered is active, but for NORMAL, which has none (R121). -/
theorem State.reportLevel_enters (s : State) (l : Link) (old : DriftLevel) {new : DriftLevel}
    (entered : new ≠ .normal) (recorded : s.cru.records? new.kind = true) (e : Estimate) (total : Int)
    (n : Nat) : (s.reportLevel l old new e total n).cru.isActive new.kind (.link l) = true := by
  rw [State.reportLevel_eq, State.raise, State.raiseWith_isActive,
    if_pos (by rw [(s.clearLevelCond_switches l old).records, recorded])]
  exact Cru.isActive_activate_self _ (by rw [DriftLevel.kind_isState]; exact decide_eq_true entered) _

/-- A change of level posts the condition of the level entered with the values evaluated (R121). -/
theorem State.reportLevel_posts (s : State) (l : Link) (old : DriftLevel) {new : DriftLevel}
    (recorded : s.cru.records? new.kind = true)
    (wanted : (s.cru.wants .a new.kind || s.cru.wants .b new.kind) = true)
    (room : s.cru.list.length < 64) (e : Estimate) (total : Int) (n : Nat) :
    ∃ r ∈ (s.reportLevel l old new e total n).cru.list, r.kind = new.kind ∧ r.scope = .link l ∧
      r.active = decide (new ≠ .normal) ∧
      r.details = { offset := some e.theta, drift := some e.rho, trimTotal := some total,
                    oldState := some old.code, newState := some new.code, count := some n } := by
  have switches := s.clearLevelCond_switches l old
  rw [State.reportLevel_eq, State.raise]
  obtain ⟨r, mem, shows⟩ := State.raiseWith_shows (s := s.clearLevelCond l old)
    ((s.clearLevelCond_length l old).trans_lt room) (by rwa [switches.records])
    (by rwa [switches.wants, switches.wants]) (.link l) _ false
  exact ⟨r, mem, shows.kind, shows.scope, shows.active.trans new.kind_isState, shows.details⟩

/-! ### The reset of a record (R124) -/

theorem DriftRecord.reset_eq (d : DriftRecord) : d.reset =
    { d with level := .normal, raiseCount := 0, raiseMin := none, fallCount := 0, lastEval := none,
             limits := d.pendingLimits.getD d.limits, pendingLimits := none } := by
  unfold DriftRecord.reset DriftRecord.applyLimits
  split
  · next x pending => simp [pending]
  · next none => simp [none]

/-- A clear adds no record, and changes those of its own kind alone. -/
theorem Cru.mem_of_mem_clear {c : Cru} {k : CondKind} {sc : Scope} {r : CondRecord}
    (mem : r ∈ (c.clear k sc).list) (other : r.kind ≠ k) : r ∈ c.list := by
  unfold Cru.clear at mem
  split at mem
  · obtain ⟨x, hx, kept⟩ := List.mem_filterMap.mp mem
    have same : ¬ (x.kind = k ∧ x.scope = sc) := fun h => other ((Cru.clearIn_some kept).1.trans h.1)
    rw [Cru.clearIn, if_neg same] at kept
    cases kept
    exact hx
  · exact mem

/-- Settles O44: the counters by induction over the run, the conditions through one report of a
change. -/
theorem driftLevelMoves : Obligations.DriftLevelMoves := by
  refine ⟨fun x o d e => ⟨x.evalLevel_le_clearLevel o d e, fun held watch alarm =>
      Limits.evalLevel_drift o e held watch alarm⟩, fun d run count lowest positive above => ⟨fun few => ?_,
      DriftRecord.judgeRun_rises count lowest above positive⟩, fun d run count positive below =>
      ⟨fun few => ?_, fun v => DriftRecord.judgeRun_falls count below⟩, fun l e total s => ?_, fun l s => ?_⟩
  · obtain ⟨level, -, counted, -⟩ := DriftRecord.judgeRun_counts count lowest above few
    exact ⟨level, counted⟩
  · obtain ⟨level, -, counted⟩ := DriftRecord.judgeRun_counts_down count below few
    exact ⟨level, counted⟩
  · dsimp only
    cases moved : ((s.driftOf l).evaluate e total).moved with
    | none =>
      rw [State.evaluate_still moved]
      refine ⟨by simp, fun _ => rfl, fun change => ?_⟩
      obtain ⟨n, some⟩ := DriftRecord.evaluate_moved change
      rw [moved] at some
      cases some
    | some n =>
      rw [State.evaluate_change moved]
      generalize ((s.driftOf l).evaluate e total).record = d
      refine ⟨by rw [State.reportLevel_driftOf, State.driftOf_setDrift_same], nofun, fun change =>
        ⟨fun left => State.reportLevel_leaves (s.setDrift l d) l change left e total n,
          fun entered recorded => State.reportLevel_enters (s.setDrift l d) l _ entered recorded e total n,
          n, rfl, fun recorded wanted room =>
            State.reportLevel_posts (s.setDrift l d) l _ recorded wanted room e total n⟩⟩
  · refine ⟨?_, ?_, Cru.isActive_clear_self _ _ _, fun r mem normal => ?_, ?_⟩
    · rw [State.resetDrift, State.clearCond_driftOf, State.clearCond_driftOf,
        State.driftOf_setDrift_same, DriftRecord.reset_eq]
    · exact Cru.isActive_clear_of_inactive (Cru.isActive_clear_self _ _ _) _ _
    · exact Cru.mem_of_mem_clear (Cru.mem_of_mem_clear mem (by rw [normal]; decide))
        (by rw [normal]; decide)
    · rintro x (rfl | rfl | rfl | rfl) <;> rfl

end Sys2Proof.Machine
end

section
/-!
PROOFS. SET SOURCE WINDOW and SET CLASS (R128, R143, R144), WAIT UNTIL and the release of wait-outs (R153,
R154).
-/

namespace Sys2Proof.Machine

variable {s t u : State}

/-! ### SET SOURCE WINDOW (R128, R143) -/

@[simp] theorem windowOf_val (w : Fin 8) : windowOf w.val = some w := dif_pos w.isLt
@[simp] theorem classOf_val (c : Fin 4) : classOf c.val = some c := dif_pos c.isLt

theorem State.windowBody_congr (h : t.sdu = s.sdu) (w : Fin 8) : t.windowBody w = s.windowBody w := by
  simp only [State.windowBody, h]

theorem State.classBody_congr (h : t.sdu = s.sdu) (c : Fin 4) : t.classBody c = s.classBody c := by
  simp only [State.classBody, h]

theorem storedBase_eq (b : Nat) : storedBase b = b - b % 64 := by unfold storedBase; omega
theorem storedLimit_eq (b : Nat) : storedLimit b = b - b % 64 + 63 := by unfold storedLimit; omega

/-- A source window as stored (R128). -/
def windowStored (enable : Bool) (base limit : Nat) (c : Fin 4) : SourceWindow :=
  { enable := enable, base := base - base % 64, limit := limit - limit % 64 + 63, cls := c }

/-- The bytes of a source window (12). -/
def windowBytes (w : Fin 8) (enable : Bool) (base limit : Nat) (c : Fin 4) : List Byte :=
  byteOf w.val ++ [flagByte enable] ++ beBytes 2 base ++ beBytes 2 limit ++ byteOf c.val

/-- What SET SOURCE WINDOW does, by the mode. -/
theorem setSourceWindowH_eq (w : Fin 8) (enable : Bool) {base limit : Nat} (c : Fin 4)
    (fitsBase : base < 65536) (fitsLimit : limit < 65536) (v : State) :
    setSourceWindowH (windowBytes w enable base limit c) v =
      if v.mgp.mode = .serving then answer v .wrongMode (v.windowBody w)
      else if (windowStored enable base limit c).limit < (windowStored enable base limit c).base
        then answer v .range (v.windowBody w)
      else answer (v.setSdu { v.sdu with
          windows := v.sdu.windows.set w (windowStored enable base limit c) }) .done
        ((v.setSdu { v.sdu with
          windows := v.sdu.windows.set w (windowStored enable base limit c) }).windowBody w) := by
  have fields : field (windowBytes w enable base limit c) 0 1 = w.val ∧
      field (windowBytes w enable base limit c) 1 1 = enable.toNat ∧
      field (windowBytes w enable base limit c) 2 2 = base ∧
      field (windowBytes w enable base limit c) 4 2 = limit ∧
      field (windowBytes w enable base limit c) 6 1 = c.val := by
    simp only [windowBytes, List.append_assoc]
    refine ⟨?_, ?_, ?_, ?_, ?_⟩
    all_goals simp (disch := simp) only [field_append, field_zero_append, field_all, beBytes_length,
      byteOf_length, List.length_singleton, Nat.reduceSub]
    · exact natOfBytes_byteOf (by omega)
    · rw [natOfBytes_singleton, flagByte_toNat]
    · exact natOfBytes_beBytes 2 _ (by simpa using fitsBase)
    · exact natOfBytes_beBytes 2 _ (by simpa using fitsLimit)
    · exact natOfBytes_byteOf (by omega)
  obtain ⟨f0, f1, f2, f4, f6⟩ := fields
  have length : (windowBytes w enable base limit c).length = 7 := by simp [windowBytes]
  cases mode : v.mgp.mode <;>
    simp only [setSourceWindowH, withLength_of_eq _ length, flagField, f0, f1, f2, f4, f6, mode,
      storedBase_eq, storedLimit_eq, windowOf_val, flagOf_toNat, classOf_val, withField_some] <;> rfl

/-! ### SET CLASS (R144) -/

/-- The bytes of a SET CLASS (12). -/
def classBytes (c : Fin 4) (write : Bool) (limit : Nat) (report : Bool) : List Byte :=
  byteOf c.val ++ [flagByte write] ++ beBytes 4 limit ++ [flagByte report]

theorem ClockOnly.writeClass (s : State) (c : Fin 4) (x : StampClass) : ClockOnly s (s.writeClass c x) := by
  have stored : ClockOnly s (s.setSdu { s.sdu with classes := s.sdu.classes.set c x }) :=
    ⟨rfl, rfl, rfl, rfl, rfl, rfl, rfl, rfl, rfl, ⟨rfl, rfl, rfl, rfl, rfl⟩, fun _ => rfl⟩
  unfold State.writeClass
  dsimp only
  split
  · exact stored
  · exact stored.trans (.clearCond _ _ fun _ => nofun)

theorem setClassH_eq (c : Fin 4) (write report : Bool) {limit : Nat} (fits : limit < 4294967296)
    (v : State) : setClassH (classBytes c write limit report) v =
      if write then answer (v.writeClass c ⟨limit, report⟩).settleCru .done
        ((v.writeClass c ⟨limit, report⟩).settleCru.classBody c)
      else answer v .done (v.classBody c) := by
  have fields : field (classBytes c write limit report) 0 1 = c.val ∧
      field (classBytes c write limit report) 1 1 = write.toNat ∧
      field (classBytes c write limit report) 2 4 = limit ∧
      field (classBytes c write limit report) 6 1 = report.toNat := by
    simp only [classBytes, List.append_assoc]
    refine ⟨?_, ?_, ?_, ?_⟩
    all_goals simp (disch := simp) only [field_append, field_zero_append, field_all, beBytes_length,
      byteOf_length, List.length_singleton, Nat.reduceSub]
    · exact natOfBytes_byteOf (by omega)
    · rw [natOfBytes_singleton, flagByte_toNat]
    · exact natOfBytes_beBytes 4 _ (by simpa using fits)
    · rw [natOfBytes_singleton, flagByte_toNat]
  obtain ⟨f0, f1, f2, f6⟩ := fields
  have length : (classBytes c write limit report).length = 7 := by simp [classBytes]
  simp only [setClassH, withLength_of_eq _ length, flagField, f0, f1, f2, f6, classOf_val, flagOf_toNat,
    withField_some, finish, (ClockOnly.writeClass v c ⟨limit, report⟩).endEvent_eq]

theorem State.writeClass_sdu (s : State) (c : Fin 4) (x : StampClass) :
    (s.writeClass c x).sdu = { s.sdu with classes := s.sdu.classes.set c x } := by
  unfold State.writeClass; dsimp only; split <;> rfl

/-- A settings write of a class touches the stamp dating unit and the conditions alone. -/
theorem State.writeClass_frame (s : State) (c : Fin 4) (x : StampClass) : (s.writeClass c x).settleCru =
    { s with sdu := (s.writeClass c x).settleCru.sdu, cru := (s.writeClass c x).settleCru.cru } := by
  unfold State.writeClass; dsimp only; split <;> rfl

/-- Settles O48. -/
theorem windowAndClassRequests : Obligations.WindowAndClassRequests := by
  intro p tag s accepts
  refine ⟨fun w enable base limit c fitsBase fitsLimit => ?_, fun c report limit fits => ⟨?_, ?_⟩⟩
  · have answered (v : State) := setSourceWindowH_eq w enable c fitsBase fitsLimit v
    refine ⟨fun serving => ?_, fun setup beyond => ?_, fun setup within => ?_⟩ <;>
      refine congrArg Host.Outcome.next (State.request_answered accepts _ _ ((answered _).trans ?_))
    · rw [if_pos (by simpa using serving), State.windowBody_congr (s.taken_sdu p 0x40#8 tag)]
      rfl
    · rw [if_neg (by simp [setup]), if_pos (show (windowStored enable base limit c).limit <
        (windowStored enable base limit c).base from beyond),
        State.windowBody_congr (s.taken_sdu p 0x40#8 tag)]
      rfl
    · rw [if_neg (by simp [setup]), if_neg (show ¬ (windowStored enable base limit c).limit <
        (windowStored enable base limit c).base from Nat.not_lt.mpr within), State.taken_sdu]
      simp [answer, State.windowBody, windowStored]
  · refine congrArg Host.Outcome.next (State.request_answered accepts _ _ ((setClassH_eq c false report fits _).trans ?_))
    rw [State.classBody_congr (s.taken_sdu p 0x41#8 tag)]
    rfl
  · refine ⟨((s.taken p 0x41#8 tag).writeClass c ⟨limit, report⟩).settleCru, ?_, ?_, fun off => ?_,
      State.writeClass_frame _ _ _⟩
    · refine congrArg Host.Outcome.next (State.request_answered accepts _ _
        ((setClassH_eq c true report fits _).trans ?_))
      simp [answer, State.classBody, State.writeClass_sdu, State.settleCru_sdu]
    · rw [State.settleCru_sdu, State.writeClass_sdu, State.taken_sdu]
    · subst off
      exact State.settleCru_inactive _ (Cru.isActive_clear_self _ _ _)

end Sys2Proof.Machine
end

section
/-!
PROOFS. WAIT UNTIL (R153) and the release of wait-outs (R154).
-/

namespace Sys2Proof.Machine

variable {s t u : State}

/-- A wait-out goes behind those with targets up to its own and ahead of the first with a later one
(R152). -/
theorem insertWait_split (w : WaitOut) (ws : List WaitOut) : ∃ before after : List WaitOut,
    ws = before ++ after ∧ (∀ x, after.head? = some x → w.target < x.target) ∧
      (∀ x ∈ before, x.target ≤ w.target) ∧ insertWait w ws = before ++ w :: after := by
  induction ws with
  | nil => exact ⟨[], [], rfl, nofun, nofun, rfl⟩
  | cons y ys ih =>
    by_cases later : w.target < y.target
    · refine ⟨[], y :: ys, rfl, fun x first => ?_, nofun, if_pos later⟩
      cases first
      exact later
    · obtain ⟨before, after, rfl, first, earlier, placed⟩ := ih
      refine ⟨y :: before, after, rfl, first, fun x mem => ?_, (if_neg later).trans (by rw [placed]; rfl)⟩
      cases mem with
      | head => exact Nat.not_lt.mp later
      | tail _ mem => exact earlier x mem

theorem State.waitWrap_of_not_wrap
    (h : ¬ (s.readNow.era = s.sdu.lastReading.era ∧ s.readNow.hall < s.sdu.lastReading.hall)) :
    s.waitWrap = s := by
  refine if_neg ?_
  simpa [Sdu.wrapSeen] using h

/-- The release test of a wait-out where u_hall is present (R154). -/
theorem releaseTest_some (r : Reading) (declares : Bool) (u target era : Nat) :
    releaseTest r declares (some u) target era = (decide (r.era = era) && declares &&
      (decide (u < 4294967295) && decide (target + u ≤ r.hall))) := by
  simp only [releaseTest, unbounded, Bool.and_assoc]
  congr 3
  exact decide_eq_decide.mpr (by omega)

theorem State.releases_eq (s : State) (w : WaitOut) : s.releases w =
    (decide (s.readNow.era = w.era) && s.declaresTime &&
      s.uHall.any (fun u => decide (u < 4294967295) && decide (w.target + u ≤ s.readNow.hall))) := by
  unfold State.releases
  cases s.uHall with
  | none => simp [releaseTest]
  | some u => rw [releaseTest_some]; rfl

/-! ### The checks of WAIT UNTIL in order (R153) -/

section

variable (p : Port) (tag : Byte) {target era : Nat} (still : s.waitWrap = s)

/-- The wait reply of now (12). -/
def State.waitNow (s : State) : List Byte :=
  waitReply s.readNow.hall s.readNow.era (s.uHall.getD 0) s.rdu.tsState

include still

theorem State.waitUntil_busy (full : 16 ≤ s.sdu.waitOuts.length ∨ 8 ≤ s.sdu.share p) :
    State.waitUntil p tag target era s = (s, some (.busy, [])) := by
  simp only [State.waitUntil, still, if_pos full, bare]

variable (room : ¬ (16 ≤ s.sdu.waitOuts.length ∨ 8 ≤ s.sdu.share p))

include room

theorem State.waitUntil_stepped (other : era ≠ s.readNow.era) :
    State.waitUntil p tag target era s = (s, some (.stepped, s.waitNow)) := by
  simp only [State.waitUntil, still, if_neg room, if_pos other]
  rfl

variable (same : ¬ era ≠ s.readNow.era)

include same

theorem State.waitUntil_untimed (undeclared : s.declaresTime = false) :
    State.waitUntil p tag target era s = (s, some (.untimed, s.waitNow)) := by
  simp only [State.waitUntil, still, if_neg room, if_neg same, undeclared]
  rfl

variable (declared : s.declaresTime = true)

include declared

theorem State.waitUntil_range (far : s.readNow.hall + 10000000000 < target) :
    State.waitUntil p tag target era s = (s, some (.range, s.waitNow)) := by
  simp only [State.waitUntil, still, if_neg room, if_neg same, declared, if_pos far]
  rfl

variable (near : ¬ s.readNow.hall + 10000000000 < target)

include near

theorem State.waitUntil_done (released : releaseTest s.readNow true s.uHall target era = true) :
    State.waitUntil p tag target era s = (s, some (.done, s.waitNow)) := by
  simp only [State.waitUntil, still, if_neg room, if_neg same, declared, if_neg near, released]
  rfl

theorem State.waitUntil_parked (unreleased : releaseTest s.readNow true s.uHall target era = false) :
    State.waitUntil p tag target era s =
      (s.setSdu { s.sdu with waitOuts := insertWait ⟨p, tag, target, era, s.osc⟩ s.sdu.waitOuts },
        none) := by
  simp only [State.waitUntil, still, if_neg room, if_neg same, declared, if_neg near, unreleased]
  rfl

end

theorem waitUntilH_fields (p : Port) (tag : Byte) {target era : Nat} (fitsTarget : target < 18446744073709551616)
    (fitsEra : era < 65536) :
    waitUntilH p tag (beBytes 8 target ++ beBytes 2 era) = State.waitUntil p tag target era := by
  have first : field (beBytes 8 target ++ beBytes 2 era) 0 8 = target := by
    rw [field_zero_append _ _ _ (beBytes_length 8 target)]
    exact natOfBytes_beBytes 8 _ (by simpa using fitsTarget)
  have second : field (beBytes 8 target ++ beBytes 2 era) 8 2 = era := by
    simp (disch := simp) only [field_append, field_all, beBytes_length, Nat.reduceSub]
    exact natOfBytes_beBytes 2 _ (by simpa using fitsEra)
  rw [waitUntilH, withLength_of_eq _ (by simp), first, second]

/-- A request whose reply is deferred leaves no hold (R176). -/
theorem State.request_deferred {p : Port} {f : Handler} (h : Accepts s p) (kind tag : Byte)
    (k : f (s.taken p kind tag) = (t, none)) :
    s.request p kind tag f = t.setPort p { t.port p with held := none } := by
  simp [State.request_taken h, k]

/-- What stays of the request frame of a parked WAIT UNTIL: its port is HUNTING. -/
theorem State.taken_deferred {p : Port} (h : Accepts s p) (kind tag : Byte) (x : Sdu) :
    ((s.taken p kind tag).setSdu x).setPort p { ((s.taken p kind tag).setSdu x).port p with held := none } =
      (s.setPort p { s.port p with receiver := .hunting }).setSdu x := by
  have held : { ((s.taken p kind tag).setSdu x).port p with held := none } =
      { s.port p with receiver := .hunting } := by
    rw [State.setSdu_port, State.taken_port, ← h.noHeld]
  rw [held]
  cases p <;> rfl

/-- Settles O49: a WAIT UNTIL stops at its first failing check, and the release takes every wait-out whose
test holds. -/
theorem waitOuts : Obligations.WaitOuts := by
  refine ⟨fun p tag target era s accepts fitsTarget fitsEra noWrap => ?_, fun s =>
    ⟨s.releaseWaits, rfl, ?_⟩⟩
  · intro body now answered
    have handler := waitUntilH_fields p tag fitsTarget fitsEra
    have reading : (s.taken p 0x43#8 tag).readNow = s.readNow := by simp [State.readNow]
    have uHall : (s.taken p 0x43#8 tag).uHall = s.uHall := by simp [State.uHall]
    have declares : (s.taken p 0x43#8 tag).declaresTime = s.declaresTime := by simp [State.declaresTime]
    have sdu : (s.taken p 0x43#8 tag).sdu = s.sdu := State.taken_sdu _ _ _ _
    have reply : (s.taken p 0x43#8 tag).waitNow = now := by
      rw [State.waitNow, reading, uHall, State.taken_rdu]
    have osc : (s.taken p 0x43#8 tag).osc = s.osc := State.taken_osc _ _ _ _
    have answer {res : Result} {b : List Byte} (h : State.waitUntil p tag target era (s.taken p 0x43#8 tag) =
        (s.taken p 0x43#8 tag, some (res, b))) : answered res b :=
      congrArg Host.Outcome.next (State.request_answered accepts _ _ (by rw [handler, h]))
    have still := State.waitWrap_of_not_wrap (s := s.taken p 0x43#8 tag) (by rw [reading, sdu]; exact noWrap)
    refine ⟨fun full => answer (State.waitUntil_busy p tag still (by rw [sdu]; exact full)), fun few share => ?_⟩
    have room : ¬ (16 ≤ (s.taken p 0x43#8 tag).sdu.waitOuts.length ∨
        8 ≤ (s.taken p 0x43#8 tag).sdu.share p) := by rw [sdu]; omega
    have deferred {x : Sdu} {f : Handler}
        (h : f (s.taken p 0x43#8 tag) = ((s.taken p 0x43#8 tag).setSdu x, none)) :
        s.request p 0x43#8 tag f = (s.setPort p { s.port p with receiver := .hunting }).setSdu x :=
      (State.request_deferred accepts _ _ h).trans (s.taken_deferred accepts 0x43#8 tag x)
    generalize s.taken p 0x43#8 tag = v at *
    rw [← reading, ← declares, ← uHall, ← reply]
    refine ⟨fun other => answer (State.waitUntil_stepped p tag still room other),
      fun same undeclared => answer (State.waitUntil_untimed p tag still room (not_not.mpr same) undeclared),
      fun same declared far => answer (State.waitUntil_range p tag still room (not_not.mpr same) declared far),
      fun same declared near u hu => ⟨fun bounded reached => ?_, fun waits => ?_⟩⟩
    · refine answer (State.waitUntil_done p tag still room (not_not.mpr same) declared (Nat.not_lt.mpr near) ?_)
      rw [hu, releaseTest_some]
      simp [same, bounded, reached]
    · obtain ⟨before, after, split, first, earlier, placed⟩ :=
        insertWait_split ⟨p, tag, target, era, v.osc⟩ v.sdu.waitOuts
      refine ⟨before, after, by rw [← sdu, split], first, earlier, ?_⟩
      have parks := State.waitUntil_parked p tag still room (not_not.mpr same) declared
        (Nat.not_lt.mpr near) (by rw [hu, releaseTest_some]; simp; omega)
      refine congrArg Host.Outcome.next (deferred (by rw [handler, parks, placed, osc, sdu]))
  · intro test
    have tests : s.releases = test := funext s.releases_eq
    rw [State.releaseWaits, tests]
    exact ⟨by simp, by simp, by simp, by simp, by simp, ClockOnly.completeWaits s _ _ _,
      fun q room => s.completeWaits_replies test _ _ room⟩

end Sys2Proof.Machine
end

section
/-!
PROOFS. READ SUMMARY, READ RACK and READ WINDOW (R94, R114, R183): the layouts of their replies.
-/

namespace Sys2Proof.Machine

variable {s t u : State}

/-! ### The part summary (R183) -/

/-- Each entry is in one of the seven states. -/
theorem rackStates_sum (state : Link → RackState) (ls : List Link) :
    (ls.filter (fun l => decide (state l = .idle))).length +
      (ls.filter (fun l => decide (state l = .attaching))).length +
      (ls.filter (fun l => decide (state l = .acquiring))).length +
      (ls.filter (fun l => decide (state l = .tracking))).length +
      (ls.filter (fun l => decide (state l = .coasting))).length +
      (ls.filter (fun l => decide (state l = .lost))).length +
      (ls.filter (fun l => decide (state l = .quarantined))).length = ls.length := by
  induction ls with
  | nil => rfl
  | cons l ls ih =>
    cases h : state l <;> simp only [List.filter_cons, h, decide_true, reduceCtorEq, decide_false, if_true,
      Bool.false_eq_true, if_false, List.length_cons] <;> omega

theorem State.entriesIn_le (s : State) (x : RackState) : s.entriesIn x ≤ 40 :=
  (List.length_filter_le _ _).trans (List.length_finRange).le

theorem State.entriesIn_sum (s : State) : s.entriesIn .idle + s.entriesIn .attaching +
    s.entriesIn .acquiring + s.entriesIn .tracking + s.entriesIn .coasting + s.entriesIn .lost +
    s.entriesIn .quarantined = 40 :=
  (rackStates_sum (fun l => (s.entry l).state) allLinks).trans List.length_finRange

theorem Sdu.share_le (d : Sdu) (p : Port) : d.share p ≤ d.waitOuts.length := List.length_filter_le _ _

/-- The taking of a frame shows in no field of the summary. -/
theorem State.taken_partSummary (s : State) (p : Port) (kind tag : Byte) :
    (s.taken p kind tag).partSummary = s.partSummary := by
  have droppedA : (s.taken p kind tag).mgp.portA.dropped = s.mgp.portA.dropped := by cases p <;> rfl
  have droppedB : (s.taken p kind tag).mgp.portB.dropped = s.mgp.portB.dropped := by cases p <;> rfl
  simp only [State.partSummary, State.entriesIn, droppedA, droppedB, State.taken_mgp_mode, State.taken_rdu,
    State.taken_tsu, State.taken_entry, State.taken_sdu, State.taken_cru]

/-- What each field of a part summary holds (R183). -/
structure SummaryFields (s : State) (b : List Byte) : Prop where
  mode : field b 0 1 = s.mgp.mode.code
  tsState : field b 1 1 = s.rdu.tsState.code
  era : field b 2 2 = s.tsu.era
  idle : field b 4 1 = s.entriesIn .idle
  attaching : field b 5 1 = s.entriesIn .attaching
  acquiring : field b 6 1 = s.entriesIn .acquiring
  tracking : field b 7 1 = s.entriesIn .tracking
  coasting : field b 8 1 = s.entriesIn .coasting
  lost : field b 9 1 = s.entriesIn .lost
  quarantined : field b 10 1 = s.entriesIn .quarantined
  journal : field b 11 2 = s.sdu.journal.length
  journalFull : field b 13 1 = s.sdu.journalFull.toNat
  conditions : field b 14 1 = s.cru.list.length
  reserved : field b 15 1 = s.cru.reserved.isSome.toNat
  waitOuts : field b 16 1 = s.sdu.waitOuts.length
  shareA : field b 17 1 = s.sdu.share .a
  shareB : field b 18 1 = s.sdu.share .b
  droppedA : field b 19 1 = s.mgp.portA.dropped
  droppedB : field b 20 1 = s.mgp.portB.dropped

theorem Mode.code_lt (m : Mode) : m.code < 256 := by cases m <;> decide

theorem State.partSummary_fields (s : State) (era : s.tsu.era < 65536)
    (journal : s.sdu.journal.length ≤ 2048) (list : s.cru.list.length ≤ 64)
    (waits : s.sdu.waitOuts.length ≤ 16) (droppedA : s.mgp.portA.dropped ≤ 255)
    (droppedB : s.mgp.portB.dropped ≤ 255) : SummaryFields s s.partSummary := by
  have entries (x : RackState) : s.entriesIn x < 256 := (s.entriesIn_le x).trans_lt (by decide)
  have share (q : Port) : s.sdu.share q < 256 := ((s.sdu.share_le q).trans waits).trans_lt (by decide)
  simp only [State.partSummary, List.append_assoc]
  constructor
  all_goals simp (disch := simp) only [field_append, field_zero_append, field_all, beBytes_length,
    byteOf_length, List.length_singleton, Nat.reduceSub]
  case mode => exact natOfBytes_byteOf s.mgp.mode.code_lt
  case tsState => exact natOfBytes_byteOf s.rdu.tsState.code_lt
  case era => exact natOfBytes_beBytes 2 _ (by simpa using era)
  case journal => exact natOfBytes_beBytes 2 _ (by simp; omega)
  case journalFull => rw [natOfBytes_singleton, flagByte_toNat]
  case conditions => exact natOfBytes_byteOf (by omega)
  case reserved => rw [natOfBytes_singleton, flagByte_toNat]
  case waitOuts => exact natOfBytes_byteOf (by omega)
  case shareA => exact natOfBytes_byteOf (share .a)
  case shareB => exact natOfBytes_byteOf (share .b)
  case droppedA => exact natOfBytes_byteOf (by omega)
  case droppedB => exact natOfBytes_byteOf (by omega)
  all_goals exact natOfBytes_byteOf (entries _)

theorem State.partSummary_length (s : State) : s.partSummary.length = 21 := by simp [State.partSummary]

/-! ### Rack snapshot and window reply (R94, R114) -/

@[simp] theorem estimateBytes_length (e : Option Estimate) : (estimateBytes e).length = 26 := by
  cases e <;> simp [estimateBytes]

@[simp] theorem probeBytes_length (x : Option ProbeInFlight) : (probeBytes x).length = 10 := by
  cases x <;> simp [probeBytes]

@[simp] theorem trimBytes_length (x : Option TrimInFlight) : (trimBytes x).length = 17 := by
  cases x <;> simp [trimBytes]

theorem State.rackSnapshot_length (s : State) (l : Link) : (s.rackSnapshot l).length = 113 := by
  simp [State.rackSnapshot]

@[simp] theorem ExchangeRecord.bytes_length (r : ExchangeRecord) : r.bytes.length = 46 := by
  simp [ExchangeRecord.bytes]

theorem windowPositions_length (w : List ExchangeRecord) : (windowPositions w).length = 3 := by
  unfold windowPositions
  split <;> rfl

/-- A concatenation of blocks of one length. -/
theorem flatten_map_length {α : Type} {f : α → List Byte} {n : Nat} (h : ∀ x, (f x).length = n) (xs : List α) :
    ((xs.map f).flatten).length = n * xs.length := by
  induction xs with
  | nil => rfl
  | cons x xs ih => simp [h, ih, Nat.mul_add, Nat.add_comm]

theorem State.windowReply_length (s : State) (l : Link) (first : Nat) : (s.windowReply l first).length = 239 := by
  have shown : (((s.entry l).window.drop first).take 5).length ≤ 5 := List.length_take_le _ _
  simp only [State.windowReply, List.length_append, byteOf_length, beBytes_length, zeros_length,
    flatten_map_length byteOf_length, flatten_map_length ExchangeRecord.bytes_length, windowPositions_length]
  omega

theorem LinkState.code_lt (x : LinkState) : x.code < 256 := by cases x <;> decide
theorem RackState.code_lt (x : RackState) : x.code < 256 := by cases x <;> decide

theorem State.rackSnapshot_fields (s : State) (l : Link) : field (s.rackSnapshot l) 0 1 = l.val ∧
    field (s.rackSnapshot l) 1 1 = (s.link l).state.code ∧
    field (s.rackSnapshot l) 2 1 = (s.entry l).state.code := by
  simp only [State.rackSnapshot, List.append_assoc]
  refine ⟨?_, ?_, ?_⟩
  all_goals simp (disch := simp) only [field_append, field_zero_append, byteOf_length, Nat.reduceSub]
  · exact natOfBytes_byteOf (by omega)
  · exact natOfBytes_byteOf (LinkState.code_lt _)
  · exact natOfBytes_byteOf (RackState.code_lt _)

theorem State.windowReply_fields (s : State) (l : Link) (first : Nat) :
    field (s.windowReply l first) 0 1 = l.val ∧
      (s.rtmEra < 65536 → field (s.windowReply l first) 3 2 = s.rtmEra) ∧
      ((s.entry l).window.length ≤ 8 →
        field (s.windowReply l first) 5 1 = (s.entry l).window.length) := by
  simp only [State.windowReply, List.append_assoc]
  refine ⟨?_, fun era => ?_, fun few => ?_⟩
  all_goals simp (disch := simp) only [field_append, field_zero_append, byteOf_length, beBytes_length,
    Nat.reduceSub]
  · exact natOfBytes_byteOf (by omega)
  · exact natOfBytes_beBytes 2 _ (by simpa using era)
  · exact natOfBytes_byteOf (by omega)

theorem State.taken_rackSnapshot (s : State) (p : Port) (kind tag : Byte) (l : Link) :
    (s.taken p kind tag).rackSnapshot l = s.rackSnapshot l := by simp [State.rackSnapshot]

theorem State.taken_windowReply (s : State) (p : Port) (kind tag : Byte) (l : Link) (first : Nat) :
    (s.taken p kind tag).windowReply l first = s.windowReply l first := by simp [State.windowReply]

/-- Settles O7: each read answers DONE with its record, whose fields are those of chapter 12. -/
theorem readsOfThePart : Obligations.ReadsOfThePart := by
  refine ⟨fun p tag s accepts era journal list waits droppedA droppedB => ⟨s.partSummary, ?_, ?_⟩,
    fun p tag l first s accepts => ⟨⟨?_, s.rackSnapshot_length l, s.rackSnapshot_fields l⟩, ?_,
      s.windowReply_length l _, s.windowReply_fields l _⟩⟩
  · refine congrArg Host.Outcome.next (State.request_answered accepts _ _ ?_)
    rw [readSummaryH, withLength_of_eq _ List.length_nil, State.taken_partSummary]
    rfl
  · have f := s.partSummary_fields era journal list waits droppedA droppedB
    refine ⟨s.partSummary_length, f.mode, f.tsState, f.era, fun x => ?_, ?_, f.journal, f.journalFull,
      f.conditions, f.reserved, f.waitOuts, f.shareA, f.shareB, f.droppedA, f.droppedB⟩
    · cases x
      · exact f.idle
      · exact f.attaching
      · exact f.acquiring
      · exact f.tracking
      · exact f.coasting
      · exact f.lost
      · exact f.quarantined
    · rw [f.idle, f.attaching, f.acquiring, f.tracking, f.coasting, f.lost, f.quarantined]
      exact s.entriesIn_sum
  · refine congrArg Host.Outcome.next (State.request_answered accepts _ _ ?_)
    rw [readRackH, withLength_of_eq _ (byteOf_length _), field_all (byteOf_length _),
      natOfBytes_byteOf (by omega), linkOf_val, withField_some, State.taken_rackSnapshot]
    rfl
  · refine congrArg Host.Outcome.next (State.request_answered accepts _ _ ?_)
    have link : field (byteOf l.val ++ byteOf first.val) 0 1 = l.val := by
      rw [field_zero_append _ _ _ (byteOf_length _), natOfBytes_byteOf (by omega)]
    have place : field (byteOf l.val ++ byteOf first.val) 1 1 = first.val := by
      simp (disch := simp) only [field_append, field_all, byteOf_length, Nat.reduceSub]
      exact natOfBytes_byteOf (by omega)
    rw [readWindowH, withLength_of_eq _ (by simp), link, linkOf_val, withField_some, place,
      windowOf_val, withField_some, State.taken_windowReply]
    rfl

end Sys2Proof.Machine
end

section
/-!
PROOFS. The end of an event that takes no entry out of service by ISOLATE (R91, R168): the flags are
written and nothing else of a link moves. With it, what state notices and the clears of a state left keep.
-/

namespace Sys2Proof.Machine

variable {s t u : State} {l m : Link}

/-! ### What state notices and clears keep -/

section

variable (s : State) (l m : Link) (x : RackState)

@[simp] theorem State.leaveState_link : (s.leaveState l x).link m = s.link m := by cases x <;> rfl
@[simp] theorem State.leaveState_links : (s.leaveState l x).links = s.links := by cases x <;> rfl
@[simp] theorem State.leaveState_osc : (s.leaveState l x).osc = s.osc := by cases x <;> rfl
@[simp] theorem State.leaveState_tsu : (s.leaveState l x).tsu = s.tsu := by cases x <;> rfl
@[simp] theorem State.leaveState_rdu : (s.leaveState l x).rdu = s.rdu := by cases x <;> rfl
@[simp] theorem State.leaveState_mgp : (s.leaveState l x).mgp = s.mgp := by cases x <;> rfl
@[simp] theorem State.leaveState_sdu : (s.leaveState l x).sdu = s.sdu := by cases x <;> rfl
@[simp] theorem State.leaveState_rtmEra : (s.leaveState l x).rtmEra = s.rtmEra := by cases x <;> rfl
@[simp] theorem State.leaveState_driftOf : (s.leaveState l x).driftOf m = s.driftOf m := by cases x <;> rfl
@[simp] theorem State.leaveState_inService : (s.leaveState l x).inService m = s.inService m := by
  simp [State.inService]
@[simp] theorem State.leaveState_isUp : (s.leaveState l x).isUp m = s.isUp m := by simp [State.isUp]

@[simp] theorem State.stateNotice_link : (s.stateNotice l x).link m = s.link m := by cases x <;> rfl
@[simp] theorem State.stateNotice_links : (s.stateNotice l x).links = s.links := by cases x <;> rfl
@[simp] theorem State.stateNotice_osc : (s.stateNotice l x).osc = s.osc := by cases x <;> rfl
@[simp] theorem State.stateNotice_tsu : (s.stateNotice l x).tsu = s.tsu := by cases x <;> rfl
@[simp] theorem State.stateNotice_rdu : (s.stateNotice l x).rdu = s.rdu := by cases x <;> rfl
@[simp] theorem State.stateNotice_mgp : (s.stateNotice l x).mgp = s.mgp := by cases x <;> rfl
@[simp] theorem State.stateNotice_sdu : (s.stateNotice l x).sdu = s.sdu := by cases x <;> rfl
@[simp] theorem State.stateNotice_rtmEra : (s.stateNotice l x).rtmEra = s.rtmEra := by cases x <;> rfl
@[simp] theorem State.stateNotice_inService : (s.stateNotice l x).inService m = s.inService m := by
  simp [State.inService]
@[simp] theorem State.stateNotice_isUp : (s.stateNotice l x).isUp m = s.isUp m := by simp [State.isUp]

end

/-- A notice of a state out of the exchanges resets the drift record (R123, R124). -/
theorem State.stateNotice_resets {x : RackState}
    (h : x = .attaching ∨ x = .lost ∨ x = .idle ∨ x = .quarantined) (s : State) (l : Link) :
    s.stateNotice l x = (s.setDrift l { s.driftOf l with notified := x }).resetDrift l := by
  obtain rfl | rfl | rfl | rfl := h <;> rfl

theorem State.stateNotice_reset_drift {x : RackState}
    (h : x = .attaching ∨ x = .lost ∨ x = .idle ∨ x = .quarantined) (s : State) (l : Link) :
    ((s.stateNotice l x).driftOf l).level = .normal ∧ ((s.stateNotice l x).driftOf l).notified = x := by
  rw [State.stateNotice_resets h, State.resetDrift, State.clearCond_driftOf, State.clearCond_driftOf,
    State.driftOf_setDrift_same, State.driftOf_setDrift_same, DriftRecord.reset_eq]
  exact ⟨rfl, rfl⟩

/-- Such a notice leaves neither drift condition active (R124). -/
theorem State.stateNotice_reset_driving {x : RackState}
    (h : x = .attaching ∨ x = .lost ∨ x = .idle ∨ x = .quarantined) (s : State) (l : Link) :
    (s.stateNotice l x).cru.isActive .driftWatch (.link l) = false ∧
      (s.stateNotice l x).cru.isActive .driftAlarm (.link l) = false := by
  rw [State.stateNotice_resets h]
  exact ⟨Cru.isActive_clear_of_inactive (Cru.isActive_clear_self _ _ _) _ _, Cru.isActive_clear_self _ _ _⟩

/-! ### Flags written without a new ISOLATE -/

/-- Writing the flags of a link takes its entry not out of service: ISOLATE is not newly set, or the entry
is out of service (R91). -/
def NoNewIsolate (s : State) (l : Link) : Prop :=
  (s.cru.driving l).isolate = true → (s.entry l).isolate = true ∨ s.inService l = false

/-- The entry of a link with the flags its driving conditions give (R168). -/
def State.flagged (s : State) (l : Link) : State :=
  s.setEntry l { s.entry l with degrade := (s.cru.driving l).degrade
                                isolate := (s.cru.driving l).isolate }

theorem State.writeFlags_eq (h : NoNewIsolate s l) : s.writeFlags l = s.flagged l := by
  unfold State.writeFlags
  dsimp only
  split
  · next set =>
    rw [Bool.and_eq_true, Bool.not_eq_true'] at set
    have out : s.inService l = false := (h set.1).resolve_left (by simp [set.2])
    refine if_neg ?_
    simpa [State.inService] using out
  · rfl

theorem State.deriveFlags_same {before : State} (h : before.cru.driving l = s.cru.driving l) :
    State.deriveFlags before s l = s := if_pos h

theorem State.deriveFlags_moved {before : State} (h : before.cru.driving l ≠ s.cru.driving l) :
    State.deriveFlags before s l = s.writeFlags l := if_neg h

theorem State.settleFlags_moved {before : State} (h : NoNewIsolate s l)
    (moved : before.cru.driving l ≠ s.cru.driving l) : State.settleFlags before s l = s.flagged l := by
  rw [State.settleFlags, State.deriveFlags_moved moved, State.writeFlags_eq h]
  exact State.deriveFlags_same rfl

/-- Nothing but action flags of entries has changed. -/
structure FlagsOnly (s t : State) : Prop where
  core : SameCore s t
  links : t.links = s.links
  drift : t.drift = s.drift
  cru : t.cru = s.cru
  entry : ∀ m, t.entry m =
    { s.entry m with degrade := (t.entry m).degrade, isolate := (t.entry m).isolate }

theorem FlagsOnly.refl (s : State) : FlagsOnly s s := ⟨.refl s, rfl, rfl, rfl, fun _ => rfl⟩

theorem FlagsOnly.flagged (h : FlagsOnly s t) (l : Link) : FlagsOnly s (t.flagged l) := by
  refine ⟨h.core.trans (OnlyLink.setEntry l t _).core, h.links, h.drift, h.cru, fun m => ?_⟩
  by_cases same : m = l
  · subst same
    rw [State.flagged, State.entry_setEntry_same, h.entry m]
  · rw [State.flagged, State.entry_setEntry_ne _ _ _ _ same]
    exact h.entry m

theorem NoNewIsolate.flagged (h : NoNewIsolate s m) (l : Link) : NoNewIsolate (s.flagged l) m := by
  intro set
  by_cases same : m = l
  · subst same
    left
    rw [State.flagged, State.entry_setEntry_same]
    exact set
  · have entry : (s.flagged l).entry m = s.entry m := State.entry_setEntry_ne _ _ _ _ same
    rw [State.inService, entry]
    exact h set

/-- The end of an event that newly sets no ISOLATE: flags written, then the judgement of R162. -/
theorem FlagsOnly.endEvent {before : State}
    (calm : ∀ m, before.cru.driving m = s.cru.driving m ∨ NoNewIsolate s m) :
    ∃ u, FlagsOnly s u ∧ State.endEvent before s = u.settleCru := by
  refine ⟨_, ?_, rfl⟩
  refine (forLinks_keeps (P := fun st => FlagsOnly s st ∧
    ∀ m, before.cru.driving m = st.cru.driving m ∨ NoNewIsolate st m) (fun l st => ?_) s ⟨.refl s, calm⟩).1
  rintro ⟨flags, calm⟩
  by_cases same : before.cru.driving l = st.cru.driving l
  · rw [State.settleFlags_of_same l st same]
    exact ⟨flags, calm⟩
  · rw [State.settleFlags_moved ((calm l).resolve_left same) same]
    exact ⟨flags.flagged l, fun m => (calm m).imp id fun h => h.flagged l⟩

/-- What the end of an event that newly sets no ISOLATE leaves. -/
structure EndedAs (s t : State) : Prop where
  core : SameCore s t
  links : t.links = s.links
  drift : t.drift = s.drift
  cru : t.cru = s.settleCru.cru
  entry : ∀ m, t.entry m =
    { s.entry m with degrade := (t.entry m).degrade, isolate := (t.entry m).isolate }

theorem EndedAs.of_calm {before : State}
    (calm : ∀ m, before.cru.driving m = s.cru.driving m ∨ NoNewIsolate s m) :
    EndedAs s (State.endEvent before s) := by
  obtain ⟨u, flags, ended⟩ := FlagsOnly.endEvent calm
  rw [ended]
  refine ⟨flags.core.trans (State.settleCru_sameCore u), flags.links, flags.drift, ?_, flags.entry⟩
  rw [State.settleCru, State.settleCru, State.setCru_cru, State.setCru_cru, flags.cru]

theorem EndedAs.link (h : EndedAs s t) (m : Link) : t.link m = s.link m := by
  simp only [State.link, h.links]

theorem EndedAs.driftOf (h : EndedAs s t) (m : Link) : t.driftOf m = s.driftOf m := by
  simp only [State.driftOf, h.drift]

theorem EndedAs.inactive (h : EndedAs s t) {k : CondKind} {sc : Scope}
    (inactive : s.cru.isActive k sc = false) : t.cru.isActive k sc = false := by
  rw [h.cru]
  exact State.settleCru_inactive _ inactive

/-- An event of one link, at its end. -/
theorem EndedAs.of_onlyLink (only : OnlyLink l s t) (calm : NoNewIsolate t l) :
    EndedAs t (State.endEvent s t) :=
  .of_calm fun m => by
    by_cases same : m = l
    · subst same; exact .inr calm
    · exact .inl (only.others m same).driving.symm

/-- The leave of an event of one link: it may move the drift conditions. -/
def linkLeave : Leave := ⟨True, False, False, False⟩

/-- An event that keeps the settings of the condition reporting unit keeps the actions. -/
theorem Acts.actions {p : Leave} (acts : Acts p s t) (held : ¬ (p.drift ∧ p.eases)) :
    t.cru.actions = s.cru.actions := by
  induction acts with
  | refl s => rfl
  | trans _ _ first second => exact second.trans first
  | raise s k sc d f apart leave => simp
  | clear s k sc drift eases => simp [State.clearCond]
  | settle s =>
    change s.cru.settleListFull.actions = s.cru.actions
    unfold Cru.settleListFull
    split
    · exact s.cru.clear_actions _ _
    · rfl
  | setCru drift eases => exact absurd ⟨drift, eases⟩ held
  | setPort s q x fits => simp
  | _ => rfl

/-- Driving conditions of a group without the action ISOLATE isolate no link (R168). -/
theorem Driving.not_isolate {d : Driving} (drift : d.actions.driftAlarm ≠ .isolate)
    (errors : d.actions.linkErrorRate ≠ .isolate) : d.isolate = false := by
  have milder : d.actions.driftAlarm.milder ≠ .isolate := by
    cases d.actions.driftAlarm <;> decide
  simp [Driving.isolate, drift, errors, milder]

theorem NoIsolation.driving (h : NoIsolation s l) : (s.cru.driving l).isolate = false :=
  Driving.not_isolate h.drift h.errors

theorem NoIsolation.of_actions (h : NoIsolation s l) (same : t.cru.actions = s.cru.actions) :
    NoIsolation t l := ⟨by rw [same]; exact h.drift, by rw [same]; exact h.errors⟩

theorem NoIsolation.calm (h : NoIsolation s l) : NoNewIsolate s l := fun set => by
  rw [h.driving] at set
  cases set

/-- An event of one link that no action isolates, at its end. -/
theorem EndedAs.of_noIsolation (h : NoIsolation s l) (only : OnlyLink l s t) (acts : Acts linkLeave s t) :
    EndedAs t (State.endEvent s t) :=
  .of_onlyLink only (h.of_actions (acts.actions fun both => both.2)).calm

/-! ### The end of an event of one link without writes to what drives it -/

theorem State.endEvent_of_same (only : OnlyLink l s t) (same : t.cru.driving l = s.cru.driving l) :
    State.endEvent s t = t.settleCru :=
  State.endEvent_quiet s t fun m => by
    by_cases h : m = l
    · subst h; exact same.symm
    · exact (only.others m h).driving.symm

end Sys2Proof.Machine
end

section
/-!
PROOFS. HALT (R181): every entry IDLE, every drift record reset.
-/

namespace Sys2Proof.Machine

variable {s t u : State} {l m : Link}

@[simp] theorem State.goIdle_link (s : State) (l m : Link) (keep : Bool) :
    (s.goIdle l keep).link m = s.link m := by simp [State.goIdle]

/-- An entry that goes IDLE keeps an inactive condition inactive: it only clears. -/
theorem State.goIdle_inactive {k : CondKind} {sc : Scope} (h : s.cru.isActive k sc = false) (l : Link)
    (keep : Bool) : (s.goIdle l keep).cru.isActive k sc = false := by
  have left : ((s.setEntry l ((s.entry l).toIdle keep)).leaveState l (s.entry l).state).cru.isActive k sc =
      false := by
    cases (s.entry l).state with
    | coasting => exact Cru.isActive_clear_of_inactive h _ _
    | lost => exact Cru.isActive_clear_of_inactive h _ _
    | quarantined =>
      exact Cru.isActive_clear_of_inactive
        (Cru.isActive_clear_of_inactive (Cru.isActive_clear_of_inactive h _ _) _ _) _ _
    | _ => exact h
  rw [State.goIdle, State.stateNotice_resets (.inr (.inr (.inl rfl)))]
  exact Cru.isActive_clear_of_inactive (Cru.isActive_clear_of_inactive left _ _) _ _

/-- An entry that goes IDLE leaves the condition of COASTING, or of LOST, cleared (R75). -/
theorem State.goIdle_left {k : CondKind} (s : State) (l : Link) (keep : Bool)
    (h : (s.entry l).state = .coasting ∧ k = .rackCoasting ∨ (s.entry l).state = .lost ∧ k = .rackLost) :
    (s.goIdle l keep).cru.isActive k (.link l) = false := by
  have left : ((s.setEntry l ((s.entry l).toIdle keep)).leaveState l (s.entry l).state).cru.isActive k
      (.link l) = false := by
    rcases h with ⟨state, rfl⟩ | ⟨state, rfl⟩ <;> rw [state] <;> exact Cru.isActive_clear_self _ _ _
  rw [State.goIdle, State.stateNotice_resets (.inr (.inr (.inl rfl)))]
  exact Cru.isActive_clear_of_inactive (Cru.isActive_clear_of_inactive left _ _) _ _

theorem State.goIdle_drift (s : State) (l : Link) (keep : Bool) :
    ((s.goIdle l keep).driftOf l).level = .normal ∧ ((s.goIdle l keep).driftOf l).notified = .idle :=
  State.stateNotice_reset_drift (.inr (.inr (.inl rfl))) _ l

theorem State.goIdle_driving (s : State) (l : Link) (keep : Bool) :
    (s.goIdle l keep).cru.isActive .driftWatch (.link l) = false ∧
      (s.goIdle l keep).cru.isActive .driftAlarm (.link l) = false :=
  State.stateNotice_reset_driving (.inr (.inr (.inl rfl))) _ l

theorem SameAt.inactive_driftWatch (h : SameAt l s t)
    (inactive : s.cru.isActive .driftWatch (.link l) = false) :
    t.cru.isActive .driftWatch (.link l) = false :=
  (congrArg Driving.driftWatch h.driving).trans inactive

theorem SameAt.inactive_driftAlarm (h : SameAt l s t)
    (inactive : s.cru.isActive .driftAlarm (.link l) = false) :
    t.cru.isActive .driftAlarm (.link l) = false :=
  (congrArg Driving.driftAlarm h.driving).trans inactive

/-! ### HALT (R181) -/

/-- HALT from SERVING, link by link. -/
theorem State.halt_of_serving (serving : s.mgp.mode = .serving) :
    s.halt = forLinks (fun l st => st.goIdle l true) (s.setMgp { s.mgp with mode := .setup }) := by
  unfold State.halt
  rw [serving]

theorem State.halt_at (serving : s.mgp.mode = .serving) (l : Link) :
    s.halt.link l = s.link l ∧ s.halt.entry l = (s.entry l).toIdle true ∧
      (s.halt.driftOf l).level = .normal ∧ (s.halt.driftOf l).notified = .idle ∧
      s.halt.cru.isActive .driftWatch (.link l) = false ∧
      s.halt.cru.isActive .driftAlarm (.link l) = false := by
  obtain ⟨st, -, before, after⟩ := forLinks_at (f := fun l st => st.goIdle l true)
    (fun m st => OnlyLink.goIdle m st true) (s.setMgp { s.mgp with mode := .setup }) l
  obtain ⟨level, notified⟩ := st.goIdle_drift l true
  obtain ⟨watch, alarm⟩ := st.goIdle_driving l true
  refine ⟨?_, s.halt_entry serving l, ?_, ?_, ?_, ?_⟩ <;> rw [State.halt_of_serving serving]
  · rw [after.link, State.goIdle_link, before.link]
    rfl
  · rw [after.drift, level]
  · rw [after.drift, notified]
  · exact after.inactive_driftWatch watch
  · exact after.inactive_driftAlarm alarm

/-- The RACK condition of the state an entry leaves at HALT is cleared (log entry 37). -/
theorem State.halt_left {k : CondKind} (serving : s.mgp.mode = .serving) (l : Link)
    (h : (s.entry l).state = .coasting ∧ k = .rackCoasting ∨ (s.entry l).state = .lost ∧ k = .rackLost) :
    s.halt.cru.isActive k (.link l) = false := by
  have reached : (s.halt.entry l).state = (s.entry l).state ∨
      s.halt.cru.isActive k (.link l) = false := by
    rw [State.halt_of_serving serving]
    refine forLinks_keeps (P := fun st => (st.entry l).state = (s.entry l).state ∨
      st.cru.isActive k (.link l) = false) (fun m st => ?_) _ (.inl rfl)
    rintro (stays | cleared)
    · by_cases same : m = l
      · subst same
        exact .inr (State.goIdle_left st m true (by rwa [stays]))
      · rw [((OnlyLink.goIdle m st true).others l (Ne.symm same)).entry]
        exact .inl stays
    · exact .inr (State.goIdle_inactive cleared m true)
  refine reached.resolve_left fun stays => ?_
  rw [State.halt_entry serving] at stays
  rcases h with ⟨state, -⟩ | ⟨state, -⟩ <;> rw [state] at stays <;> cases stays

/-- The end of HALT writes flags alone: no entry is in service. -/
theorem State.halt_ended (before s : State) (same : ∀ m, before.cru.driving m = s.cru.driving m) :
    EndedAs s.halt (State.endEvent before s.halt) := by
  refine .of_calm fun m => ?_
  cases mode : s.mgp.mode with
  | setup => rw [State.halt_of_setup mode]; exact .inl (same m)
  | serving =>
    refine .inr fun _ => .inr ?_
    rw [State.inService, State.halt_entry mode]
    rfl

/-- Settles O9: HALT link by link, whose end writes flags alone. -/
theorem haltRequest : Obligations.HaltRequest := by
  intro p tag s accepts
  generalize taken : s.taken p 0x03#8 tag = v
  have answered := State.request_answered accepts 0x03#8 tag (f := haltH [])
    (t := State.endEvent v v.halt) (by rw [taken, haltH, withLength_of_eq _ List.length_nil]; rfl)
  have ended := v.halt_ended v fun _ => rfl
  have link (l : Link) : v.link l = s.link l := by rw [← taken]; simp
  have entry (l : Link) : v.entry l = s.entry l := by rw [← taken]; simp
  have mode : v.mgp.mode = s.mgp.mode := by rw [← taken]; simp
  have same (l : Link) : SameAt l s v := ⟨link l, entry l, by rw [← taken]; simp, by rw [← taken]; simp⟩
  refine ⟨_, congrArg Host.Outcome.next answered, ?_, fun setup l => ?_, fun serving l => ?_⟩
  · exact v.halt_sameCore.trans ended.core
  · rw [State.halt_of_setup (mode.trans setup), State.endEvent_quiet v v fun _ => rfl]
    exact (same l).trans (State.settleCru_sameAt v l)
  · rw [← mode] at serving
    obtain ⟨sameLink, idle, level, notified, watch, alarm⟩ := State.halt_at serving l
    rw [entry] at idle
    have flags := ended.entry l
    rw [idle] at flags
    rw [ended.link, sameLink, ended.driftOf, flags]
    exact ⟨link l, rfl, rfl, rfl, rfl, rfl, rfl, rfl, rfl, level, notified, ended.inactive watch,
      ended.inactive alarm,
      fun coasting => ended.inactive (State.halt_left serving l (.inl ⟨by rw [entry]; exact coasting, rfl⟩)),
      fun lost => ended.inactive (State.halt_left serving l (.inr ⟨by rw [entry]; exact lost, rfl⟩))⟩

end Sys2Proof.Machine
end

section
/-!
PROOFS. RESTART and warm restart (R182): what each block holds after it, and the ABORTED wait-outs.
-/

namespace Sys2Proof.Machine

variable {s t u : State} {l m : Link}

/-! ### Replies of wait-outs leave the rest of a port (R176) -/

/-- A port whose receiver is HUNTING, with nothing held and nothing dropped. -/
structure PortState.Quiet (x : PortState) : Prop where
  receiver : x.receiver = .hunting
  held : x.held = none
  dropped : x.dropped = 0

theorem PortState.Quiet.beginNext {x : PortState} (h : x.Quiet) : x.beginNext.Quiet := by
  unfold PortState.beginNext
  split
  · exact h
  · split
    · exact h
    · exact ⟨h.receiver, by simp [h.held], h.dropped⟩

theorem PortState.Quiet.handReply {x : PortState} (h : x.Quiet) (r : Reply) (room : x.queue.length < 16) :
    (x.handReply r).Quiet := by
  rw [PortState.handReply, if_neg (Nat.not_le.mpr room)]
  exact PortState.Quiet.beginNext ⟨h.receiver, h.held, h.dropped⟩

theorem PortState.Quiet.foldWaits {q : Port} {res : Result} {b : List Byte} {ws : List WaitOut}
    (h : (s.port q).Quiet) (room : (s.port q).queue.length + (waitReplies q res b ws).length ≤ 16) :
    ((ws.foldl (fun st w => st.completeWait w res b) s).port q).Quiet := by
  induction ws generalizing s with
  | nil => exact h
  | cons w ws ih =>
    rw [List.foldl_cons]
    by_cases own : w.port = q
    · subst own
      rw [waitReplies_cons_own rfl, List.length_cons] at room
      have first : (s.port w.port).queue.length < 16 := by omega
      have kept : (s.completeWait w res b).port w.port =
          (s.port w.port).handReply (mkReply 0x43#8 w.tag res b false) := s.handReply_port _ _
      have shorter := (s.port w.port).handReply_queue_length (mkReply 0x43#8 w.tag res b false) first
      exact ih (by rw [kept]; exact h.handReply _ first) (by rw [kept]; omega)
    · rw [waitReplies_cons_other own] at room
      have kept : (s.completeWait w res b).port q = s.port q := s.handReply_port_ne _ _ (Ne.symm own)
      exact ih (by rwa [kept]) (by rwa [kept])

theorem PortState.Quiet.abortWaits {q : Port} (h : (s.port q).Quiet)
    (room : (s.port q).queue.length + s.sdu.share q ≤ 16) : (s.abortWaits.port q).Quiet := by
  have few := s.sdu.waitReplies_le_share (fun _ => true) q .aborted (waitReply 0 0 0 .free)
  rw [State.abortWaits, State.completeWaits]
  exact PortState.Quiet.foldWaits (by simpa using h) (by rw [State.setSdu_port]; omega)

/-! ### Blocks at warm restart (R182) -/

section

variable (s : State) (p : Port)

theorem State.warmBlocks_port (q : Port) :
    (s.warmBlocks p).port q = (s.port q).warm (decide (p ≠ q)) := by cases q <;> rfl

@[simp] theorem State.warmBlocks_driftOf (l : Link) : (s.warmBlocks p).driftOf l = (s.driftOf l).warm := by
  simp [State.driftOf, State.warmBlocks]

theorem State.warmRestart_eq : s.warmRestart p = ((s.warmBlocks p).abortWaits.raise .restarted .part
    { era := some (s.warmBlocks p).abortWaits.tsu.era }).settleCru := rfl

@[simp] theorem State.abortWaits_osc : s.abortWaits.osc = s.osc := State.completeWaits_osc _ _ _ _
@[simp] theorem State.abortWaits_tsu : s.abortWaits.tsu = s.tsu := State.completeWaits_tsu _ _ _ _
@[simp] theorem State.abortWaits_rdu : s.abortWaits.rdu = s.rdu := State.completeWaits_rdu _ _ _ _
@[simp] theorem State.abortWaits_epg : s.abortWaits.epg = s.epg := State.completeWaits_epg _ _ _ _
@[simp] theorem State.abortWaits_cru : s.abortWaits.cru = s.cru := State.completeWaits_cru _ _ _ _
@[simp] theorem State.abortWaits_sdu : s.abortWaits.sdu = { s.sdu with waitOuts := [] } := by
  simp [State.abortWaits]

end

/-- What each block is after a warm restart, but the conditions and the ports. -/
structure WarmBlocks (s t : State) : Prop where
  osc : t.osc = s.osc
  tsu : t.tsu = s.tsu
  rtmEra : t.rtmEra = s.rtmEra
  rdu : t.rdu = s.rdu.warm s.osc
  epg : t.epg = s.epg.timescaleChanged s.rdu.tsState.warm
  link : ∀ l, t.link l = (s.link l).warm s.osc
  entry : ∀ l, t.entry l = (s.entry l).warm
  drift : ∀ l, t.driftOf l = (s.driftOf l).warm
  sdu : t.sdu = { s.sdu.warm with waitOuts := [] }
  mode : t.mgp.mode = .setup
  restartPending : t.mgp.restartPending = false
  domainId : t.mgp.domainId = s.mgp.domainId
  domainInstance : t.mgp.domainInstance = s.mgp.domainInstance
  lineRate : t.mgp.lineRate = s.mgp.lineRate

theorem State.warmRestart_blocks (s : State) (p : Port) : WarmBlocks s (s.warmRestart p) := by
  have waits : ClockOnly (s.warmBlocks p) (s.warmBlocks p).abortWaits := ClockOnly.completeWaits _ _ _ _
  have clock : ClockOnly (s.warmBlocks p) (s.warmRestart p) :=
    (waits.trans (.raise _ _ _ part_ne_link)).trans (.settleCru _)
  refine ⟨clock.osc, ?_, clock.rtmEra, ?_, ?_, fun l => ?_, fun l => ?_, fun l => ?_, ?_,
    clock.settings.mode, clock.settings.restartPending, clock.settings.domainId,
    clock.settings.domainInstance, clock.settings.lineRate⟩
  · rw [State.warmRestart_eq]; simp; rfl
  · rw [State.warmRestart_eq]; simp; rfl
  · rw [State.warmRestart_eq]; simp; rfl
  · rw [(clock.sameAt l).link, State.link_warmBlocks]
  · rw [(clock.sameAt l).entry, State.entry_warmBlocks]
  · rw [(clock.sameAt l).drift, State.warmBlocks_driftOf]
  · rw [State.warmRestart_eq]
    simp only [State.settleCru_sdu, State.raise_sdu, State.abortWaits_sdu]
    rfl

/-- The record of RESTARTED (R173). -/
def Cru.restartedRecord (c : Cru) (era : Nat) (now : Reading) : CondRecord :=
  c.newRecord .restarted .part { era := some era } now false

theorem Cru.post_restarted (c : Cru) (era : Nat) (now : Reading) :
    c.warm.post .restarted .part { era := some era } now false =
      { c.warm with list := [c.warm.restartedRecord era now] } := rfl

theorem State.raise_restarted {c : Cru} (h : s.cru = c.warm) (era : Nat) :
    (s.raise .restarted .part { era := some era }).cru =
      { c.warm with list := [c.warm.restartedRecord era s.readNow] } := by
  have recorded : s.cru.records? .restarted = true := rfl
  rw [State.raise, State.raiseWith, if_pos recorded, State.setCru_cru]
  rw [h]
  exact Cru.post_restarted c era s.readNow

/-- The conditions after a warm restart: the RESTARTED record alone (R173). -/
theorem State.warmRestart_cru (s : State) (p : Port) : ∃ now, (s.warmRestart p).cru =
    ({ s.cru.warm with list := [s.cru.warm.restartedRecord s.tsu.era now] } : Cru).driveAttention := by
  have cru : (s.warmBlocks p).abortWaits.cru = s.cru.warm := State.abortWaits_cru _
  have tsu : (s.warmBlocks p).abortWaits.tsu = s.tsu := State.abortWaits_tsu _
  refine ⟨(s.warmBlocks p).abortWaits.readNow, ?_⟩
  rw [State.warmRestart_eq, State.settleCru, State.setCru_cru, State.raise_restarted cru, tsu]
  rfl

/-- A line with a record of RESTARTED is low (R165): the kind is exigent. -/
theorem Cru.attention_restarted (c : Cru) (era : Nat) (now : Reading) (q : Port) :
    ({ c.warm with list := [c.warm.restartedRecord era now] } : Cru).attention q = .low := by
  cases q <;> rfl

/-! ### References at warm restart (R41) -/

theorem State.warmRestart_ref (h : WarmBlocks s t) (r : RefId) : t.ref r = (s.ref r).warm := by
  cases r <;> simp [State.ref, h.rdu, Rdu.warm]

theorem Reference.warm_keeps (x : Reference) : x.warm.enable = x.enable ∧ x.warm.priority = x.priority ∧
    (x.state ≠ .off → x.warm.state = .waiting ∧ x.warm.previousMark = none ∧ x.warm.heldLabel = none ∧
      x.warm.missingDeadline = none) := by
  unfold Reference.warm
  split
  · next off => exact ⟨rfl, rfl, fun on => absurd off on⟩
  · exact ⟨rfl, rfl, fun _ => ⟨rfl, rfl, rfl, rfl⟩⟩

theorem LinkRecord.warm_is (r : LinkRecord) (now : Nat) : (r.warm now).enable = r.enable ∧
    (r.warm now).state = (if r.enable then .down else .disabled) ∧ (r.warm now).txQueue = [] ∧
    (r.warm now).inTx = none ∧ (r.warm now).errorTimes = [] ∧ (r.warm now).errorFlag = false := by
  unfold LinkRecord.warm
  cases r.enable <;> exact ⟨rfl, rfl, rfl, rfl, rfl, rfl⟩

theorem DriftRecord.warm_is (d : DriftRecord) : d.warm.level = .normal ∧ d.warm.notified = .idle := ⟨rfl, rfl⟩

/-- The reply of a wait-out ended by a warm restart (R157): every field is 0. -/
theorem mkReply_aborted (tag : Byte) : mkReply 0x43#8 tag .aborted (waitReply 0 0 0 .free) false =
    { kind := 0xC3#8, tag := tag, body := 11#8 :: List.replicate 15 0#8, endsHold := false } := rfl

theorem State.warmRestart_port (s : State) (p q : Port) :
    (s.warmRestart p).port q = (s.warmBlocks p).abortWaits.port q := by
  rw [State.warmRestart_eq, State.settleCru_port, State.raise_port]

theorem PortState.warm_quiet (x : PortState) (keep : Bool) : (x.warm keep).Quiet := ⟨rfl, rfl, rfl⟩

theorem PortState.warm_replies (x : PortState) (keep : Bool) :
    (x.warm keep).replies = if keep then x.inTx.toList else [] := by
  cases keep <;> simp [PortState.replies, PortState.warm]

theorem exec_warmRestart {p : Port} (h : s.restartPort = some p) : exec .warmRestart s = .next (s.warmRestart p) := by
  refine congrArg Host.Outcome.next ?_
  rw [h]

/-- Settles O11. -/
theorem warmRestartTaken : Obligations.WarmRestartTaken := by
  refine ⟨fun p tag s accepts => ?_, fun s p port => ⟨_, exec_warmRestart port, ?_⟩,
    fun s p port fits => ⟨_, exec_warmRestart port, fun q => ?_⟩⟩
  · exact congrArg Host.Outcome.next (State.request_answered accepts _ _
      (by rw [restartH, withLength_of_eq _ List.length_nil]; rfl))
  · have w := s.warmRestart_blocks p
    obtain ⟨now, cru⟩ := s.warmRestart_cru p
    have refs := State.warmRestart_ref w
    rw [w.rdu, w.epg, w.sdu, cru]
    refine ⟨w.osc, w.tsu, w.rtmEra, Epg.timescaleChanged_follows _ _, w.mode, w.restartPending, w.domainId,
      w.domainInstance, w.lineRate, rfl, rfl, rfl, rfl, rfl, rfl, fun locked => ?_, fun r => ?_, fun l => ?_,
      rfl, rfl, rfl, rfl, rfl, rfl, ⟨_, rfl, rfl, rfl⟩, rfl, rfl, rfl, rfl, rfl,
      Cru.attention_restarted s.cru s.tsu.era now .a, Cru.attention_restarted s.cru s.tsu.era now .b⟩
    · simp [Rdu.warm, Rdu.warmStart, locked]
    · rw [refs]
      exact (s.ref r).warm_keeps
    · obtain ⟨enable, state, queue, inTx, times, flag⟩ := (s.link l).warm_is s.osc
      rw [w.link, w.entry, w.drift]
      exact ⟨enable, state, queue, inTx, times, flag, rfl, rfl, rfl, rfl, rfl, rfl, rfl⟩
  · have share : s.sdu.share q ≤ 16 := by
      obtain ⟨-, a, b⟩ := fits
      cases q <;> omega
    have port := s.warmBlocks_port p q
    have room : ((s.warmBlocks p).port q).queue.length + (s.warmBlocks p).sdu.share q ≤ 16 := by
      rw [port]
      exact (Nat.zero_add _).trans_le share
    have quiet : ((s.warmBlocks p).port q).Quiet := by rw [port]; exact PortState.warm_quiet _ _
    obtain ⟨receiver, held, dropped⟩ := quiet.abortWaits room
    have replies := (s.warmBlocks p).completeWaits_replies (fun _ => true) .aborted (waitReply 0 0 0 .free) room
    rw [State.warmRestart_port]
    refine ⟨receiver, held, dropped, replies.trans ?_⟩
    rw [port, PortState.warm_replies, List.filter_true, waitReplies]
    simp only [mkReply_aborted]
    by_cases own : p = q
    · subst own; simp; rfl
    · simp [own, Ne.symm own]; rfl

end Sys2Proof.Machine
end

section
/-!
PROOFS. A HELLO judged (R77 to R79): quarantine and attachment with room in the transmit queue.
-/

namespace Sys2Proof.Machine

variable {s t u : State} {l m : Link}

/-! ### What stays active -/

theorem State.raise_isActive_ne (s : State) {k k' : CondKind} (ne : k' ≠ k) (sc : Scope) (d : Details)
    (f : Bool) (m : Link) :
    (s.raiseWith k sc d f).cru.isActive k' (.link m) = s.cru.isActive k' (.link m) := by
  rw [State.raiseWith_isActive]
  split
  · exact Cru.isActive_activate_kind ne _ _
  · rfl

/-- The clears of the state left leave LINK_ERROR_RATE. -/
theorem State.leaveState_errorRate (s : State) (l : Link) (x : RackState) (sc : Scope) :
    (s.leaveState l x).cru.isActive .linkErrorRate sc = s.cru.isActive .linkErrorRate sc := by
  have keeps (c : Cru) {k : CondKind} (ne : CondKind.linkErrorRate ≠ k) (sc' : Scope) :
      (c.clear k sc').isActive .linkErrorRate sc = c.isActive .linkErrorRate sc :=
    Cru.isActive_clear_kind ne sc' sc
  cases x with
  | coasting => exact keeps _ (by decide) _
  | lost => exact keeps _ (by decide) _
  | quarantined =>
    exact (keeps _ (by decide) _).trans ((keeps _ (by decide) _).trans (keeps _ (by decide) _))
  | _ => rfl

/-- A state notice leaves LINK_ERROR_RATE. -/
theorem State.stateNotice_errorRate (s : State) (l : Link) (x : RackState) (sc : Scope) :
    (s.stateNotice l x).cru.isActive .linkErrorRate sc = s.cru.isActive .linkErrorRate sc := by
  have resets (v : State) : (v.resetDrift l).cru.isActive .linkErrorRate sc =
      v.cru.isActive .linkErrorRate sc :=
    (Cru.isActive_clear_kind (by decide) _ sc).trans (Cru.isActive_clear_kind (by decide) _ sc)
  cases x with
  | tracking => rfl
  | coasting => rfl
  | acquiring => rfl
  | _ => exact resets _

/-! ### Quarantine (R79) -/

section

variable (s : State) (l : Link) (claimed : Option Nat) (q : QReason)

/-- A quarantine after its DISMISS is handed: conditions and notice alone. -/
def State.dismissed (s : State) (l : Link) (claimed : Option Nat) (q : QReason) : State :=
  (s.setEntry l ((s.entry l).toQuarantine claimed q)).handDismiss l q

theorem State.quarantine_entry_of (m : Link) :
    (s.quarantine l claimed q).entry m = (s.dismissed l claimed q).entry m := by
  unfold State.quarantine
  dsimp only
  cases q.kind <;> simp [State.dismissed]

theorem State.quarantine_link_of (m : Link) :
    (s.quarantine l claimed q).link m = (s.dismissed l claimed q).link m := by
  unfold State.quarantine
  dsimp only
  cases q.kind <;> simp [State.dismissed]

variable {s l}

theorem State.dismissed_room (up : (s.link l).state = .up) (room : (s.link l).txQueue.length < 32) :
    s.dismissed l claimed q = (s.setEntry l ((s.entry l).toQuarantine claimed q)).setLink l
      { s.link l with txQueue := (s.link l).txQueue ++ [.dismiss q] } :=
  State.handFrame_room (s := s.setEntry l ((s.entry l).toQuarantine claimed q)) up room _

/-- A quarantine with room: the entry QUARANTINED and a DISMISS behind the frames of the link. -/
theorem State.quarantine_room (up : (s.link l).state = .up) (room : (s.link l).txQueue.length < 32) :
    (s.quarantine l claimed q).entry l = (s.entry l).toQuarantine claimed q ∧
      (s.quarantine l claimed q).link l =
        { s.link l with txQueue := (s.link l).txQueue ++ [.dismiss q] } := by
  rw [State.quarantine_entry_of, State.quarantine_link_of, State.dismissed_room claimed q up room]
  simp

/-- A quarantined entry is out of service, so no ISOLATE takes it out of service. -/
theorem NoNewIsolate.of_state (h : (s.entry l).state.inService = false) : NoNewIsolate s l :=
  fun _ => .inr h

end

/-! ### Probes (R82) -/

theorem State.probeCanGo_iff : s.probeCanGo l = true ↔ s.inService l = true ∧ (s.link l).state = .up ∧
    (s.entry l).probe = none ∧ s.mgp.mode = .serving ∧
    ∃ d, (s.entry l).nextProbeDue = some d ∧ d ≤ s.osc := by
  unfold State.probeCanGo State.isUp
  cases due : (s.entry l).nextProbeDue <;> simp [due, and_assoc]

theorem State.setLink_setEntry_comm (s : State) (l m : Link) (r : LinkRecord) (e : RackEntry) :
    (s.setLink l r).setEntry m e = (s.setEntry m e).setLink l r := rfl

/-- A PROBE handed with room in the queue (R82). -/
theorem State.handProbe_room (up : (s.link l).state = .up) (room : (s.link l).txQueue.length < 32) :
    s.handProbe l = (s.setEntry l ((s.entry l).openProbe s.osc)).setLink l
      { s.link l with txQueue := (s.link l).txQueue ++ [.probe (s.entry l).nextExchange] } := by
  rw [State.handProbe, State.handFrame_room (by simpa using up) (by simpa using room)]
  simp

/-- A WELCOME handed with room in the queue (R81). -/
theorem State.handWelcome_room (up : (s.link l).state = .up) (room : (s.link l).txQueue.length < 32) :
    s.handWelcome l = s.setLink l { s.link l with txQueue := (s.link l).txQueue ++
      [.welcome s.mgp.domainId s.mgp.domainInstance s.tsu.era (s.entry l).trimGeneration] } :=
  State.handFrame_room up room _

/-! ### Attachment (R78) -/

/-- An entry as attached, its first PROBE handed (R78, R82). -/
def RackEntry.attachProbed (e : RackEntry) (h : Hello) (now : Nat) : RackEntry :=
  (e.attach h now).openProbe now

/-- The frames of an attachment (R78, R81). -/
def State.attachFrames (s : State) (h : Hello) : List TxFrame :=
  [.welcome s.mgp.domainId s.mgp.domainInstance s.tsu.era h.generation.toNat, .probe 0]

/-- An attachment up to its frames. -/
def State.enrolled (s : State) (l : Link) (h : Hello) : State :=
  ((s.setEntry l ((s.entry l).attach h s.osc)).handWelcome l).firstProbe l (s.queueFull l)

section

variable (s : State) (l : Link) (h : Hello)

/-- What follows the frames of an attachment. -/
def State.attachReported (s : State) (l : Link) (old : RackState) (id : Nat) : State :=
  ((s.leaveState l old).raise .rackAttached (.link l)
    { oldState := some old.code, newState := some RackState.attaching.code,
      era := some (s.leaveState l old).tsu.era, count := some id }).stateNotice l .attaching

theorem State.attach_eq : s.attach l h =
    (s.enrolled l h).attachReported l (s.entry l).state h.identity.toNat := rfl

theorem State.attachReported_entry (old : RackState) (id : Nat) (m : Link) :
    (s.attachReported l old id).entry m = s.entry m := by simp [State.attachReported]

theorem State.attachReported_link (old : RackState) (id : Nat) (m : Link) :
    (s.attachReported l old id).link m = s.link m := by simp [State.attachReported]

theorem State.attachReported_driving (old : RackState) (id : Nat) :
    (s.attachReported l old id).cru.isActive .driftWatch (.link l) = false ∧
      (s.attachReported l old id).cru.isActive .driftAlarm (.link l) = false ∧
      (s.attachReported l old id).cru.isActive .linkErrorRate (.link l) =
        s.cru.isActive .linkErrorRate (.link l) := by
  obtain ⟨watch, alarm⟩ := State.stateNotice_reset_driving (.inl rfl) ((s.leaveState l old).raise .rackAttached
    (.link l) { oldState := some old.code, newState := some RackState.attaching.code,
                era := some (s.leaveState l old).tsu.era, count := some id }) l
  refine ⟨watch, alarm, ?_⟩
  rw [State.attachReported, State.stateNotice_errorRate, State.raise,
    State.raise_isActive_ne _ (by decide), State.leaveState_errorRate]

variable {s l}

theorem State.enrolled_room (up : (s.link l).state = .up) (room : (s.link l).txQueue.length ≤ 30)
    (serving : s.mgp.mode = .serving) : s.enrolled l h =
      (s.setEntry l ((s.entry l).attachProbed h s.osc)).setLink l
        { s.link l with txQueue := (s.link l).txQueue ++ s.attachFrames h } := by
  have empty : s.queueFull l = false := decide_eq_false (by omega)
  generalize e' : (s.entry l).attach h s.osc = e
  have welcomed := State.handWelcome_room (s := s.setEntry l e) (l := l) (by simpa using up) (by simp; omega)
  generalize v' : (s.setEntry l e).handWelcome l = v at welcomed
  have can : v.probeCanGo l = true := by
    rw [State.probeCanGo_iff, welcomed]
    subst e
    simp [RackEntry.attach, RackState.inService, State.inService, up, serving]
  have probed := State.handProbe_room (s := v) (l := l) (by simpa [welcomed] using up)
    (by simp [welcomed]; omega)
  rw [State.enrolled, e', v', empty, State.firstProbe, if_pos can]
  refine probed.trans ?_
  rw [welcomed]
  subst e
  simp [RackEntry.attachProbed, State.attachFrames, RackEntry.attach, State.setLink_setEntry_comm]

/-- An attachment with room: the entry ATTACHING with its first probe in flight, and a WELCOME and a PROBE
behind the frames of the link. -/
theorem State.attach_room (up : (s.link l).state = .up) (room : (s.link l).txQueue.length ≤ 30)
    (serving : s.mgp.mode = .serving) :
    (s.attach l h).entry l = (s.entry l).attachProbed h s.osc ∧
      (s.attach l h).link l = { s.link l with txQueue := (s.link l).txQueue ++ s.attachFrames h } := by
  rw [State.attach_eq, State.attachReported_entry, State.attachReported_link,
    State.enrolled_room h up room serving]
  simp

end

end Sys2Proof.Machine
end

section
/-!
PROOFS. Link errors (R65, R66): the error times a list keeps, what a link error moves, and frames handed
over a full transmit queue (R60).
-/

namespace Sys2Proof.Machine

variable {s t u : State} {l m : Link}

/-! ### Error times (R65) -/

/-- The 16 newest of a list of error times. -/
def newestErrors (ts : List Nat) : List Nat := ts.drop (ts.length - 16)

theorem newestErrors_of_length_le {ts : List Nat} (h : ts.length ≤ 16) : newestErrors ts = ts := by
  rw [newestErrors, Nat.sub_eq_zero_of_le h, List.drop_zero]

theorem appendErrorTime_newestErrors (ts : List Nat) (o : Nat) :
    appendErrorTime (newestErrors ts) o = newestErrors (ts ++ [o]) := by
  have length : (newestErrors ts).length = ts.length - (ts.length - 16) := List.length_drop
  unfold appendErrorTime
  split
  · next full =>
    rw [newestErrors, newestErrors, List.drop_drop, List.length_append, List.length_singleton,
      List.drop_append_of_le_length (by omega)]
    congr 2
    omega
  · next room =>
    rw [newestErrors_of_length_le (ts := ts) (by omega),
      newestErrors_of_length_le (by rw [List.length_append, List.length_singleton]; omega)]

theorem appendErrorTime_eq {ts : List Nat} (h : ts.length ≤ 16) (o : Nat) :
    appendErrorTime ts o = newestErrors (ts ++ [o]) := by
  rw [← appendErrorTime_newestErrors, newestErrors_of_length_le h]

/-! ### A link error (R65, R66) -/

/-- A link record as a link error leaves it. -/
def LinkRecord.withError (r : LinkRecord) (now : Nat) : LinkRecord :=
  let ts := appendErrorTime r.errorTimes now
  let flag := r.errorFlag || errorRateTest ts r.n r.w now
  { r with errorTimes := ts, errorFlag := flag,
           clearInstant := if flag then some (now + r.w * second) else r.clearInstant }

theorem errorRateTest_iff (ts : List Nat) (n w o : Nat) :
    errorRateTest ts n w o = true ↔ ∃ x, ts.reverse[n - 1]? = some x ∧ o ≤ x + w * 1000000000 := by
  unfold errorRateTest
  cases ts.reverse[n - 1]? <;> simp [second]

section

variable (s : State) (l m : Link)

theorem State.linkError_link_same : (s.linkError l).link l = (s.link l).withError s.osc := by
  unfold State.linkError
  dsimp only
  split
  · rw [State.raise, State.raiseWith_link, State.link_setLink_same]; rfl
  · rw [State.link_setLink_same]; rfl

@[simp] theorem State.linkError_entry : (s.linkError l).entry m = s.entry m := by
  unfold State.linkError; dsimp only; split <;> simp

@[simp] theorem State.linkError_osc : (s.linkError l).osc = s.osc := by
  unfold State.linkError; dsimp only; split <;> simp

@[simp] theorem State.linkError_mgp : (s.linkError l).mgp = s.mgp := by
  unfold State.linkError; dsimp only; split <;> simp

@[simp] theorem State.linkError_inService : (s.linkError l).inService m = s.inService m := by
  simp [State.inService]

@[simp] theorem State.linkError_state : ((s.linkError l).link l).state = (s.link l).state := by
  rw [State.linkError_link_same]; rfl

@[simp] theorem State.linkError_txQueue : ((s.linkError l).link l).txQueue = (s.link l).txQueue := by
  rw [State.linkError_link_same]; rfl

@[simp] theorem State.linkError_errorTimes : ((s.linkError l).link l).errorTimes =
    appendErrorTime (s.link l).errorTimes s.osc := by
  rw [State.linkError_link_same]; rfl

end

/-! ### Frames over a full queue (R60) -/

/-- A WELCOME over a full queue is a link error alone (R60, R81). -/
theorem State.handWelcome_full (up : (s.link l).state = .up) (full : 32 ≤ (s.link l).txQueue.length) :
    s.handWelcome l = s.linkError l :=
  State.handFrame_full up full _

theorem RackEntry.openProbe_withdrawn (e : RackEntry) (now : Nat) :
    (e.openProbe now).probeWithdrawn e.nextExchange = { e.openProbe now with probe := none } := if_pos rfl

/-- A PROBE over a full queue is removed again, a link error with it (R60, R83). -/
theorem State.handProbe_full (up : (s.link l).state = .up) (full : 32 ≤ (s.link l).txQueue.length) :
    s.handProbe l = (s.setEntry l { (s.entry l).openProbe s.osc with probe := none }).linkError l := by
  rw [State.handProbe, State.handFrame_full (by simpa using up) (by simpa using full), State.withdrawn,
    State.entry_setEntry_same, RackEntry.openProbe_withdrawn, State.setEntry_setEntry]

end Sys2Proof.Machine
end

section
/-!
PROOFS. A HELLO on an UP link (R76 to R79): held, dismissed, quarantined by the first check that fails,
or attached, over a full transmit queue too (R81).
-/

namespace Sys2Proof.Machine

variable {s t u : State} {l m : Link} {h : Hello} {q : QReason}

/-! ### The four checks (R77) -/

/-- Another entry in service holds the identity of a HELLO (check 3 of R77). -/
def State.HeldElsewhere (s : State) (l : Link) (h : Hello) : Prop :=
  ∃ m, m ≠ l ∧ s.inService m = true ∧ (s.entry m).identity = some h.identity.toNat

theorem State.heldElsewhere_iff : (allLinks.any fun m => decide (m ≠ l) && s.inService m &&
    decide ((s.entry m).identity = some h.identity.toNat)) = true ↔ s.HeldElsewhere l h := by
  rw [List.any_eq_true]
  refine exists_congr fun m => ?_
  rw [Bool.and_eq_true, Bool.and_eq_true, decide_eq_true_eq, decide_eq_true_eq, and_assoc]
  exact and_iff_right (List.mem_finRange m)

theorem State.helloFailure_eq_some :
    s.helloFailure l h = some q ↔ FirstFailure s l h (s.HeldElsewhere l h) q := by
  unfold State.helloFailure FirstFailure
  dsimp only
  split_ifs with twin stray held isolated
  · have twin : TwinHello s h := twin
    simpa [twin] using eq_comm
  · have twin : ¬ TwinHello s h := twin
    have stray : StrayHello s l h := stray
    simpa [twin, stray] using eq_comm
  · have twin : ¬ TwinHello s h := twin
    have stray : ¬ StrayHello s l h := stray
    simpa [twin, stray, State.heldElsewhere_iff.mp held] using eq_comm
  · have twin : ¬ TwinHello s h := twin
    have stray : ¬ StrayHello s l h := stray
    simpa [twin, stray, mt State.heldElsewhere_iff.mpr held, isolated] using eq_comm
  · have twin : ¬ TwinHello s h := twin
    have stray : ¬ StrayHello s l h := stray
    simp [twin, stray, mt State.heldElsewhere_iff.mpr held, isolated]

theorem State.helloFailure_eq_none : s.helloFailure l h = none ↔
    ¬ TwinHello s h ∧ ¬ StrayHello s l h ∧ ¬ s.HeldElsewhere l h ∧ (s.entry l).isolate = false := by
  unfold State.helloFailure
  dsimp only
  split_ifs with twin stray held isolated
  · exact iff_of_false nofun fun free => free.1 twin
  · exact iff_of_false nofun fun free => free.2.1 stray
  · exact iff_of_false nofun fun free => free.2.2.1 (State.heldElsewhere_iff.mp held)
  · exact iff_of_false nofun fun free => Bool.false_ne_true (free.2.2.2.symm.trans isolated)
  · exact iff_of_true rfl ⟨twin, stray, mt State.heldElsewhere_iff.mpr held, eq_false_of_ne_true isolated⟩

/-! ### A HELLO delivered (R76) -/

/-- The state in which a HELLO taken on an UP link is judged: the check-failure run restarts (R64) and the
HELLO is held (R76). -/
def State.helloHeld (s : State) (l : Link) (h : Hello) : State :=
  (s.setLink l { s.link l with checkRun := 0 }).setEntry l { s.entry l with heldHello := some h }

/-- A HELLO taken on an UP link, up to the end of its event. -/
def State.helloTaken (s : State) (l : Link) (h : Hello) : State :=
  (s.setLink l { s.link l with checkRun := 0 }).takeHello l h

/-- The DISMISS of an entry QUARANTINED for a reason (R76). -/
def State.dismissAgain (s : State) (l : Link) (reason : Option QReason) : State :=
  match reason with
  | some q => s.handDismiss l q
  | none => s

section

variable (s : State) (l : Link) (h : Hello)

@[simp] theorem State.helloHeld_link :
    (s.helloHeld l h).link l = { s.link l with checkRun := 0 } := by simp [State.helloHeld]

@[simp] theorem State.helloHeld_entry :
    (s.helloHeld l h).entry l = { s.entry l with heldHello := some h } := by simp [State.helloHeld]

@[simp] theorem State.helloHeld_entry_ne (ne : m ≠ l) : (s.helloHeld l h).entry m = s.entry m := by
  rw [State.helloHeld, State.entry_setEntry_ne _ _ _ _ ne, State.setLink_entry]

@[simp] theorem State.helloHeld_osc : (s.helloHeld l h).osc = s.osc := rfl
@[simp] theorem State.helloHeld_mgp : (s.helloHeld l h).mgp = s.mgp := rfl
@[simp] theorem State.helloHeld_tsu : (s.helloHeld l h).tsu = s.tsu := rfl
@[simp] theorem State.helloHeld_cru : (s.helloHeld l h).cru = s.cru := rfl

theorem State.helloHeld_elsewhere : (s.helloHeld l h).HeldElsewhere l h ↔ s.HeldElsewhere l h := by
  refine exists_congr fun m => and_congr_right fun ne => ?_
  rw [State.inService, State.inService, State.helloHeld_entry_ne s l h ne]

theorem State.helloHeld_failure :
    (s.helloHeld l h).helloFailure l h = some q ↔ FirstFailure s l h (s.HeldElsewhere l h) q := by
  rw [State.helloFailure_eq_some, FirstFailure, State.helloHeld_elsewhere]
  simp [FirstFailure, TwinHello, StrayHello]

theorem State.helloHeld_free : (s.helloHeld l h).helloFailure l h = none ↔
    ¬ TwinHello s h ∧ ¬ StrayHello s l h ∧ ¬ s.HeldElsewhere l h ∧ (s.entry l).isolate = false := by
  rw [State.helloFailure_eq_none, State.helloHeld_elsewhere]
  simp [TwinHello, StrayHello]

variable {s l} (up : (s.link l).state = .up)
include up

theorem exec_hello : exec (.hello l h) s =
    .next (State.endEvent s (s.helloTaken l h)) := by
  have good : s.goodFrame l (fun t => t.takeHello l h) =
      s.helloTaken l h := if_pos (decide_eq_true up)
  exact congrArg (fun x => Host.Outcome.next (State.endEvent s x)) good

omit up

theorem State.takeHello_setup (setup : s.mgp.mode = .setup) :
    s.helloTaken l h = s.helloHeld l h := by
  unfold State.helloTaken State.takeHello
  dsimp only
  split
  · rfl
  · next serving => exact absurd (setup.symm.trans serving) nofun

theorem State.takeHello_dismiss (serving : s.mgp.mode = .serving)
    (quarantined : (s.entry l).state = .quarantined) :
    s.helloTaken l h =
      (s.helloHeld l h).dismissAgain l (s.entry l).quarantineReason := by
  have reason : ((s.helloHeld l h).entry l).quarantineReason = (s.entry l).quarantineReason := by simp
  rw [← reason]
  have quarantined : ((s.helloHeld l h).entry l).state = .quarantined := by simpa using quarantined
  unfold State.helloTaken State.takeHello
  dsimp only
  split
  · next setup => exact absurd (serving.symm.trans setup) nofun
  · split
    · rfl
    · next free => exact absurd quarantined free

theorem State.takeHello_judge (serving : s.mgp.mode = .serving) (free : (s.entry l).state ≠ .quarantined) :
    s.helloTaken l h = (s.helloHeld l h).judgeHello l h := by
  have free : ((s.helloHeld l h).entry l).state ≠ .quarantined := by simpa using free
  unfold State.helloTaken State.takeHello
  dsimp only
  split
  · next setup => exact absurd (serving.symm.trans setup) nofun
  · split
    · next quarantined => exact absurd quarantined free
    · rfl

end

theorem State.judgeHello_failed (failed : s.helloFailure l h = some q) :
    s.judgeHello l h = s.quarantine l (some h.identity.toNat) q := by
  rw [State.judgeHello, failed]

theorem State.judgeHello_free (free : s.helloFailure l h = none) : s.judgeHello l h = s.attach l h := by
  rw [State.judgeHello, free]

/-! ### What a HELLO leaves -/

theorem State.helloTaken_only (s : State) (l : Link) (h : Hello) : OnlyLink l s (s.helloTaken l h) :=
  (OnlyLink.setLink l s _).trans (.takeHello l _ h)

theorem Acts.helloTaken (s : State) (l : Link) (h : Hello) : Acts linkLeave s (s.helloTaken l h) := by
  refine Acts.trans ?_ (Acts.takeHello l _ trivial h)
  exact .setLink s l _ fun fits => ⟨fits.1, fits.2.1, Nat.zero_le _⟩

theorem State.dismissAgain_room (up : (s.link l).state = .up) (room : (s.link l).txQueue.length < 32)
    (q : QReason) : s.dismissAgain l (some q) =
      s.setLink l { s.link l with txQueue := (s.link l).txQueue ++ [.dismiss q] } :=
  State.handFrame_room up room _

/-- With neither drift condition active, a link isolates no more than its error rate did before. -/
theorem Driving.isolate_eased {d d' : Driving} (actions : d'.actions = d.actions)
    (watch : d'.driftWatch = false) (alarm : d'.driftAlarm = false) (errors : d'.errorRate = d.errorRate)
    (clear : d.isolate = false) : d'.isolate = false := by
  simp only [Driving.isolate, Bool.or_eq_false_iff] at clear
  obtain ⟨-, rate⟩ := clear
  simp only [Driving.isolate, watch, alarm, errors, actions, Bool.false_and, Bool.or_self]
  exact rate

/-- An attachment isolates no link that its error rate does not isolate. -/
theorem State.attach_not_isolate (h : Hello) (up : (s.link l).state = .up)
    (room : (s.link l).txQueue.length ≤ 30) (serving : s.mgp.mode = .serving)
    (passed : s.helloFailure l h = none) (clear : (s.cru.driving l).isolate = false) : ((s.attach l h).cru.driving l).isolate = false := by
  have actions : (s.attach l h).cru.actions = s.cru.actions :=
    (Acts.attach (p := linkLeave) l s trivial h passed serving).actions fun both => both.2
  obtain ⟨watch, alarm, errors⟩ := State.attachReported_driving (s.enrolled l h) l (s.entry l).state
    h.identity.toNat
  refine Driving.isolate_eased (congrArg (·[groupIndex l]) actions) watch alarm (errors.trans ?_) clear
  rw [State.enrolled_room h up room serving]
  rfl

section

variable (up : (s.link l).state = .up) (room : (s.link l).txQueue.length ≤ 30)
include up room

theorem State.helloTaken_failed (serving : s.mgp.mode = .serving)
    (free : (s.entry l).state ≠ .quarantined) (failed : FirstFailure s l h (s.HeldElsewhere l h) q) :
    (s.helloTaken l h).entry l =
        RackEntry.toQuarantine { s.entry l with heldHello := some h } (some h.identity.toNat) q ∧
      (s.helloTaken l h).link l =
        { s.link l with checkRun := 0, txQueue := (s.link l).txQueue ++ [.dismiss q] } := by
  rw [State.takeHello_judge _ serving free, State.judgeHello_failed ((State.helloHeld_failure s l h).mpr failed)]
  have quarantined := State.quarantine_room (s := s.helloHeld l h) (l := l) (some h.identity.toNat) q
    (by simpa using up) (by simp; omega)
  simpa using quarantined

theorem State.helloTaken_attached (serving : s.mgp.mode = .serving)
    (free : (s.entry l).state ≠ .quarantined) (passed : (s.helloHeld l h).helloFailure l h = none) :
    (s.helloTaken l h).entry l =
        RackEntry.attachProbed { s.entry l with heldHello := some h } h s.osc ∧
      (s.helloTaken l h).link l =
        { s.link l with checkRun := 0, txQueue := (s.link l).txQueue ++ s.attachFrames h } := by
  rw [State.takeHello_judge _ serving free, State.judgeHello_free passed]
  have attached := State.attach_room (s := s.helloHeld l h) (l := l) h
    (by simpa using up) (by simpa using room) serving
  simpa [State.attachFrames] using attached

/-- An attachment isolates no link whose flags are clear. -/
theorem State.helloTaken_attached_calm (serving : s.mgp.mode = .serving) (flags : FlagsMatch s l)
    (free : (s.entry l).state ≠ .quarantined) (passed : (s.helloHeld l h).helloFailure l h = none) :
    NoNewIsolate (s.helloTaken l h) l := by
  have clear : (s.entry l).isolate = false := ((State.helloHeld_free s l h).mp passed).2.2.2
  intro set
  refine absurd set (ne_true_of_eq_false ?_)
  rw [State.takeHello_judge _ serving free, State.judgeHello_free passed]
  exact State.attach_not_isolate (s := s.helloHeld l h) h (by simpa using up) (by simpa using room) serving passed
    (flags.isolate.symm.trans clear)

end

/-! ### Attachment over a full queue (R81) -/

/-- The WELCOME, a fresh one and the PROBE of an attachment, each a TRANSMIT OVERRUN. -/
theorem State.enrolled_full (up : (s.link l).state = .up) (full : 32 ≤ (s.link l).txQueue.length)
    (serving : s.mgp.mode = .serving) (h : Hello) :
    (s.enrolled l h).entry l = { (s.entry l).attachProbed h s.osc with probe := none } ∧
      ((s.enrolled l h).link l).txQueue = (s.link l).txQueue ∧
      ((s.enrolled l h).link l).errorTimes = appendErrorTime (appendErrorTime
        (appendErrorTime (s.link l).errorTimes s.osc) s.osc) s.osc := by
  have queueFull : s.queueFull l = true := decide_eq_true full
  generalize e' : (s.entry l).attach h s.osc = e
  have first := State.handWelcome_full (s := s.setEntry l e) (l := l) (by simpa using up) (by simpa using full)
  generalize v' : (s.setEntry l e).handWelcome l = v at first
  have can : v.probeCanGo l = true := by
    rw [State.probeCanGo_iff, first]
    subst e
    simp [RackEntry.attach, RackState.inService, State.inService, up, serving]
  have fresh := State.handWelcome_full (s := v) (l := l) (by simpa [first] using up) (by simpa [first] using full)
  have probe := State.handProbe_full (s := v.handWelcome l) (l := l)
    (by rw [fresh, first]; simpa using up) (by rw [fresh, first]; simpa using full)
  have enrolled : s.enrolled l h = (v.handWelcome l).handProbe l := by
    rw [State.enrolled, e', v', queueFull, State.firstProbe, if_pos can]
    rfl
  rw [enrolled, probe, fresh, first]
  subst e
  simp [RackEntry.attachProbed]

/-! ### The statement -/

/-- Settles O36: the cases of R76, then the four checks in order, then quarantine or attachment. -/
theorem helloJudged : Obligations.HelloJudged := by
  unfold Obligations.HelloJudged
  refine ⟨fun l h s up flags room => ?_, fun l h s up calm serving free passed full short => ?_⟩
  · dsimp only
    have only := s.helloTaken_only l h
    refine ⟨_, exec_hello h up, only.endEvent, ?_⟩
    cases mode : s.mgp.mode with
    | setup =>
      have taken := State.takeHello_setup h mode (l := l)
      have ended : State.endEvent s (s.helloTaken l h) = (s.helloHeld l h).settleCru := by
        rw [State.endEvent_of_same only (by rw [taken]; rfl), taken]
      rw [ended]
      simp
    | serving =>
      by_cases quarantined : (s.entry l).state = .quarantined
      · have taken := State.takeHello_dismiss h mode quarantined
        have cru : ((s.helloHeld l h).dismissAgain l (s.entry l).quarantineReason).cru = s.cru := by
          cases (s.entry l).quarantineReason with
          | none => rfl
          | some q => rw [State.dismissAgain_room (by simpa using up) (by simp; omega)]; rfl
        have ended : State.endEvent s (s.helloTaken l h) =
            ((s.helloHeld l h).dismissAgain l (s.entry l).quarantineReason).settleCru := by
          rw [State.endEvent_of_same only (by rw [taken, cru]), taken]
        rw [ended]
        cases reason : (s.entry l).quarantineReason with
        | none => simp [State.dismissAgain, quarantined, reason]
        | some q =>
          rw [State.dismissAgain_room (by simpa using up) (by simp; omega)]
          simp [quarantined, reason]
      · cases judged : (s.helloHeld l h).helloFailure l h with
        | some q =>
          have failed := (State.helloHeld_failure s l h).mp judged
          obtain ⟨entry, link⟩ := State.helloTaken_failed up room mode quarantined failed
          have ended := EndedAs.of_onlyLink only (NoNewIsolate.of_state (by rw [entry]; rfl))
          have flagged := ended.entry l
          rw [entry] at flagged
          rw [ended.link, link, flagged]
          refine ⟨rfl, rfl, nofun, fun _ held => absurd held quarantined, fun _ _ => ⟨fun q' failed' => ?_, ?_⟩⟩
          · have same : q' = q := Option.some.inj (((State.helloHeld_failure s l h).mpr failed').symm.trans judged)
            subst same
            simp [RackEntry.toQuarantine]
          · intro twin stray elsewhere clear
            rw [(State.helloHeld_free s l h).mpr ⟨twin, stray, elsewhere, clear⟩] at judged
            cases judged
        | none =>
          obtain ⟨entry, link⟩ := State.helloTaken_attached up room mode quarantined judged
          have ended := EndedAs.of_onlyLink only
            (State.helloTaken_attached_calm up room mode flags quarantined judged)
          have flagged := ended.entry l
          rw [entry] at flagged
          rw [ended.link, link, flagged]
          refine ⟨rfl, rfl, nofun, fun _ held => absurd held quarantined, fun _ _ => ⟨fun q failed => ?_, ?_⟩⟩
          · rw [(State.helloHeld_failure s l h).mpr failed] at judged
            cases judged
          · intro twin stray elsewhere clear
            simp [RackEntry.attachProbed, RackEntry.attach, RackEntry.openProbe, RackEntry.carried,
              State.attachFrames, State.inService]
            rfl
  · have only := s.helloTaken_only l h
    have ended := EndedAs.of_noIsolation calm only (Acts.helloTaken s l h)
    have passed : (s.helloHeld l h).helloFailure l h = none :=
      (State.helloHeld_free s l h).mpr (State.helloFailure_eq_none.mp passed)
    refine ⟨_, exec_hello h up, only.endEvent, ?_⟩
    have flagged := ended.entry l
    rw [ended.link]
    have taken : s.helloTaken l h = (s.helloHeld l h).attach l h := by
      rw [State.takeHello_judge _ serving free, State.judgeHello_free passed]
    obtain ⟨entry, queue, times⟩ := State.enrolled_full (s := s.helloHeld l h) (l := l)
      (by simpa using up) (by simpa using full) serving h
    rw [taken, State.attach_eq, State.attachReported_link, queue, times]
    rw [taken, State.attach_eq, State.attachReported_entry, entry] at flagged
    rw [flagged]
    have kept : appendErrorTime (appendErrorTime (appendErrorTime (s.link l).errorTimes s.osc) s.osc) s.osc =
        newestErrors ((s.link l).errorTimes ++ [s.osc] ++ [s.osc] ++ [s.osc]) := by
      rw [appendErrorTime_eq short, appendErrorTime_newestErrors, appendErrorTime_newestErrors]
    refine ⟨rfl, rfl, rfl, rfl, ?_, ?_⟩
    · simp
    · simp [kept, newestErrors]

end Sys2Proof.Machine
end

section
/-!
PROOFS. SERVE (R80, R180): the mode, what is left alone, and the held HELLOs judged from SETUP in
increasing link number.
-/

namespace Sys2Proof.Machine

variable {s t u v : State} {l m : Link} {h : Hello} {q : QReason} {p : Port} {tag : Byte}

/-! ### An operation run for each link in increasing number -/

theorem foldl_others {f : Link → State → State} (own : ∀ m st, OnlyLink m st (f m st)) {ls : List Link}
    (out : l ∉ ls) (st : State) :
    SameCore st (ls.foldl (fun st m => f m st) st) ∧ SameAt l st (ls.foldl (fun st m => f m st) st) := by
  induction ls generalizing st with
  | nil => exact ⟨.refl st, .refl l st⟩
  | cons m ms ih =>
    obtain ⟨ne, out⟩ := not_or.mp (mt List.mem_cons.mpr out)
    obtain ⟨core, same⟩ := ih out (f m st)
    exact ⟨(own m st).core.trans core, ((own m st).others l ne).trans same⟩

/-- The turn of a link: the links below it have had theirs, the links above it have not. -/
theorem forLinks_turn {f : Link → State → State} (own : ∀ m st, OnlyLink m st (f m st)) (s : State)
    (l : Link) : ∃ st, SameCore s st ∧ (∀ m, l ≤ m → SameAt m s st) ∧ SameAt l (f l st) (forLinks f s) ∧
      ∀ m, m < l → SameAt m st (forLinks f s) := by
  obtain ⟨before, after, split⟩ := List.append_of_mem (List.mem_finRange l)
  have sorted : (before ++ l :: after).Pairwise (· < ·) := split ▸ List.pairwise_lt_finRange 40
  obtain ⟨-, sortedAfter, apart⟩ := List.pairwise_append.mp sorted
  have above (m : Link) (mem : m ∈ after) : l < m := List.rel_of_pairwise_cons sortedAfter mem
  have below (m : Link) (mem : m ∈ before) : m < l := apart m mem l List.mem_cons_self
  have run : forLinks f s =
      after.foldl (fun st m => f m st) (f l (before.foldl (fun st m => f m st) s)) := by
    rw [forLinks, allLinks, split, List.foldl_append, List.foldl_cons]
  refine ⟨before.foldl (fun st m => f m st) s, ?_, fun m le => ?_, ?_, fun m lt => ?_⟩
  · exact (foldl_others own (l := l) (fun mem => lt_irrefl l (below l mem)) s).1
  · exact (foldl_others own (fun mem => absurd (below m mem) (not_lt.mpr le)) s).2
  · rw [run]
    exact (foldl_others own (fun mem => lt_irrefl l (above l mem)) _).2
  · rw [run]
    exact ((own l _).others m lt.ne).trans
      (foldl_others own (fun mem => absurd (above m mem) (not_lt.mpr lt.le)) _).2

/-! ### The turn of a link at SERVE -/

theorem State.judgeHeld_none (h : (s.link l).state ≠ .up ∨ (s.entry l).heldHello = none) :
    s.judgeHeld l = s := by
  unfold State.judgeHeld
  split
  · next up =>
    rw [h.resolve_left (not_not.mpr (of_decide_eq_true up))]
  · rfl

theorem State.judgeHeld_some (up : (s.link l).state = .up) (held : (s.entry l).heldHello = some h) :
    s.judgeHeld l = s.judgeHello l h := by
  rw [State.judgeHeld, State.isUp, if_pos (decide_eq_true up), held]

theorem State.serve_of_serving (serving : s.mgp.mode = .serving) : s.serve = s := by
  unfold State.serve
  rw [serving]

theorem State.serve_of_setup (setup : s.mgp.mode = .setup) :
    s.serve = forLinks State.judgeHeld (s.setMgp { s.mgp with mode := .serving }) := by
  unfold State.serve
  rw [setup]

/-- The turn of a link at SERVE from SETUP. -/
theorem State.serve_turn (setup : s.mgp.mode = .setup) (l : Link) : ∃ st : State,
    SameCore (s.setMgp { s.mgp with mode := .serving }) st ∧ (∀ m, l ≤ m → SameAt m s st) ∧
      SameAt l (st.judgeHeld l) s.serve ∧ ∀ m, m < l → SameAt m st s.serve := by
  obtain ⟨st, core, above, turn, below⟩ := forLinks_turn (f := State.judgeHeld) OnlyLink.judgeHeld
    (s.setMgp { s.mgp with mode := .serving }) l
  rw [← State.serve_of_setup setup] at turn below
  exact ⟨st, core, fun m le => ⟨(above m le).link, (above m le).entry, (above m le).drift, (above m le).driving⟩,
    turn, below⟩

/-- SERVE leaves a link that has no HELLO to judge. -/
theorem State.serve_sameAt (l : Link)
    (h : s.mgp.mode = .serving ∨ (s.link l).state ≠ .up ∨ (s.entry l).heldHello = none) :
    SameAt l s s.serve := by
  cases mode : s.mgp.mode with
  | serving => rw [State.serve_of_serving mode]; exact .refl l s
  | setup =>
    obtain ⟨st, -, above, turn, -⟩ := State.serve_turn mode l
    have same := above l le_rfl
    rw [State.judgeHeld_none (by rw [same.link, same.entry]; exact h.resolve_left (by simp [mode]))] at turn
    exact same.trans turn

/-! ### SERVE from SETUP with every entry IDLE -/

/-- What SERVE finds: SETUP, every entry IDLE with the flags its conditions give, and room for two frames. -/
structure ReadyToServe (s : State) : Prop where
  setup : s.mgp.mode = .setup
  idle : ∀ l, (s.entry l).state = .idle
  flags : ∀ l, FlagsMatch s l
  room : ∀ l, (s.link l).txQueue.length ≤ 30

/-- A link below has just taken the identity of a HELLO. -/
def TakenBelow (t : State) (l : Link) (h : Hello) : Prop :=
  ∃ m : Link, m.val < l.val ∧ (t.entry m).state = .attaching ∧ (t.entry m).identity = some h.identity.toNat

/-- What judging a held HELLO leaves at its link. -/
theorem State.judgeHello_room (up : (s.link l).state = .up) (room : (s.link l).txQueue.length ≤ 30)
    (serving : s.mgp.mode = .serving) (h : Hello) :
    (∀ q, s.helloFailure l h = some q →
      (s.judgeHello l h).entry l = (s.entry l).toQuarantine (some h.identity.toNat) q ∧
      (s.judgeHello l h).link l = { s.link l with txQueue := (s.link l).txQueue ++ [.dismiss q] }) ∧
    (s.helloFailure l h = none →
      (s.judgeHello l h).entry l = (s.entry l).attachProbed h s.osc ∧
      (s.judgeHello l h).link l = { s.link l with txQueue := (s.link l).txQueue ++ s.attachFrames h }) := by
  refine ⟨fun q failed => ?_, fun passed => ?_⟩
  · rw [State.judgeHello_failed failed]
    exact State.quarantine_room _ q up (by omega)
  · rw [State.judgeHello_free passed]
    exact State.attach_room h up room serving

theorem firstFailure_congr {before after : Prop} (twin : TwinHello t h ↔ TwinHello s h)
    (stray : StrayHello t l h ↔ StrayHello s l h) (below : after ↔ before) (entry : t.entry l = s.entry l)
    (q : QReason) : FirstFailure t l h after q ↔ FirstFailure s l h before q := by
  rw [FirstFailure, FirstFailure, twin, stray, below, entry]

/-- The four checks (R77): one fails first, or none does. -/
theorem firstFailure_or (s : State) (l : Link) (h : Hello) (duplicate : Prop) :
    (∃ q, FirstFailure s l h duplicate q) ∨
      ¬ TwinHello s h ∧ ¬ StrayHello s l h ∧ ¬ duplicate ∧ (s.entry l).isolate = false := by
  by_cases twin : TwinHello s h
  · exact .inl ⟨_, .inl ⟨twin, rfl⟩⟩
  by_cases stray : StrayHello s l h
  · exact .inl ⟨_, .inr (.inl ⟨twin, stray, rfl⟩)⟩
  by_cases held : duplicate
  · exact .inl ⟨_, .inr (.inr (.inl ⟨twin, stray, held, rfl⟩))⟩
  cases isolated : (s.entry l).isolate with
  | true => exact .inl ⟨_, .inr (.inr (.inr ⟨twin, stray, held, isolated, rfl⟩))⟩
  | false => exact .inr ⟨twin, stray, held, rfl⟩

section

variable (ready : ReadyToServe s)
include ready

/-- After SERVE an entry is IDLE, ATTACHING or QUARANTINED. -/
theorem ReadyToServe.states (m : Link) : s.serve.inService m = true → (s.serve.entry m).state = .attaching := by
  obtain ⟨st, core, above, turn, -⟩ := State.serve_turn ready.setup m
  have same := above m le_rfl
  have idle : (st.entry m).state = .idle := by rw [same.entry]; exact ready.idle m
  rw [State.inService, turn.entry]
  by_cases none : (st.link m).state ≠ .up ∨ (st.entry m).heldHello = none
  · rw [State.judgeHeld_none none, idle]
    exact nofun
  · obtain ⟨up, held⟩ := not_or.mp none
    obtain ⟨h, held⟩ := Option.ne_none_iff_exists'.mp held
    rw [State.judgeHeld_some (not_not.mp up) held]
    obtain ⟨failed, passed⟩ := State.judgeHello_room (not_not.mp up)
      (by rw [same.link]; exact ready.room m) (congrArg Mgp.mode core.mgp) h
    cases judged : st.helloFailure m h with
    | some q => rw [(failed q judged).1]; exact nofun
    | none => rw [(passed judged).1]; exact fun _ => rfl

/-- The third check at the turn of a link: only a link below can have taken the identity. -/
theorem ReadyToServe.elsewhere {st : State} (above : ∀ m, l ≤ m → SameAt m s st)
    (below : ∀ m, m < l → SameAt m st s.serve) (h : Hello) :
    st.HeldElsewhere l h ↔ TakenBelow s.serve l h := by
  constructor
  · rintro ⟨m, -, service, identity⟩
    have lt : m < l := by
      refine lt_of_not_ge fun le => ?_
      rw [State.inService, (above m le).entry, ready.idle m] at service
      cases service
    have same := (below m lt).entry
    exact ⟨m, lt, ready.states m (by rw [State.inService, same]; exact service), by rw [same]; exact identity⟩
  · rintro ⟨m, lt, state, identity⟩
    have same := (below m lt).entry
    rw [same] at state identity
    exact ⟨m, ne_of_lt lt, by rw [State.inService, state]; rfl, identity⟩

/-- The held HELLO of an UP link judged by SERVE. -/
theorem ReadyToServe.judged (up : (s.link l).state = .up) (held : (s.entry l).heldHello = some h) :
    (∀ q, FirstFailure s l h (TakenBelow s.serve l h) q →
      s.serve.entry l = (s.entry l).toQuarantine (some h.identity.toNat) q ∧
      s.serve.link l = { s.link l with txQueue := (s.link l).txQueue ++ [.dismiss q] }) ∧
    (¬ TwinHello s h → ¬ StrayHello s l h → ¬ TakenBelow s.serve l h → (s.entry l).isolate = false →
      s.serve.entry l = (s.entry l).attachProbed h s.osc ∧
      s.serve.link l = { s.link l with txQueue := (s.link l).txQueue ++ s.attachFrames h } ∧
      (s.serve.cru.driving l).isolate = false) := by
  obtain ⟨st, core, above, turn, below⟩ := State.serve_turn ready.setup l
  obtain ⟨link, entry, -, driving⟩ := above l le_rfl
  have stUp : (st.link l).state = .up := by rw [link]; exact up
  have stRoom : (st.link l).txQueue.length ≤ 30 := by rw [link]; exact ready.room l
  have serving : st.mgp.mode = .serving := congrArg Mgp.mode core.mgp
  obtain ⟨failed, passed⟩ := State.judgeHello_room stUp stRoom serving h
  have twin : TwinHello st h ↔ TwinHello s h := by rw [TwinHello, TwinHello, core.mgp]; rfl
  have stray : StrayHello st l h ↔ StrayHello s l h := by rw [StrayHello, StrayHello, link]
  have elsewhere := ready.elsewhere above below h
  rw [turn.entry, turn.link, turn.driving, State.judgeHeld_some stUp (by rw [entry]; exact held)]
  refine ⟨fun q failure => ?_, fun noTwin noStray free clear => ?_⟩
  · have judged : st.helloFailure l h = some q := by
      rw [State.helloFailure_eq_some, FirstFailure, twin, stray, elsewhere, entry]
      exact failure
    rw [← entry, ← link]
    exact failed q judged
  · have judged : st.helloFailure l h = none := by
      rw [State.helloFailure_eq_none, twin, stray, elsewhere, entry]
      exact ⟨noTwin, noStray, free, clear⟩
    obtain ⟨attached, frames⟩ := passed judged
    refine ⟨?_, ?_, ?_⟩
    · rw [attached, entry, core.osc]; rfl
    · rw [frames, link, State.attachFrames, core.mgp, core.tsu]; rfl
    · rw [State.judgeHello_free judged]
      exact State.attach_not_isolate h stUp stRoom serving judged
        (by rw [driving, ← (ready.flags l).isolate]; exact clear)

/-- The end of SERVE takes no entry out of service. -/
theorem ReadyToServe.ended : EndedAs s.serve (State.endEvent s s.serve) := by
  refine .of_calm fun l => ?_
  by_cases none : (s.link l).state ≠ .up ∨ (s.entry l).heldHello = none
  · exact .inl (State.serve_sameAt l (.inr none)).driving.symm
  · right
    obtain ⟨up, held⟩ := not_or.mp none
    obtain ⟨h, held⟩ := Option.ne_none_iff_exists'.mp held
    obtain ⟨failed, passed⟩ := ready.judged (not_not.mp up) held
    rcases firstFailure_or s l h (TakenBelow s.serve l h) with ⟨q, failure⟩ | ⟨twin, stray, free, clear⟩
    · exact .of_state (by rw [(failed q failure).1]; rfl)
    · obtain ⟨-, -, calm⟩ := passed twin stray free clear
      exact fun set => absurd set (ne_true_of_eq_false calm)

end

theorem exec_serve (accepts : Accepts s p) (taken : s.taken p 0x02#8 tag = v) :
    exec (.serve p tag []) s = .next ((State.endEvent v v.serve).replied p 0x02#8 tag .done
      (State.endEvent v v.serve).partSummary) := by
  have answered := State.request_answered accepts 0x02#8 tag (f := serveH [])
    (t := State.endEvent v v.serve) (by rw [taken, serveH, withLength_of_eq _ List.length_nil]; rfl)
  exact congrArg Host.Outcome.next answered

/-- Settles O8: the turns of the links in increasing number, and an end that writes flags alone. -/
theorem serveRequest : Obligations.ServeRequest := by
  unfold Obligations.ServeRequest
  refine ⟨fun p tag s accepts => ?_, fun p tag s accepts setup found => ?_⟩ <;>
    generalize taken : s.taken p 0x02#8 tag = v
  · have same (l : Link) : SameAt l s v := by rw [← taken]; exact ⟨by simp, by simp, by simp, by simp⟩
    have mode : v.mgp.mode = s.mgp.mode := by rw [← taken]; simp
    refine ⟨_, exec_serve accepts taken, v.serve_sameCore.trans (State.endEvent_sameCore _ _), fun l left => ?_⟩
    have served := State.serve_sameAt (s := v) l (by rw [mode, (same l).link, (same l).entry]; exact left)
    exact ((same l).trans served).trans (State.endEvent_sameAt v v.serve l served.driving.symm)
  · have same (l : Link) : SameAt l s v := by rw [← taken]; exact ⟨by simp, by simp, by simp, by simp⟩
    have mgp : v.mgp.mode = s.mgp.mode ∧ v.mgp.domainId = s.mgp.domainId ∧
        v.mgp.domainInstance = s.mgp.domainInstance ∧ v.tsu = s.tsu ∧ v.osc = s.osc := by
      rw [← taken]; simp
    obtain ⟨mode, domain, inst, tsu, osc⟩ := mgp
    have ready : ReadyToServe v := by
      refine ⟨mode.trans setup, fun l => ?_, fun l => ?_, fun l => ?_⟩
      all_goals obtain ⟨idle, flags, room⟩ := found l
      · rw [(same l).entry]; exact idle
      · exact ⟨by rw [(same l).entry, (same l).driving]; exact flags.degrade,
          by rw [(same l).entry, (same l).driving]; exact flags.isolate⟩
      · rw [(same l).link]; exact room
    have ended := ready.ended
    refine ⟨_, exec_serve accepts taken, fun l h up held => ?_⟩
    obtain ⟨failed, passed⟩ := ready.judged (by rw [(same l).link]; exact up)
      (by rw [(same l).entry]; exact held)
    have twin : TwinHello v h ↔ TwinHello s h := by rw [TwinHello, TwinHello, domain, inst]
    have stray : StrayHello v l h ↔ StrayHello s l h := by rw [StrayHello, StrayHello, (same l).link]
    have below : TakenBelow v.serve l h ↔ TakenBelow (State.endEvent v v.serve) l h := by
      refine exists_congr fun m => and_congr_right fun _ => ?_
      rw [ended.entry m]
    have flagged := ended.entry l
    simp only [firstFailure_congr twin stray below (same l).entry] at failed
    rw [twin, stray, below, (same l).entry] at passed
    rw [ended.link]
    dsimp only
    refine ⟨?_, fun q failure => ?_, fun noTwin noStray free clear => ?_⟩
    · have kept : (v.serve.entry l).heldHello = (s.entry l).heldHello := by
        rcases firstFailure_or s l h (TakenBelow (State.endEvent v v.serve) l h) with
          ⟨q, failure⟩ | ⟨noTwin, noStray, free, clear⟩
        · rw [(failed q failure).1, (same l).entry]; rfl
        · rw [(passed noTwin noStray free clear).1]; rfl
      rw [flagged]
      exact kept.trans held
    · obtain ⟨entry, link⟩ := failed q failure
      rw [entry] at flagged
      rw [link, flagged, (same l).link]
      exact ⟨rfl, rfl, rfl, rfl, rfl⟩
    · obtain ⟨entry, link, -⟩ := passed noTwin noStray free clear
      rw [entry] at flagged
      rw [link, flagged, (same l).link, State.attachFrames, domain, inst, tsu, osc]
      simp [RackEntry.attachProbed, RackEntry.attach, RackEntry.openProbe, RackEntry.carried,
        (found l).1, RackState.inService]

end Sys2Proof.Machine
end

section
/-!
PROOFS. Activity, settling and training of a link (R54, R56, R57), and the part of a link record that
frames and link errors leave.
-/

namespace Sys2Proof.Machine

variable {s t u : State} {l m : Link}

/-! ### What frames and link errors leave of a link -/

/-- A link record without its queue, its error times and its error rate. -/
def LinkRecord.lane (r : LinkRecord) : LinkRecord :=
  { r with txQueue := [], errorTimes := [], errorFlag := false, clearInstant := none }

/-- The link records without queues and error counts. -/
def State.lanes (s : State) (m : Link) : LinkRecord := (s.link m).lane

theorem State.link_of_lanes {r : LinkRecord} (h : s.lanes m = r.lane) : s.link m =
    { r with txQueue := (s.link m).txQueue, errorTimes := (s.link m).errorTimes,
             errorFlag := (s.link m).errorFlag, clearInstant := (s.link m).clearInstant } := by
  unfold State.lanes LinkRecord.lane at h
  generalize s.link m = x at h
  cases x
  cases r
  simpa using h

/-- The lane of one link stays where its record does up to queue and errors. -/
theorem State.lanes_setLink {r : LinkRecord} (h : r.lane = (s.link l).lane) : (s.setLink l r).lanes = s.lanes := by
  funext m
  by_cases same : m = l
  · subst same
    rw [State.lanes, State.link_setLink_same]
    exact h
  · rw [State.lanes, State.link_setLink_ne _ _ _ _ same]
    rfl

section

variable (s : State) (l : Link)

@[simp] theorem State.setEntry_lanes (e : RackEntry) : (s.setEntry l e).lanes = s.lanes := rfl

@[simp] theorem State.raise_lanes (k : CondKind) (sc : Scope) (d : Details) : (s.raise k sc d).lanes = s.lanes := by
  funext m; simp [State.lanes]

@[simp] theorem State.clearCond_lanes (k : CondKind) (sc : Scope) : (s.clearCond k sc).lanes = s.lanes := by
  funext m; simp [State.lanes]

@[simp] theorem State.leaveState_lanes (x : RackState) : (s.leaveState l x).lanes = s.lanes := by
  funext m; simp [State.lanes]

@[simp] theorem State.stateNotice_lanes (x : RackState) : (s.stateNotice l x).lanes = s.lanes := by
  funext m; simp [State.lanes]

@[simp] theorem State.settleCru_lanes : s.settleCru.lanes = s.lanes := by
  funext m; simp [State.lanes]

@[simp] theorem State.withdrawn_lanes (f : TxFrame) : (s.withdrawn l f).lanes = s.lanes := by
  cases f with
  | trim g a b c d => unfold State.withdrawn; dsimp only; split <;> rfl
  | _ => rfl

@[simp] theorem State.linkError_lanes : (s.linkError l).lanes = s.lanes := by
  unfold State.linkError
  dsimp only
  split
  · rw [State.raise_lanes]; exact State.lanes_setLink rfl
  · exact State.lanes_setLink rfl

@[simp] theorem State.handFrame_lanes (f : TxFrame) : (s.handFrame l f).lanes = s.lanes := by
  unfold State.handFrame
  dsimp only
  split
  · simp
  · split
    · simp
    · exact State.lanes_setLink rfl

@[simp] theorem State.handProbe_lanes : (s.handProbe l).lanes = s.lanes := by simp [State.handProbe]

@[simp] theorem State.handWelcome_lanes : (s.handWelcome l).lanes = s.lanes := by simp [State.handWelcome]

@[simp] theorem State.probeIfDue_lanes : (s.probeIfDue l).lanes = s.lanes := by
  unfold State.probeIfDue
  dsimp only
  split_ifs <;> simp

@[simp] theorem State.trimTest_lanes : (s.trimTest l).lanes = s.lanes := by
  unfold State.trimTest
  split <;> simp

@[simp] theorem State.quarantine_lanes (claimed : Option Nat) (q : QReason) :
    (s.quarantine l claimed q).lanes = s.lanes := by
  unfold State.quarantine
  dsimp only
  cases q.kind <;> simp [State.handDismiss]

theorem State.writeFlags_lanes : (s.writeFlags l).lanes = s.lanes := by
  unfold State.writeFlags State.isolateSet
  dsimp only
  repeat' split
  all_goals simp

theorem State.settleFlags_lanes (before : State) : (State.settleFlags before s l).lanes = s.lanes := by
  unfold State.settleFlags State.deriveFlags
  split_ifs <;> simp [State.writeFlags_lanes]

@[simp] theorem State.endEvent_lanes (before : State) : (State.endEvent before s).lanes = s.lanes := by
  rw [State.endEvent, State.settleCru_lanes]
  exact forLinks_keeps (P := fun st => st.lanes = s.lanes)
    (fun l st kept => (State.settleFlags_lanes st l before).trans kept) s rfl

end

/-! ### The deadlines of a link record -/

section

variable {r : LinkRecord} {now d : Nat}

theorem LinkRecord.settle_early (due : r.settleDeadline = some d) (early : now < d) : r.settle now = r := by
  have notReached : r.settleReached now = false := by simp [LinkRecord.settleReached, due, early]
  rw [LinkRecord.settle, notReached]
  rfl

theorem LinkRecord.settle_quiet (down : r.state = .down) (due : r.settleDeadline = some d) (late : d ≤ now)
    (quiet : r.activity = false) : r.settle now = { r with settleDeadline := none } := by
  have reached : r.settleReached now = true := by simp [LinkRecord.settleReached, down, due, late]
  exact (if_pos reached).trans (if_neg (ne_true_of_eq_false quiet))

theorem LinkRecord.settle_active (down : r.state = .down) (due : r.settleDeadline = some d) (late : d ≤ now)
    (active : r.activity = true) : r.settle now = { r with settleDeadline := none }.enterTraining now := by
  have reached : r.settleReached now = true := by simp [LinkRecord.settleReached, down, due, late]
  exact (if_pos reached).trans (if_pos active)

theorem LinkRecord.endTraining_early (due : r.trainingDeadline = some d) (early : now < d) :
    r.endTraining now = r := by
  have notReached : r.trainingExpired now = false := by simp [LinkRecord.trainingExpired, due, early]
  rw [LinkRecord.endTraining, notReached]
  rfl

theorem LinkRecord.endTraining_reached (training : r.state = .training) (due : r.trainingDeadline = some d)
    (late : d ≤ now) : r.endTraining now = r.enterDown now :=
  if_pos (by simp [LinkRecord.trainingExpired, training, due, late])

theorem LinkRecord.gainActivity_disabled (h : r.state = .disabled) : r.gainActivity now = r := by
  rw [LinkRecord.gainActivity, h]

theorem LinkRecord.gainActivity_settling (h : r.state = .down) (due : r.settleDeadline = some d) :
    r.gainActivity now = { r with activity := true } := by
  rw [LinkRecord.gainActivity, h, due]
  rfl

theorem LinkRecord.gainActivity_settled (h : r.state = .down) (due : r.settleDeadline = none) :
    r.gainActivity now = { r with activity := true }.enterTraining now := by
  rw [LinkRecord.gainActivity, h, due]
  rfl

theorem LinkRecord.restartCount_training (h : r.state = .training) : r.restartCount = { r with trainRun := 0 } :=
  if_pos h

end

/-! ### A training block (R57) -/

theorem State.takeTrainingBlock_training (training : (s.link l).state = .training) (ready : Bool) :
    s.takeTrainingBlock l ready =
      if ((s.link l).trainBlock ready).readySent && ((s.link l).trainBlock ready).readyReceived then
        (s.setLink l ((s.link l).trainBlock ready)).linkRises l
      else s.setLink l ((s.link l).trainBlock ready) := by
  rw [State.takeTrainingBlock, if_pos training]
  dsimp only
  rw [State.link_setLink_same]

theorem State.linkRises_lanes (s : State) (l : Link) : (s.linkRises l).lanes l =
    { s.link l with state := .up, trainingDeadline := none, checkRun := 0 }.lane := by
  rw [State.linkRises, State.noticeUp, State.trimTest_lanes, State.probeIfDue_lanes, State.raise_lanes,
    State.clearCond_lanes, State.lanes, State.link_setLink_same]

/-- Both ends ready after a block, by the fields before it. -/
theorem LinkRecord.trainBlock_ready (r : LinkRecord) (ready : Bool) :
    ((r.trainBlock ready).readySent && (r.trainBlock ready).readyReceived) = true ↔
      (r.readySent = true ∨ 15 ≤ r.trainRun) ∧ (r.readyReceived = true ∨ ready = true) := by
  have run : satAdd 16 r.trainRun 1 = 16 ↔ 15 ≤ r.trainRun := by rw [satAdd_eq_min]; omega
  simp [LinkRecord.trainBlock, run]

theorem exec_trainingBlock (s : State) (l : Link) (ready : Bool) : exec (.trainingBlock l ready) s =
    .next (State.endEvent s (s.takeTrainingBlock l ready)) := rfl

/-- A training block that completes training (R57). -/
theorem State.takeTrainingBlock_rises (training : (s.link l).state = .training) {ready : Bool}
    (sent : (s.link l).readySent = true ∨ 15 ≤ (s.link l).trainRun)
    (received : (s.link l).readyReceived = true ∨ ready = true) :
    (State.endEvent s (s.takeTrainingBlock l ready)).lanes l =
      { (s.link l).trainBlock ready with state := .up, trainingDeadline := none, checkRun := 0 }.lane := by
  rw [State.endEvent_lanes, State.takeTrainingBlock_training training,
    if_pos ((LinkRecord.trainBlock_ready _ _).mpr ⟨sent, received⟩), State.linkRises_lanes,
    State.link_setLink_same]

/-- A training block that does not (R57). -/
theorem State.takeTrainingBlock_counts (training : (s.link l).state = .training) {ready : Bool}
    (more : ¬ (((s.link l).readySent = true ∨ 15 ≤ (s.link l).trainRun) ∧
      ((s.link l).readyReceived = true ∨ ready = true))) :
    State.endEvent s (s.takeTrainingBlock l ready) = (s.setLink l ((s.link l).trainBlock ready)).settleCru := by
  rw [State.takeTrainingBlock_training training, if_neg (mt (LinkRecord.trainBlock_ready _ _).mp more)]
  exact State.endEvent_of_same (.setLink l s _) rfl

/-- Settles O30: each event by the record's own equation; frames and errors of an UP notice leave the lane. -/
theorem linkTraining : Obligations.LinkTraining := by
  unfold Obligations.LinkTraining
  intro l s
  have gained : exec (.laneActivityGained l) s = .next (s.setLink l ((s.link l).gainActivity s.osc)) := rfl
  have settled : exec (.settleDeadline l) s = .next (s.setLink l ((s.link l).settle s.osc)) := rfl
  have ended : exec (.trainingDeadline l) s = .next (s.setLink l ((s.link l).endTraining s.osc)) := rfl
  have restarted : exec (.trainingCountRestart l) s = .next (s.setLink l (s.link l).restartCount) := rfl
  rw [gained, settled, ended, restarted]
  refine ⟨fun disabled => ?_, fun down d due => ⟨?_, fun early => ?_, fun late quiet => ?_, fun late active => ?_⟩,
    fun down due => ?_, fun training => ⟨?_, fun d due => ⟨fun early => ?_, fun late => ?_⟩, fun ready => ?_⟩⟩
  · rw [LinkRecord.gainActivity_disabled disabled, State.setLink_self]
  · rw [LinkRecord.gainActivity_settling down due]
  · rw [LinkRecord.settle_early due early, State.setLink_self]
  · rw [LinkRecord.settle_quiet down due late quiet]
  · rw [LinkRecord.settle_active down due late active]
    rfl
  · rw [LinkRecord.gainActivity_settled down due]
    simp [LinkRecord.enterTraining, due]
  · rw [LinkRecord.restartCount_training training]
  · rw [LinkRecord.endTraining_early due early, State.setLink_self]
  · rw [LinkRecord.endTraining_reached training due late]
    rfl
  · refine ⟨_, exec_trainingBlock s l ready, (OnlyLink.takeTrainingBlock l s ready).endEvent, fun both => ?_,
      fun notBoth room => ?_⟩
    · obtain ⟨sent, received⟩ := both
      rw [State.link_of_lanes (State.takeTrainingBlock_rises training (sent.imp_right Eq.ge) received)]
      exact ⟨rfl, rfl, rfl⟩
    · have last : 15 ≤ (s.link l).trainRun ↔ (s.link l).trainRun = 15 := by omega
      rw [State.takeTrainingBlock_counts training (by rw [last]; exact notBoth)]
      have run : satAdd 16 (s.link l).trainRun 1 = (s.link l).trainRun + 1 := by rw [satAdd_eq_min]; omega
      have sixteen : (s.link l).trainRun + 1 = 16 ↔ (s.link l).trainRun = 15 := by omega
      simp [LinkRecord.trainBlock, run, sixteen]

end Sys2Proof.Machine
end

section
/-!
PROOFS. Frames handed, begun and reported DEPARTED (R60, R61, R81, R83, R106).
-/

namespace Sys2Proof.Machine

variable {s t u : State} {l m : Link}

section

variable {e : RackEntry} {x : TxInFlight}

theorem RackEntry.departed_welcome {a b c d : Nat} (frame : x.frame = .welcome a b c d) :
    e.departed x = { e with welcomeOwed := false } := by
  rw [RackEntry.departed, frame]

theorem RackEntry.departed_probe {n : Nat} {q : ProbeInFlight} (frame : x.frame = .probe n)
    (probe : e.probe = some q) (number : q.number = n) : e.departed x =
      { e with probe := some ⟨n, some ⟨x.stampHall, x.stampEra, x.departureO⟩⟩
               nextProbeDue := some (x.departureO + e.settings.pollInterval * 1000000)
               probeReckoned := some x.departureO } := by
  rw [RackEntry.departed, frame]
  dsimp only
  rw [RackEntry.probeDeparted, probe]
  exact if_pos number

theorem RackEntry.departed_no_probe {n : Nat} (frame : x.frame = .probe n) (probe : e.probe = none) :
    e.departed x = e := by
  rw [RackEntry.departed, frame]
  dsimp only
  rw [RackEntry.probeDeparted, probe]

theorem RackEntry.departed_trim {g : Nat} {a b c d} {y : TrimInFlight} (frame : x.frame = .trim g a b c d)
    (trim : e.trim = some y) (generation : y.generation = g) :
    e.departed x = { e with trim := some { y with sentAt := some x.departureO } } := by
  rw [RackEntry.departed, frame]
  dsimp only
  rw [RackEntry.trimDeparted, trim]
  exact if_pos generation

theorem RackEntry.departed_no_trim {g : Nat} {a b c d} (frame : x.frame = .trim g a b c d)
    (trim : e.trim = none) : e.departed x = e := by
  rw [RackEntry.departed, frame]
  dsimp only
  rw [RackEntry.trimDeparted, trim]

end

/-- The oldest frame of an idle lane begins (R60, R61). -/
theorem State.beginTransmission_front {f : TxFrame} {rest : List TxFrame} (up : (s.link l).state = .up)
    (idle : (s.link l).inTx = none) (queue : (s.link l).txQueue = f :: rest) (departure : Nat) :
    s.beginTransmission l departure = s.setLink l { s.link l with
      txQueue := rest
      inTx := some ⟨f, departure, (s.tsu.convert departure).hall, (s.tsu.convert departure).era⟩ } := by
  unfold State.beginTransmission
  dsimp only
  split
  · next g tail _ _ tailed =>
    obtain ⟨rfl, rfl⟩ := List.cons.inj (queue.symm.trans tailed)
    rfl
  · next other => exact absurd queue (other f rest up idle)

theorem State.frameDeparts_some {x : TxInFlight} (sent : (s.link l).inTx = some x) : s.frameDeparts l =
    (s.setLink l { s.link l with inTx := none }).setEntry l ((s.entry l).departed x) := by
  rw [State.frameDeparts, sent]

/-- Settles O33: handing with room, the front frame begun, and the report by the kind of frame. -/
theorem framesTransmitted : Obligations.FramesTransmitted := by
  intro l s
  refine ⟨fun f up room => State.handFrame_room up room f, fun departure f rest up idle queue => ?_,
    fun x sent => ⟨(s.entry l).departed x, ?_, ?_, ?_, ?_, ?_, ?_⟩⟩
  · exact congrArg Host.Outcome.next (State.beginTransmission_front up idle queue departure)
  · exact congrArg Host.Outcome.next (State.frameDeparts_some sent)
  · exact fun a b c d frame => RackEntry.departed_welcome frame
  · exact fun n frame => ⟨fun q probe number => RackEntry.departed_probe frame probe number,
      RackEntry.departed_no_probe frame⟩
  · exact fun g a b c d frame => ⟨fun y trim generation => RackEntry.departed_trim frame trim generation,
      RackEntry.departed_no_trim frame⟩
  · intro v n sq frame
    rw [RackEntry.departed, frame]
  · intro q frame
    rw [RackEntry.departed, frame]

end Sys2Proof.Machine
end

section
/-!
PROOFS. SET LINK RANGE (R71) and RESET LINK (R72), with what a link leaves behind on leaving UP (R58).
-/

namespace Sys2Proof.Machine

variable {s t u v : State} {l m : Link} {p : Port} {tag : Byte} {first last : Nat}

/-! ### The withdrawals of a link that is not UP (R58) -/

theorem RackEntry.probeWithdrawn_eq (e : RackEntry) (n : Nat) :
    ∃ p, e.probeWithdrawn n = { e with probe := p } := by
  unfold RackEntry.probeWithdrawn
  split
  · split
    · exact ⟨_, rfl⟩
    · exact ⟨e.probe, rfl⟩
  · exact ⟨e.probe, rfl⟩

/-- A frame withdrawn while its link is not UP removes at most the probe in flight. -/
theorem State.withdrawn_down (down : (s.link l).state ≠ .up) (f : TxFrame) :
    ∃ p, s.withdrawn l f = s.setEntry l { s.entry l with probe := p } := by
  have same : ∃ p, s = s.setEntry l { s.entry l with probe := p } :=
    ⟨(s.entry l).probe, (State.setEntry_self s l).symm⟩
  cases f with
  | probe n =>
    obtain ⟨p, h⟩ := (s.entry l).probeWithdrawn_eq n
    exact ⟨p, congrArg (s.setEntry l) h⟩
  | trim g a b c d =>
    rw [State.withdrawn, State.isUp, decide_eq_false down]
    exact same
  | _ => exact same

theorem State.withdrawn_all_down (down : (s.link l).state ≠ .up) (frames : List TxFrame) :
    ∃ p, frames.foldl (fun st f => st.withdrawn l f) s = s.setEntry l { s.entry l with probe := p } := by
  induction frames generalizing s with
  | nil => exact ⟨(s.entry l).probe, (State.setEntry_self s l).symm⟩
  | cons f fs ih =>
    obtain ⟨p, first⟩ := State.withdrawn_down down f
    obtain ⟨q, rest⟩ := ih (s := s.withdrawn l f) (by rw [first]; exact down)
    refine ⟨q, ?_⟩
    rw [List.foldl_cons, rest, first, State.entry_setEntry_same, State.setEntry_setEntry]

/-- A link that leaves UP (R58): its queue and the frame in transmission are gone, at most the probe in
flight with them, before the link notice. -/
theorem State.leaveUp_eq {r : LinkRecord} (down : r.state ≠ .up) (s : State) (l : Link) (c : LinkCause) :
    ∃ p, s.leaveUp l r c = ((((s.setLink l { r with txQueue := [], inTx := none }).setEntry l
      { s.entry l with probe := p }).linkNotice l c).postLinkDown l (s.link l).checkRun) := by
  obtain ⟨p, withdrawn⟩ := State.withdrawn_all_down
    (s := (s.setLink l r).setLink l { (s.setLink l r).link l with inTx := none, txQueue := [] }) (l := l)
    (by simpa using down)
    ((((s.setLink l r).link l).inTx.map (fun x => x.frame)).toList ++ ((s.setLink l r).link l).txQueue)
  refine ⟨p, ?_⟩
  rw [State.leaveUp, State.withdrawAll, withdrawn]
  simp

/-! ### RESET LINK (R72) -/

theorem State.dropErrorRate_eq (s : State) (l : Link) : ∃ c,
    (s.dropErrorRate l).link l = { s.link l with errorFlag := false, clearInstant := c } ∧
      (s.dropErrorRate l).entry l = s.entry l ∧ (s.dropErrorRate l).osc = s.osc := by
  unfold State.dropErrorRate
  split
  · exact ⟨none, by simp [State.clearErrorRate], by simp [State.clearErrorRate], by simp [State.clearErrorRate]⟩
  · next clear =>
    refine ⟨(s.link l).clearInstant, ?_, rfl, rfl⟩
    rw [← eq_false_of_ne_true clear]

/-- What RESET LINK does to a link and its entry once its error-rate flag is clear. -/
theorem State.resetLink_at (s : State) (l : Link) : ∃ c,
    (s.resetLink l).link l = { s.link l with
        state := .down, settleDeadline := some (s.osc + 10000000), trainingDeadline := none
        errorTimes := [], checkRun := 0, errorFlag := false, clearInstant := c
        txQueue := if (s.link l).state = .up then [] else (s.link l).txQueue
        inTx := if (s.link l).state = .up then none else (s.link l).inTx } ∧
      (s.resetLink l).entry l = (s.entry l).toIdle false ∧
      ((s.resetLink l).driftOf l).level = .normal := by
  obtain ⟨c, link, entry, osc⟩ := s.dropErrorRate_eq l
  refine ⟨c, ?_⟩
  rw [State.resetLink]
  dsimp only
  generalize s.dropErrorRate l = v at link entry osc
  by_cases up : (s.link l).state = .up
  · obtain ⟨p, left⟩ := State.leaveUp_eq (r := (v.link l).enterDown v.osc) nofun v l .reset
    rw [if_pos (by rw [link]; exact up), left, if_pos up, if_pos up]
    refine ⟨?_, ?_, ?_⟩
    · simp [State.emptyErrors, State.postLinkDown, State.linkNotice, LinkRecord.enterDown, link, osc]
    · simp [State.emptyErrors, State.postLinkDown, State.linkNotice, entry, RackEntry.toIdle]
    · rw [State.emptyErrors, State.setLink_driftOf, State.postLinkDown, State.raise, State.raiseWith_driftOf,
        State.linkNotice]
      exact (State.goIdle_drift _ l false).1
  · rw [if_neg (by rw [link]; exact up), if_neg up, if_neg up]
    refine ⟨?_, ?_, ?_⟩
    · simp [State.emptyErrors, State.linkNotice, LinkRecord.enterDown, link, osc]
    · simp [State.emptyErrors, State.linkNotice, entry]
    · exact (State.goIdle_drift _ l false).1

/-! ### SET LINK RANGE (R71) -/

theorem State.linkSummary_congr (same : t.link l = s.link l) : t.linkSummary l = s.linkSummary l := by
  rw [State.linkSummary, State.linkSummary, same]

/-- The fields of a SET LINK RANGE, read back. -/
theorem linkRangeFields (l : Link) (fits : first < 65536) (fits' : last < 65536) :
    linkOf (field (byteOf l.val ++ beBytes 2 first ++ beBytes 2 last) 0 1) = some l ∧
      field (byteOf l.val ++ beBytes 2 first ++ beBytes 2 last) 1 2 = first ∧
      field (byteOf l.val ++ beBytes 2 first ++ beBytes 2 last) 3 2 = last := by
  simp only [List.append_assoc]
  refine ⟨?_, ?_, ?_⟩
  all_goals simp (disch := simp) only [field_append, field_zero_append, field_all, beBytes_length,
    byteOf_length, Nat.reduceSub]
  · rw [natOfBytes_byteOf (by omega), linkOf_val]
  · exact natOfBytes_beBytes 2 _ (by simpa using fits)
  · exact natOfBytes_beBytes 2 _ (by simpa using fits')

theorem rangesOverlap_iff {a b c d : Nat} (ordered : a ≤ b) (ordered' : c ≤ d) :
    rangesOverlap a b c d = true ↔ ∃ id, a ≤ id ∧ id ≤ b ∧ c ≤ id ∧ id ≤ d := by
  rw [rangesOverlap, Bool.and_eq_true, decide_eq_true_eq, decide_eq_true_eq]
  refine ⟨fun ⟨ad, cb⟩ => ⟨max a c, by omega, by omega, by omega, by omega⟩, ?_⟩
  rintro ⟨id, _, _, _, _⟩
  omega

theorem State.overlapsEnabled_iff (ordered : first ≤ last)
    (others : ∀ m, (s.link m).rangeFirst ≤ (s.link m).rangeLast) :
    s.overlapsEnabled l first last = true ↔ ∃ m, m ≠ l ∧ (s.link m).enable = true ∧
      ∃ id, first ≤ id ∧ id ≤ last ∧ (s.link m).rangeFirst ≤ id ∧ id ≤ (s.link m).rangeLast := by
  rw [State.overlapsEnabled, List.any_eq_true]
  refine exists_congr fun m => ?_
  rw [Bool.and_eq_true, Bool.and_eq_true, decide_eq_true_eq, rangesOverlap_iff ordered (others m), and_assoc]
  exact and_iff_right (List.mem_finRange m)

/-- What a SET LINK RANGE with its fields read does (R71). -/
def linkRangeAnswer (l : Link) (first last : Nat) : Handler := fun s =>
  match s.mgp.mode with
  | .serving => answer s .wrongMode (s.linkSummary l)
  | .setup =>
    if last < first then answer s .range (s.linkSummary l)
    else if (s.link l).enable && s.overlapsEnabled l first last then answer s .overlap (s.linkSummary l)
    else answer (s.setLink l { s.link l with rangeFirst := first, rangeLast := last }) .done
      ((s.setLink l { s.link l with rangeFirst := first, rangeLast := last }).linkSummary l)

theorem setLinkRangeH_eq (l : Link) (fits : first < 65536) (fits' : last < 65536) (v : State) :
    setLinkRangeH (byteOf l.val ++ beBytes 2 first ++ beBytes 2 last) v = linkRangeAnswer l first last v := by
  obtain ⟨link, low, high⟩ := linkRangeFields l fits fits'
  rw [setLinkRangeH, withLength_of_eq _ (by simp), link, withField_some, low, high]
  rfl

theorem linkRangeAnswer_serving (serving : s.mgp.mode = .serving) :
    linkRangeAnswer l first last s = answer s .wrongMode (s.linkSummary l) := by
  rw [linkRangeAnswer, serving]

theorem linkRangeAnswer_inverted (setup : s.mgp.mode = .setup) (inverted : last < first) :
    linkRangeAnswer l first last s = answer s .range (s.linkSummary l) := by
  rw [linkRangeAnswer, setup]
  exact if_pos inverted

theorem linkRangeAnswer_overlap (setup : s.mgp.mode = .setup) (ordered : first ≤ last)
    (enabled : (s.link l).enable = true) (overlap : s.overlapsEnabled l first last = true) :
    linkRangeAnswer l first last s = answer s .overlap (s.linkSummary l) := by
  rw [linkRangeAnswer, setup]
  exact (if_neg (not_lt.mpr ordered)).trans (if_pos (by rw [enabled, overlap]; rfl))

theorem linkRangeAnswer_stored (setup : s.mgp.mode = .setup) (ordered : first ≤ last)
    (free : (s.link l).enable = false ∨ s.overlapsEnabled l first last = false) :
    linkRangeAnswer l first last s =
      answer (s.setLink l { s.link l with rangeFirst := first, rangeLast := last }) .done
        ((s.setLink l { s.link l with rangeFirst := first, rangeLast := last }).linkSummary l) := by
  rw [linkRangeAnswer, setup]
  refine (if_neg (not_lt.mpr ordered)).trans (if_neg ?_)
  rcases free with free | free <;> simp [free]

theorem exec_setLinkRange (accepts : Accepts s p) (l : Link) (fits : first < 65536) (fits' : last < 65536)
    {res : Result} {body : List Byte}
    (answered : linkRangeAnswer l first last (s.taken p 0x32#8 tag) = answer t res body) :
    exec (.setLinkRange p tag (byteOf l.val ++ beBytes 2 first ++ beBytes 2 last)) s =
      .next (t.replied p 0x32#8 tag res body) :=
  congrArg Host.Outcome.next (State.request_answered accepts 0x32#8 tag
    ((setLinkRangeH_eq l fits fits' _).trans answered))

theorem resetLinkH_eq (l : Link) (v : State) : resetLinkH (byteOf l.val) v =
    if (v.link l).state = .disabled then answer v .wrongState (v.linkSummary l)
    else finish v (v.resetLink l) .done (fun t => t.linkSummary l) := by
  have named : linkOf (field (byteOf l.val) 0 1) = some l := by
    rw [field_all (by simp), natOfBytes_byteOf (by omega), linkOf_val]
  rw [resetLinkH, withLength_of_eq _ (by simp), named, withField_some]

theorem exec_resetLink_disabled (accepts : Accepts s p) (disabled : (s.link l).state = .disabled) :
    exec (.resetLink p tag (byteOf l.val)) s =
      .next ((s.taken p 0x33#8 tag).replied p 0x33#8 tag .wrongState (s.linkSummary l)) := by
  refine congrArg Host.Outcome.next (State.request_answered accepts 0x33#8 tag ?_)
  rw [resetLinkH_eq, if_pos (by rw [State.taken_link]; exact disabled),
    State.linkSummary_congr (State.taken_link _ _ _ _ _)]
  rfl

theorem exec_resetLink (accepts : Accepts s p) (enabled : (s.link l).state ≠ .disabled)
    (taken : s.taken p 0x33#8 tag = v) : exec (.resetLink p tag (byteOf l.val)) s =
      .next ((State.endEvent v (v.resetLink l)).replied p 0x33#8 tag .done
        ((State.endEvent v (v.resetLink l)).linkSummary l)) := by
  have link : v.link l = s.link l := by rw [← taken]; exact State.taken_link _ _ _ _ _
  refine congrArg Host.Outcome.next (State.request_answered accepts 0x33#8 tag ?_)
  rw [taken, resetLinkH_eq, if_neg (by rw [link]; exact enabled)]
  rfl

/-- Settles O35: the refusals in order, the store, and what a reset leaves of a link. -/
theorem linkRangeAndReset : Obligations.LinkRangeAndReset := by
  intro p tag l s accepts
  refine ⟨fun first last fits fits' => ?_, exec_resetLink_disabled accepts, fun enabled => ?_⟩
  · dsimp only
    have mode : (s.taken p 0x32#8 tag).mgp.mode = s.mgp.mode := by simp
    have link (m : Link) : (s.taken p 0x32#8 tag).link m = s.link m := State.taken_link _ _ _ _ _
    have summary := State.linkSummary_congr (link l)
    have stored : ((s.taken p 0x32#8 tag).setLink l
        { s.link l with rangeFirst := first, rangeLast := last }).linkSummary l =
        (s.setLink l { s.link l with rangeFirst := first, rangeLast := last }).linkSummary l :=
      State.linkSummary_congr (by simp)
    have overlap : (s.taken p 0x32#8 tag).overlapsEnabled l first last = s.overlapsEnabled l first last := by
      simp only [State.overlapsEnabled, link]
    have answered {t : State} {res : Result} {body : List Byte} := exec_setLinkRange (t := t) (res := res)
      (body := body) (tag := tag) accepts l fits fits'
    refine ⟨fun serving => ?_, fun setup inverted => ?_, fun setup ordered enabled others => ?_,
      fun setup ordered disabled => ?_⟩
    · rw [answered (linkRangeAnswer_serving (mode.trans serving)), summary]
    · rw [answered (linkRangeAnswer_inverted (mode.trans setup) inverted), summary]
    · rw [← State.overlapsEnabled_iff ordered others, Bool.not_eq_true]
      refine ⟨fun overlaps => ?_, fun free => ?_⟩
      · rw [answered (linkRangeAnswer_overlap (mode.trans setup) ordered (by rw [link]; exact enabled)
          (overlap.trans overlaps)), summary]
      · rw [answered (linkRangeAnswer_stored (mode.trans setup) ordered (.inr (overlap.trans free))), link, stored]
    · rw [answered (linkRangeAnswer_stored (mode.trans setup) ordered (.inl (by rw [link]; exact disabled))),
        link, stored]
  · generalize taken : s.taken p 0x33#8 tag = v
    have same : v.link l = s.link l ∧ v.entry l = s.entry l ∧ v.osc = s.osc := by
      rw [← taken]; simp
    obtain ⟨c, link, entry, level⟩ := v.resetLink_at l
    have only := OnlyLink.resetLink v l
    have ended := EndedAs.of_onlyLink only (.of_state (by rw [entry]; rfl))
    have flagged := ended.entry l
    obtain ⟨sameLink, sameEntry, osc⟩ := same
    rw [entry, sameEntry] at flagged
    refine ⟨_, exec_resetLink accepts enabled taken, only.endEvent, ?_⟩
    rw [ended.link, link, ended.driftOf, flagged, sameLink, osc]
    exact ⟨rfl, rfl, rfl, rfl, rfl, rfl, rfl, fun up => ⟨if_pos up, if_pos up⟩, rfl, rfl, rfl, rfl, level⟩

end Sys2Proof.Machine
end

section
/-!
PROOFS. What drives the action flags of a link, and the moves of a rack entry that leave it or take the
entry out of service (R75, R84, R89, R90, R109).
-/

namespace Sys2Proof.Machine

variable {s t u v : State} {l m : Link}

/-! ### Kinds that drive no action (R168) -/

/-- The kinds whose activity drives the action flags of a link (R168). -/
def CondKind.drives (k : CondKind) : Bool :=
  decide (k = .driftAlarm ∨ k = .driftWatch ∨ k = .linkErrorRate)

theorem Cru.driving_of_drives {c c' : Cru} (actions : c'.actions = c.actions)
    (active : ∀ k, k.drives = true → c'.isActive k (.link m) = c.isActive k (.link m)) :
    c'.driving m = c.driving m := by
  rw [Cru.driving, Cru.driving, active .driftAlarm rfl, active .driftWatch rfl, active .linkErrorRate rfl, actions]

theorem CondKind.ne_of_drives {k k' : CondKind} (drives : k'.drives = true) (quiet : k.drives = false) :
    k' ≠ k := by
  rintro rfl
  rw [drives] at quiet
  cases quiet

section

variable {k : CondKind} (quiet : k.drives = false)
include quiet

theorem State.raiseWith_driving_quiet (s : State) (sc : Scope) (d : Details) (f : Bool) (m : Link) :
    (s.raiseWith k sc d f).cru.driving m = s.cru.driving m :=
  Cru.driving_of_drives (by simp) fun _ drives =>
    State.raise_isActive_ne s (CondKind.ne_of_drives drives quiet) sc d f m

theorem State.clearCond_driving_quiet (s : State) (sc : Scope) (m : Link) :
    (s.clearCond k sc).cru.driving m = s.cru.driving m :=
  Cru.driving_of_drives (s.cru.clear_actions _ _) fun _ drives =>
    Cru.isActive_clear_kind (CondKind.ne_of_drives drives quiet) _ _

end

section

variable (s : State) (l m : Link)

@[simp] theorem State.leaveState_driving (x : RackState) :
    (s.leaveState l x).cru.driving m = s.cru.driving m := by
  cases x with
  | coasting => exact State.clearCond_driving_quiet rfl s _ m
  | lost => exact State.clearCond_driving_quiet rfl s _ m
  | quarantined =>
    exact (State.clearCond_driving_quiet rfl _ _ m).trans ((State.clearCond_driving_quiet rfl _ _ m).trans
      (State.clearCond_driving_quiet rfl s _ m))
  | _ => rfl

/-- The states whose notice resets no drift record. -/
def RackState.exchanging (x : RackState) : Bool := decide (x = .tracking ∨ x = .coasting ∨ x = .acquiring)

theorem State.stateNotice_cru {x : RackState} (h : x.exchanging = true) : (s.stateNotice l x).cru = s.cru := by
  cases x with
  | tracking => rfl
  | coasting => rfl
  | acquiring => rfl
  | _ => cases h

/-! ### A trim lost (R109) -/

theorem State.enterAcquiring_entry : (s.enterAcquiring l).entry l =
    { s.entry l with state := .acquiring, coastCause := none } := by
  simp [State.enterAcquiring]

@[simp] theorem State.enterAcquiring_link : (s.enterAcquiring l).link m = s.link m := by
  simp [State.enterAcquiring]

@[simp] theorem State.enterAcquiring_driving : (s.enterAcquiring l).cru.driving m = s.cru.driving m := by
  rw [State.enterAcquiring, State.leaveState_driving]
  rfl

variable (old : RackState)

@[simp] theorem State.noticeAcquiring_entry : (s.noticeAcquiring l old).entry m = s.entry m := by
  unfold State.noticeAcquiring; split <;> simp

@[simp] theorem State.noticeAcquiring_link : (s.noticeAcquiring l old).link m = s.link m := by
  unfold State.noticeAcquiring; split <;> simp

@[simp] theorem State.noticeAcquiring_cru : (s.noticeAcquiring l old).cru = s.cru := by
  unfold State.noticeAcquiring
  split
  · rfl
  · exact State.stateNotice_cru _ _ rfl

end

/-- An entry whose trim in flight is lost (R109). -/
def RackEntry.trimLost (e : RackEntry) : RackEntry :=
  { e with current := none, predecessor := none, window := [], trim := none, unsettled := true
           state := .acquiring, coastCause := none }

section

variable {x : TrimInFlight} (trim : (s.entry l).trim = some x) (f : Bool)
include trim

theorem State.loseTrim_eq : s.loseTrim l f =
    ((((s.setEntry l { s.entry l with
        current := none, predecessor := none, window := [], trim := none, unsettled := true }).enterAcquiring
      l).raiseWith .trimLost (.link l)
      { oldState := some (s.entry l).state.code, newState := some RackState.acquiring.code,
        count := some x.generation } f).noticeAcquiring l (s.entry l).state) := by
  rw [State.loseTrim, trim]

theorem State.loseTrim_entry : (s.loseTrim l f).entry l = (s.entry l).trimLost := by
  rw [State.loseTrim_eq trim, State.noticeAcquiring_entry, State.raiseWith_entry, State.enterAcquiring_entry,
    State.entry_setEntry_same]
  rfl

theorem State.loseTrim_driving : (s.loseTrim l f).cru.driving m = s.cru.driving m := by
  rw [State.loseTrim_eq trim, State.noticeAcquiring_cru, State.raiseWith_driving_quiet rfl,
    State.enterAcquiring_driving]
  rfl

end

@[simp] theorem State.loseTrim_link (s : State) (l m : Link) (f : Bool) :
    (s.loseTrim l f).link m = s.link m := by
  unfold State.loseTrim
  dsimp only
  split <;> simp

/-! ### The rack lost (R89) -/

@[simp] theorem State.loseRack_entry (s : State) (l : Link) (f : Bool) :
    (s.loseRack l f).entry l = (s.entry l).toLost := by
  simp [State.loseRack]

@[simp] theorem State.loseRack_link (s : State) (l m : Link) (f : Bool) :
    (s.loseRack l f).link m = s.link m := by
  simp [State.loseRack]

/-- An entry that enters LOST is out of service. -/
theorem State.loseRack_calm (s : State) (l : Link) (f : Bool) : NoNewIsolate (s.loseRack l f) l :=
  .of_state (by rw [State.loseRack_entry]; rfl)

/-! ### The notice DOWN (R90) -/

theorem State.coastByLink_entry (s : State) (l : Link) :
    (s.coastByLink l).entry l = { s.entry l with state := .coasting, coastCause := some .link } := by
  simp [State.coastByLink]

theorem State.coastByLink_driving (s : State) (l m : Link) :
    (s.coastByLink l).cru.driving m = s.cru.driving m := by
  rw [State.coastByLink, State.stateNotice_cru _ _ rfl, State.raiseWith_driving_quiet rfl]
  rfl

@[simp] theorem State.dropEntry_link (s : State) (l m : Link) : (s.dropEntry l).link m = s.link m := by
  unfold State.dropEntry
  dsimp only
  repeat' split
  all_goals simp [State.abandonRack, State.coastByLink]

/-- The states and trims that the notice DOWN takes to LOST (R90). -/
def RackEntry.losesByLink (e : RackEntry) : Prop :=
  (e.state.inService = true ∧ e.trim ≠ none ∧ e.state ≠ .attaching) ∨ e.state = .attaching ∨
    e.state = .acquiring

theorem State.dropEntry_coasts (tracking : (s.entry l).state = .tracking) (quiet : (s.entry l).trim = none) :
    s.dropEntry l = s.coastByLink l := by
  rw [State.dropEntry, tracking, quiet]
  rfl

theorem State.dropEntry_recaused (coasting : (s.entry l).state = .coasting) (quiet : (s.entry l).trim = none) :
    s.dropEntry l = s.setEntry l { s.entry l with coastCause := some .link } := by
  unfold State.dropEntry
  dsimp only
  rw [coasting, quiet]
  rfl

theorem State.dropEntry_out (out : s.inService l = false) : s.dropEntry l = s := by
  unfold State.dropEntry
  dsimp only
  rw [State.inService] at out
  cases state : (s.entry l).state <;> rw [state] at out <;> first | rfl | cases out

theorem State.abandonRack_lost (trim : (s.entry l).trim ≠ none) : ∃ v : State,
    s.abandonRack l = v.loseRack l true ∧ (v.entry l).heldHello = (s.entry l).heldHello := by
  obtain ⟨x, trim⟩ := Option.ne_none_iff_exists'.mp trim
  exact ⟨s.loseTrim l true, rfl, by rw [State.loseTrim_entry trim]; rfl⟩

theorem State.dropEntry_lost (lost : (s.entry l).losesByLink) : ∃ v : State,
    s.dropEntry l = v.loseRack l true ∧ (v.entry l).heldHello = (s.entry l).heldHello := by
  unfold State.dropEntry
  dsimp only
  unfold RackEntry.losesByLink at lost
  cases state : (s.entry l).state with
  | attaching => exact ⟨s, rfl, rfl⟩
  | acquiring =>
    dsimp only
    split
    · next trim => exact State.abandonRack_lost (Option.isSome_iff_ne_none.mp trim)
    · exact ⟨s, rfl, rfl⟩
  | tracking =>
    have trim : (s.entry l).trim ≠ none := by simpa [state, RackState.inService] using lost
    dsimp only
    rw [if_pos (Option.isSome_iff_ne_none.mpr trim)]
    exact State.abandonRack_lost trim
  | coasting =>
    have trim : (s.entry l).trim ≠ none := by simpa [state, RackState.inService] using lost
    dsimp only
    rw [if_pos (Option.isSome_iff_ne_none.mpr trim)]
    exact State.abandonRack_lost trim
  | _ => simp [state, RackState.inService] at lost

/-- The notice DOWN by cases that exclude each other (R90). -/
theorem RackEntry.dropped_cases (e : RackEntry) : (e.state = .tracking ∧ e.trim = none) ∨
    (e.state = .coasting ∧ e.trim = none) ∨ e.losesByLink ∨ e.state.inService = false := by
  unfold RackEntry.losesByLink
  cases e.state <;> cases e.trim <;> simp [RackState.inService]

/-- The notice DOWN newly isolates no link: it clears at most, and where it clears the entry is out of
service. -/
theorem State.dropEntry_calm (s : State) (l : Link) :
    (s.dropEntry l).cru.driving l = s.cru.driving l ∨ NoNewIsolate (s.dropEntry l) l := by
  rcases (s.entry l).dropped_cases with ⟨tracking, quiet⟩ | ⟨coasting, quiet⟩ | lost | out
  · rw [State.dropEntry_coasts tracking quiet]
    exact .inl (s.coastByLink_driving l l)
  · rw [State.dropEntry_recaused coasting quiet]
    exact .inl rfl
  · obtain ⟨v, dropped, -⟩ := State.dropEntry_lost lost
    rw [dropped]
    exact .inr (v.loseRack_calm l true)
  · rw [State.dropEntry_out out]
    exact .inl rfl

/-- The notice DOWN keeps an entry without a HELLO and without a probe so. -/
theorem State.dropEntry_unplugged (held : (s.entry l).heldHello = none) (probe : (s.entry l).probe = none) :
    ((s.dropEntry l).entry l).heldHello = none ∧ ((s.dropEntry l).entry l).probe = none := by
  rcases (s.entry l).dropped_cases with ⟨tracking, quiet⟩ | ⟨coasting, quiet⟩ | lost | out
  · rw [State.dropEntry_coasts tracking quiet, State.coastByLink_entry]
    exact ⟨held, probe⟩
  · rw [State.dropEntry_recaused coasting quiet, State.entry_setEntry_same]
    exact ⟨held, probe⟩
  · obtain ⟨v, dropped, kept⟩ := State.dropEntry_lost lost
    rw [dropped, State.loseRack_entry]
    exact ⟨kept.trans held, rfl⟩
  · rw [State.dropEntry_out out]
    exact ⟨held, probe⟩

/-! ### A link falls (R58) -/

/-- The state in which the link notice of a fallen link is taken. -/
def State.fallen (s : State) (l : Link) : State :=
  (s.setLink l { (s.link l).enterDown s.osc with txQueue := [], inTx := none }).setEntry l (s.entry l).unplug

theorem State.linkFalls_eq (s : State) (l : Link) :
    s.linkFalls l = ((s.fallen l).dropEntry l).postLinkDown l (s.link l).checkRun := by
  obtain ⟨p, left⟩ := State.leaveUp_eq (r := (s.link l).enterDown s.osc) nofun s l .down
  rw [State.linkFalls, left]
  simp [State.linkNotice, State.noticeDown, State.fallen, RackEntry.unplug]

theorem State.fallen_entry (s : State) (l : Link) : (s.fallen l).entry l = (s.entry l).unplug := by
  simp [State.fallen]

theorem State.linkFalls_entry (s : State) (l : Link) :
    (s.linkFalls l).entry l = ((s.fallen l).dropEntry l).entry l := by
  rw [State.linkFalls_eq, State.postLinkDown, State.raise, State.raiseWith_entry]

theorem State.linkFalls_link (s : State) (l : Link) :
    (s.linkFalls l).link l = { (s.link l).enterDown s.osc with txQueue := [], inTx := none } := by
  rw [State.linkFalls_eq, State.postLinkDown, State.raise, State.raiseWith_link, State.dropEntry_link]
  simp [State.fallen]

theorem State.linkFalls_calm (s : State) (l : Link) :
    s.cru.driving l = (s.linkFalls l).cru.driving l ∨ NoNewIsolate (s.linkFalls l) l := by
  have driving : (s.linkFalls l).cru.driving l = ((s.fallen l).dropEntry l).cru.driving l := by
    rw [State.linkFalls_eq]
    exact State.raiseWith_driving_quiet rfl _ _ _ _ l
  refine ((s.fallen l).dropEntry_calm l).imp (fun same => (driving.trans same).symm) fun calm set => ?_
  rw [driving] at set
  rw [State.inService, State.linkFalls_entry]
  exact calm set

end Sys2Proof.Machine
end

section
/-!
PROOFS. A loss of lane activity by the state of the link (R54, R56 to R59, R90).
-/

namespace Sys2Proof.Machine

variable {s t u v : State} {l m : Link}

/-- An event of one link that leaves what drives it, or newly isolates nothing, at its end. -/
theorem EndedAs.of_link (only : OnlyLink l s t)
    (calm : s.cru.driving l = t.cru.driving l ∨ NoNewIsolate t l) : EndedAs t (State.endEvent s t) :=
  .of_calm fun m => by
    by_cases same : m = l
    · subst same; exact calm
    · exact .inl (only.others m same).driving.symm

theorem exec_laneActivityLost (s : State) (l : Link) :
    exec (.laneActivityLost l) s = .next (State.endEvent s (s.loseActivity l)) := rfl

/-- A link that is not UP takes a loss of lane activity without its entry (R54, R56). -/
theorem State.loseActivity_link {r : LinkRecord} (moved : s.loseActivity l = s.setLink l r) :
    (State.endEvent s (s.loseActivity l)).link l = r ∧
      (State.endEvent s (s.loseActivity l)).entry l = s.entry l := by
  rw [State.endEvent_of_same (.loseActivity l s) (by rw [moved]; rfl), moved]
  simp

theorem State.loseActivity_disabled (h : (s.link l).state = .disabled) :
    s.loseActivity l = s.setLink l (s.link l) := by
  rw [State.loseActivity, h]
  exact (State.setLink_self s l).symm

theorem State.loseActivity_down (h : (s.link l).state = .down) :
    s.loseActivity l = s.setLink l { s.link l with activity := false } := by
  unfold State.loseActivity
  dsimp only
  split <;> simp_all

theorem State.loseActivity_training (h : (s.link l).state = .training) :
    s.loseActivity l = s.setLink l ({ s.link l with activity := false }.enterDown s.osc) := by
  unfold State.loseActivity
  dsimp only
  split <;> simp_all

theorem State.loseActivity_up (h : (s.link l).state = .up) :
    s.loseActivity l = (s.setLink l { s.link l with activity := false }).linkFalls l := by
  unfold State.loseActivity
  dsimp only
  split <;> simp_all

/-- Settles O31: the record alone where the link is not UP, the fall of the link and its notice where it
is. -/
theorem laneActivityLost : Obligations.LaneActivityLost := by
  intro l s
  refine ⟨_, exec_laneActivityLost s l, (OnlyLink.loseActivity l s).endEvent,
    fun disabled => State.loseActivity_link (State.loseActivity_disabled disabled),
    fun down => State.loseActivity_link (State.loseActivity_down down),
    fun training => (State.loseActivity_link (State.loseActivity_training training)).symm, fun up => ?_⟩
  have ended : EndedAs (s.loseActivity l) (State.endEvent s (s.loseActivity l)) := by
    refine .of_link (.loseActivity l s) ?_
    rw [State.loseActivity_up up]
    exact State.linkFalls_calm (s.setLink l { s.link l with activity := false }) l
  have flagged := ended.entry l
  generalize fallen : (s.setLink l { s.link l with activity := false }).fallen l = f
  have dropped : (s.loseActivity l).entry l = (f.dropEntry l).entry l := by
    rw [State.loseActivity_up up, State.linkFalls_entry, fallen]
  rw [dropped] at flagged
  have entry : f.entry l = (s.entry l).unplug := by rw [← fallen, State.fallen_entry, State.setLink_entry]
  refine ⟨?_, ?_⟩
  · rw [ended.link, State.loseActivity_up up, State.linkFalls_link]
    simp [LinkRecord.enterDown]
  · obtain ⟨held, probe⟩ := State.dropEntry_unplugged (s := f) (l := l) (by rw [entry]; rfl) (by rw [entry]; rfl)
    rw [flagged]
    refine ⟨held, probe, fun tracking quiet => ?_, fun coasting quiet => ?_, fun lost => ?_, fun out => ?_⟩
    · rw [State.dropEntry_coasts (by rw [entry]; exact tracking) (by rw [entry]; exact quiet),
        State.coastByLink_entry, entry]
      exact ⟨rfl, rfl, rfl, rfl⟩
    · rw [State.dropEntry_recaused (by rw [entry]; exact coasting) (by rw [entry]; exact quiet),
        State.entry_setEntry_same, entry]
      exact ⟨coasting, rfl⟩
    · obtain ⟨v, dropped, -⟩ := State.dropEntry_lost (s := f) (l := l) (by rw [entry]; exact lost)
      rw [dropped, State.loseRack_entry]
      exact ⟨rfl, rfl, rfl, rfl, rfl⟩
    · rw [State.dropEntry_out (by rw [State.inService, entry]; exact out), entry]
      rfl

end Sys2Proof.Machine
end

section
/-!
PROOFS. Failed checks, unknown kinds, the error rate and its clearing (R63 to R66).
-/

namespace Sys2Proof.Machine

variable {s t u v : State} {l m : Link}

/-! ### What the end of an event leaves of a link (R91, R168) -/

/-- A link record without its queue. -/
def LinkRecord.unqueued (r : LinkRecord) : LinkRecord := { r with txQueue := [] }

theorem LinkRecord.of_unqueued {r r' : LinkRecord} (h : r'.unqueued = r.unqueued) :
    r' = { r with txQueue := r'.txQueue } := by
  cases r
  cases r'
  simpa [LinkRecord.unqueued] using h

/-- A DISMISS handed at the end of an event is no link error: the link is not UP, has room, or its entry is
out of service. -/
def State.Dismissible (s : State) (l : Link) : Prop :=
  (s.link l).state ≠ .up ∨ (s.link l).txQueue.length < 32 ∨ s.inService l = false

@[simp] theorem State.handDismiss_entry (s : State) (l m : Link) (q : QReason) :
    (s.handDismiss l q).entry m = s.entry m := by
  unfold State.handDismiss State.handFrame
  dsimp only
  split_ifs <;> simp [State.withdrawn]

theorem State.quarantine_unqueued (h : (s.link l).state ≠ .up ∨ (s.link l).txQueue.length < 32)
    (claimed : Option Nat) (q : QReason) :
    ((s.quarantine l claimed q).link l).unqueued = (s.link l).unqueued := by
  rw [State.quarantine_link_of]
  by_cases up : (s.link l).state = .up
  · rw [State.dismissed_room claimed q up (h.resolve_left (not_not.mpr up)), State.link_setLink_same]
    rfl
  · rw [State.dismissed, State.handDismiss, State.handFrame_down (by simpa using up)]
    rfl

theorem State.writeFlags_unqueued (h : s.Dismissible l) :
    ((s.writeFlags l).link l).unqueued = (s.link l).unqueued ∧ (s.writeFlags l).Dismissible l := by
  unfold State.writeFlags State.isolateSet
  dsimp only
  split
  · split
    · next set service =>
      have service : s.inService l = true := by simpa [State.inService] using service
      refine ⟨?_, .inr (.inr ?_)⟩
      · refine (State.quarantine_unqueued ?_ _ _).trans rfl
        exact h.imp_right fun h => h.resolve_right (by simp [service])
      · rw [State.inService, State.quarantine_entry_of, State.dismissed]
        simp [RackEntry.toQuarantine, RackState.inService]
    · exact ⟨rfl, by simpa [State.Dismissible, State.inService] using h⟩
  · exact ⟨rfl, by simpa [State.Dismissible, State.inService] using h⟩

theorem State.settleFlags_unqueued (h : s.Dismissible l) (before : State) (m : Link) :
    ((State.settleFlags before s m).link l).unqueued = (s.link l).unqueued ∧
      (State.settleFlags before s m).Dismissible l := by
  by_cases same : l = m
  · subst same
    have derived (before st : State) (h : st.Dismissible l) :
        ((State.deriveFlags before st l).link l).unqueued = (st.link l).unqueued ∧
          (State.deriveFlags before st l).Dismissible l := by
      unfold State.deriveFlags
      split
      · exact ⟨rfl, h⟩
      · exact State.writeFlags_unqueued h
    obtain ⟨first, still⟩ := derived before s h
    obtain ⟨second, after⟩ := derived s _ still
    exact ⟨second.trans first, after⟩
  · have kept := (OnlyLink.settleFlags m s before).others l same
    rw [State.Dismissible, State.inService, kept.link, kept.entry]
    exact ⟨rfl, h⟩

/-- The end of an event moves nothing of such a link but its queue. -/
theorem State.endEvent_unqueued (h : s.Dismissible l) (before : State) :
    ((State.endEvent before s).link l).unqueued = (s.link l).unqueued := by
  rw [State.endEvent, State.settleCru_link]
  refine (forLinks_keeps (P := fun st => (st.link l).unqueued = (s.link l).unqueued ∧ st.Dismissible l)
    (fun m st ⟨kept, still⟩ => ?_) s ⟨rfl, h⟩).1
  obtain ⟨settled, after⟩ := State.settleFlags_unqueued still before m
  exact ⟨settled.trans kept, after⟩

theorem LinkRecord.withError_errorFlag (r : LinkRecord) (now : Nat) : (r.withError now).errorFlag = true ↔
    r.errorFlag = true ∨ errorRateTest (appendErrorTime r.errorTimes now) r.n r.w now = true :=
  Bool.or_eq_true_iff

theorem LinkRecord.withError_clearInstant (r : LinkRecord) (now : Nat) (h : (r.withError now).errorFlag = true) :
    (r.withError now).clearInstant = some (now + r.w * 1000000000) :=
  if_pos h

/-! ### Failed checks and unknown kinds (R63, R64) -/

/-- A frame whose check fails (R63, R64), up to the eighth failure. -/
def State.checkFailed (s : State) (l : Link) : State :=
  (s.linkError l).setLink l
    { (s.link l).withError s.osc with checkRun := satAdd 8 (s.link l).checkRun 1 }

theorem State.failCheck_up (up : (s.link l).state = .up) : s.failCheck l =
    if 7 ≤ (s.link l).checkRun then (s.checkFailed l).linkFalls l else s.checkFailed l := by
  have checked : (s.linkError l).setLink l
      { (s.linkError l).link l with checkRun := satAdd 8 ((s.linkError l).link l).checkRun 1 } =
      s.checkFailed l := by
    rw [State.linkError_link_same]
    rfl
  rw [State.failCheck, State.isUp, if_pos (decide_eq_true up)]
  dsimp only
  rw [checked]
  refine if_congr ?_ rfl rfl
  simp only [State.checkFailed, State.link_setLink_same, satAdd_eq_min]
  omega

theorem State.checkFailed_link (s : State) (l : Link) : (s.checkFailed l).link l =
    { (s.link l).withError s.osc with checkRun := satAdd 8 (s.link l).checkRun 1 } :=
  State.link_setLink_same _ _ _

/-- What a failed check leaves of an UP link (R63, R64). -/
theorem State.failCheck_ended (up : (s.link l).state = .up) (room : (s.link l).txQueue.length < 32) :
    ((State.endEvent s (s.failCheck l)).link l).unqueued =
      (if 7 ≤ (s.link l).checkRun then
        { (s.checkFailed l).link l with
          state := .down, settleDeadline := some ((s.checkFailed l).osc + 10000000), trainingDeadline := none
          inTx := none }
      else (s.checkFailed l).link l).unqueued := by
  rw [State.failCheck_up up]
  split
  · rw [State.endEvent_unqueued (.inl (by rw [State.linkFalls_link]; exact nofun)), State.linkFalls_link]
    rfl
  · refine State.endEvent_unqueued (.inr (.inl ?_)) s
    rw [State.checkFailed_link]
    exact room

/-- A frame of an unknown kind (R63). -/
theorem State.unknownKind_ended (up : (s.link l).state = .up) (room : (s.link l).txQueue.length < 32) :
    ((State.endEvent s (s.goodFrame l fun t => t.linkError l)).link l).unqueued =
      ({ s.link l with checkRun := 0 }.withError s.osc).unqueued := by
  have good : s.goodFrame l (fun t => t.linkError l) =
      (s.setLink l { s.link l with checkRun := 0 }).linkError l := if_pos (decide_eq_true up)
  rw [good, State.endEvent_unqueued (.inr (.inl (by simpa using room))), State.linkError_link_same,
    State.link_setLink_same]
  rfl

/-! ### The clear instant (R66) -/

theorem Cru.isActive_clear_le (c : Cru) (k k' : CondKind) (sc sc' : Scope)
    (h : (c.clear k sc).isActive k' sc' = true) : c.isActive k' sc' = true := by
  cases before : c.isActive k' sc' with
  | true => rfl
  | false => rw [Cru.isActive_clear_of_inactive before] at h; cases h

/-- A clear isolates nothing anew. -/
theorem Driving.isolate_clear {c : Cru} {k : CondKind} {sc : Scope}
    (h : ((c.clear k sc).driving l).isolate = true) : (c.driving l).isolate = true := by
  have mono := fun k' => c.isActive_clear_le k k' sc (.link l)
  simp only [Driving.isolate, Cru.driving, Bool.or_eq_true, Bool.and_eq_true, Cru.clear_actions] at h ⊢
  exact h.imp (Or.imp (And.imp_left (mono _)) (And.imp_left (mono _))) (And.imp_left (mono _))

theorem State.clearErrorRate_calm (flags : FlagsMatch s l) : NoNewIsolate (s.clearErrorRate l) l :=
  fun set => .inl (flags.isolate.trans (Driving.isolate_clear set))

theorem State.errorRateClearDue_early {c : Nat} (due : (s.link l).clearInstant = some c) (early : s.osc < c) :
    s.errorRateClearDue l = s := by
  refine if_neg ?_
  simp [LinkRecord.clearReached, due, early]

theorem State.errorRateClearDue_reached {c : Nat} (flag : (s.link l).errorFlag = true)
    (due : (s.link l).clearInstant = some c) (late : c ≤ s.osc) :
    s.errorRateClearDue l = s.clearErrorRate l :=
  if_pos (by simp [LinkRecord.clearReached, due, flag, late])

/-- Settles O32: what a link error and a failed check move, the end of the event leaving all but the queue. -/
theorem linkErrorsCounted : Obligations.LinkErrorsCounted := by
  intro l s up short room flags
  dsimp only
  have times : appendErrorTime (s.link l).errorTimes s.osc =
    ((s.link l).errorTimes ++ [s.osc]).drop (((s.link l).errorTimes ++ [s.osc]).length - 16) :=
    appendErrorTime_eq short s.osc
  rw [← times, ← errorRateTest_iff]
  refine ⟨⟨_, rfl, (OnlyLink.failCheck l s).endEvent, ?_⟩, ⟨_, rfl,
    (OnlyLink.goodFrame l s fun t => OnlyLink.linkError l t).endEvent, ?_⟩, fun c flag due =>
      ⟨_, rfl, (OnlyLink.errorRateClearDue l s).endEvent, fun early => ?_, fun late => ?_⟩⟩
  · rw [LinkRecord.of_unqueued (State.failCheck_ended up room), State.checkFailed_link]
    have flag := (s.link l).withError_errorFlag s.osc
    have clear := (s.link l).withError_clearInstant s.osc
    have state : ((s.link l).withError s.osc).state = .up := up
    have errors : ((s.link l).withError s.osc).errorTimes = appendErrorTime (s.link l).errorTimes s.osc := rfl
    generalize (s.link l).withError s.osc = r at flag clear state errors
    split
    · exact ⟨errors, satAdd_eq_min _ _ _, rfl, flag, clear⟩
    · exact ⟨errors, satAdd_eq_min _ _ _, state, flag, clear⟩
  · rw [LinkRecord.of_unqueued (State.unknownKind_ended up room)]
    exact ⟨rfl, rfl, up, by simp [LinkRecord.withError]⟩
  · rw [State.errorRateClearDue_early due early, State.endEvent_of_same (.refl l s) rfl]
    simp
  · have ended := EndedAs.of_onlyLink (OnlyLink.errorRateClearDue l s) (by
      rw [State.errorRateClearDue_reached flag due late]; exact State.clearErrorRate_calm flags)
    rw [ended.link]
    refine ⟨?_, ended.inactive ?_⟩ <;> rw [State.errorRateClearDue_reached flag due late]
    · simp [State.clearErrorRate]
    · exact Cru.isActive_clear_self _ _ _

end Sys2Proof.Machine
end

section
/-!
PROOFS. Due probes and missed exchanges (R82 to R84).
-/

namespace Sys2Proof.Machine

variable {s t u v : State} {l m : Link}

/-! ### A due probe (R82) -/

/-- The frames of a due probe: a WELCOME that is owed, then the PROBE (R81, R82). -/
def State.probeFrames (s : State) (l : Link) : List TxFrame :=
  (if (s.entry l).welcomeOwed then [.welcome s.mgp.domainId s.mgp.domainInstance s.tsu.era
    (s.entry l).trimGeneration] else []) ++ [.probe (s.entry l).nextExchange]

theorem State.probeIfDue_cant (h : s.probeCanGo l = false) : s.probeIfDue l = s :=
  if_neg (by simp [h])

theorem State.probeIfDue_room (can : s.probeCanGo l = true) (room : (s.link l).txQueue.length ≤ 30) :
    s.probeIfDue l = (s.setEntry l ((s.entry l).openProbe s.osc)).setLink l
      { s.link l with txQueue := (s.link l).txQueue ++ s.probeFrames l } := by
  obtain ⟨-, up, -⟩ := State.probeCanGo_iff.mp can
  rw [State.probeIfDue, if_pos can]
  dsimp only
  split
  · next owed =>
    rw [State.handWelcome_room up (by omega), State.handProbe_room (by simpa using up) (by simp; omega)]
    simp [State.probeFrames, owed, State.setLink_setEntry_comm]
  · next owed =>
    rw [State.handProbe_room up (by omega), State.probeFrames, if_neg owed, List.nil_append]

/-- With room, a probe that is due posts nothing. -/
theorem State.probeIfDue_cru (room : (s.link l).txQueue.length ≤ 30) : (s.probeIfDue l).cru = s.cru := by
  cases can : s.probeCanGo l with
  | true => rw [State.probeIfDue_room can room]; rfl
  | false => rw [State.probeIfDue_cant can]

/-- With room, a probe that is due leaves all of the entry but exchange numbers and window. -/
theorem State.probeIfDue_entry (room : (s.link l).txQueue.length ≤ 30) : (s.probeIfDue l).entry l =
    if s.probeCanGo l then (s.entry l).openProbe s.osc else s.entry l := by
  split
  · next can => rw [State.probeIfDue_room can room]; simp
  · next cant => rw [State.probeIfDue_cant (eq_false_of_ne_true cant)]

/-! ### Missed exchanges (R84) -/

theorem RackEntry.exchangeOverdue_iff {e : RackEntry} {n : Nat} {d : ProbeDeparture}
    (probe : e.probe = some ⟨n, some d⟩) (now : Nat) :
    e.exchangeOverdue now = true ↔ d.sentAt + 2000000 ≤ now := by
  rw [RackEntry.exchangeOverdue, probe]
  exact decide_eq_true_iff

/-- The third miss of a TRACKING entry (R84). -/
theorem State.coastIfMissed_entry (s : State) (l : Link) : (s.coastIfMissed l).entry l =
    if (s.entry l).state = .tracking ∧ 3 ≤ (s.entry l).missed then
      { s.entry l with state := .coasting, coastCause := some .missed }
    else s.entry l := by
  unfold State.coastIfMissed
  dsimp only
  split <;> simp

@[simp] theorem State.coastIfMissed_link (s : State) (l m : Link) : (s.coastIfMissed l).link m = s.link m := by
  unfold State.coastIfMissed
  dsimp only
  split <;> simp

theorem State.coastIfMissed_driving (s : State) (l m : Link) :
    (s.coastIfMissed l).cru.driving m = s.cru.driving m := by
  unfold State.coastIfMissed
  dsimp only
  split
  · rw [State.stateNotice_cru _ _ rfl, State.raise, State.raiseWith_driving_quiet rfl]
    rfl
  · rfl

/-- A missed exchange (R84), up to the probe that may be due. -/
def State.missedExchange (s : State) (l : Link) : State :=
  (s.setEntry l { s.entry l with probe := none, missed := satAdd 255 (s.entry l).missed 1 }).coastIfMissed l

theorem State.exchangeTimeout_early (h : (s.entry l).exchangeOverdue s.osc = false) :
    s.exchangeTimeout l = s := if_neg (by simp [h])

theorem State.exchangeTimeout_reached (h : (s.entry l).exchangeOverdue s.osc = true) :
    s.exchangeTimeout l = (s.missedExchange l).probeIfDue l := if_pos h

/-- The entry after a missed exchange. -/
theorem State.missedExchange_entry (s : State) (l : Link) : ∃ e : RackEntry,
    (s.missedExchange l).entry l = e ∧ e.probe = none ∧ e.missed = min 255 ((s.entry l).missed + 1) ∧
      e.current = (s.entry l).current ∧ e.trim = (s.entry l).trim ∧ e.window = (s.entry l).window ∧
      e.nextProbeDue = (s.entry l).nextProbeDue ∧
      e.state = (if (s.entry l).state = .tracking ∧ 2 ≤ (s.entry l).missed then .coasting
        else (s.entry l).state) ∧
      ((s.entry l).state = .tracking → 2 ≤ (s.entry l).missed → e.coastCause = some .missed) := by
  refine ⟨_, rfl, ?_⟩
  rw [State.missedExchange, State.coastIfMissed_entry, State.entry_setEntry_same]
  have third : 3 ≤ satAdd 255 (s.entry l).missed 1 ↔ 2 ≤ (s.entry l).missed := by rw [satAdd_eq_min]; omega
  simp only [third]
  split
  · next coasts => exact ⟨rfl, satAdd_eq_min _ _ _, rfl, rfl, rfl, rfl, rfl, fun _ _ => rfl⟩
  · next stays =>
    exact ⟨rfl, satAdd_eq_min _ _ _, rfl, rfl, rfl, rfl, rfl, fun a b => absurd ⟨a, b⟩ stays⟩

@[simp] theorem State.missedExchange_link (s : State) (l m : Link) :
    (s.missedExchange l).link m = s.link m := by simp [State.missedExchange]

theorem State.missedExchange_osc (s : State) (l : Link) : (s.missedExchange l).osc = s.osc := by
  unfold State.missedExchange State.coastIfMissed
  dsimp only
  split <;> simp

/-- Settles O37: a probe handed where it can go, and a miss counted where the timeout is reached. -/
theorem probesAndMisses : Obligations.ProbesAndMisses := by
  intro l s room
  have onlyProbe := (OnlyLink.probeIfDue l s)
  refine ⟨fun d service up probe serving due late => ?_, fun cannot => ?_, fun n d probe => ?_⟩
  · have can := State.probeCanGo_iff.mpr ⟨service, up, probe, serving, d, due, late⟩
    refine ⟨_, rfl, onlyProbe.endEvent, ?_⟩
    rw [State.endEvent_of_same onlyProbe (by rw [State.probeIfDue_cru room]), State.probeIfDue_room can room]
    simp [RackEntry.openProbe, State.probeFrames]
  · have cant : s.probeCanGo l = false := by
      rw [← Bool.not_eq_true, State.probeCanGo_iff]
      rintro ⟨service, up, probe, serving, -⟩
      simp [service, up, probe, serving] at cannot
    have ended : exec (.probeDue l) s = .next s.settleCru := by
      refine (congrArg (fun x => Host.Outcome.next (State.endEvent s x)) (State.probeIfDue_cant cant)).trans ?_
      rw [State.endEvent_of_same (.refl l s) rfl]
    exact ⟨_, ended, State.settleCru_sameCore s, State.settleCru_sameAt s⟩
  · have only := OnlyLink.exchangeTimeout l s
    refine ⟨_, rfl, only.endEvent, fun early => ?_, fun late => ?_⟩
    · have notYet : (s.entry l).exchangeOverdue s.osc = false := by
        rw [← Bool.not_eq_true, RackEntry.exchangeOverdue_iff probe]; omega
      rw [State.exchangeTimeout_early notYet, State.endEvent_of_same (.refl l s) rfl]
      simp
    · obtain ⟨e, entry, noProbe, missed, current, trim, window, due, state, cause⟩ := s.missedExchange_entry l
      have reached := (RackEntry.exchangeOverdue_iff probe s.osc).mpr late
      have roomy : ((s.missedExchange l).link l).txQueue.length ≤ 30 := by simpa using room
      have same : (s.exchangeTimeout l).cru.driving l = s.cru.driving l := by
        rw [State.exchangeTimeout_reached reached, State.probeIfDue_cru roomy]
        exact State.coastIfMissed_driving _ l l
      rw [State.endEvent_of_same only same, State.exchangeTimeout_reached reached, State.settleCru_entry,
        State.probeIfDue_entry roomy, entry]
      split
      · next can =>
        refine ⟨missed, current, trim, state, cause, fun x next later => ?_⟩
        obtain ⟨-, -, -, -, d, reckoned, passed⟩ := State.probeCanGo_iff.mp can
        rw [entry, due, next] at reckoned
        rw [State.missedExchange_osc] at passed
        cases reckoned
        omega
      · exact ⟨missed, current, trim, state, cause, fun _ _ _ => ⟨noProbe, window⟩⟩

end Sys2Proof.Machine
end

section
/-!
PROOFS. The trim test (R103 to R106).
-/

namespace Sys2Proof.Machine

variable {s t u v : State} {l m : Link} {est : Estimate} {owed : Int}

/-- Nothing bars a trim: the RTM has the era of the reading, hall time is not FAILED, no trim is in flight
(R103). -/
structure TrimOpen (s : State) (l : Link) : Prop where
  era : s.readNow.era = s.rtmEra
  timed : s.rdu.tsState ≠ .failed
  free : (s.entry l).trim = none

theorem State.trimToBuild_barred (h : ¬ TrimOpen s l) : s.trimToBuild l = none := by
  refine if_pos ?_
  by_contra bar
  obtain ⟨era, rest⟩ := not_or.mp bar
  obtain ⟨timed, free⟩ := not_or.mp rest
  exact h ⟨not_not.mp era, timed, Option.not_isSome_iff_eq_none.mp free⟩

/-- The trim of an entry with a step owed (R103, R105). -/
def State.stepToBuild (s : State) (l : Link) (owed : Int) (est : Estimate) : Option TrimInFlight :=
  if ((s.entry l).state = .tracking ∨ (s.entry l).state = .acquiring ∨ (s.entry l).state = .coasting) ∧
      s.isUp l then
    some (stepTrim s.readNow.hall est (s.entry l).trimGeneration owed)
  else none

/-- The trim of an entry without (R103, R104). -/
def State.ordinaryToBuild (s : State) (l : Link) (est : Estimate) : Option TrimInFlight :=
  if (s.entry l).state = .tracking ∧ est.source = .fresh ∧ (s.entry l).isolate = false ∧
      (s.entry l).settings.trimInterval ≤ (s.entry l).sinceTrim then
    some (ordinaryTrim s.readNow.hall est (s.entry l).trimGeneration (s.entry l).degrade (s.entry l).settings)
  else none

theorem State.trimToBuild_open (h : TrimOpen s l) : s.trimToBuild l =
    match (s.entry l).stepOwed with
    | some owed => (s.entry l).current.bind (s.stepToBuild l owed)
    | none => (s.entry l).current.bind (s.ordinaryToBuild l) := by
  refine (if_neg ?_).trans ?_
  · rintro (era | failed | busy)
    · exact era h.era
    · exact h.timed failed
    · rw [h.free] at busy; cases busy
  · cases (s.entry l).stepOwed <;> cases (s.entry l).current <;> rfl

theorem State.trimToBuild_no_estimate (absent : (s.entry l).current = none) : s.trimToBuild l = none := by
  by_cases h : TrimOpen s l
  · rw [State.trimToBuild_open h, absent]
    cases (s.entry l).stepOwed <;> rfl
  · exact State.trimToBuild_barred h

section

variable (h : TrimOpen s l) (current : (s.entry l).current = some est)
include h current

theorem State.trimToBuild_step (step : (s.entry l).stepOwed = some owed) (up : (s.link l).state = .up)
    (state : (s.entry l).state = .tracking ∨ (s.entry l).state = .acquiring ∨ (s.entry l).state = .coasting) :
    s.trimToBuild l = some (stepTrim s.readNow.hall est (s.entry l).trimGeneration owed) := by
  rw [State.trimToBuild_open h, step, current]
  exact if_pos ⟨state, decide_eq_true up⟩

theorem State.trimToBuild_ordinary (step : (s.entry l).stepOwed = none)
    (tracking : (s.entry l).state = .tracking) (fresh : est.source = .fresh)
    (clear : (s.entry l).isolate = false) (due : (s.entry l).settings.trimInterval ≤ (s.entry l).sinceTrim) :
    s.trimToBuild l = some (ordinaryTrim s.readNow.hall est (s.entry l).trimGeneration
      (s.entry l).degrade (s.entry l).settings) := by
  rw [State.trimToBuild_open h, step, current]
  exact if_pos ⟨tracking, fresh, clear, due⟩

end

theorem State.trimToBuild_no_step (step : (s.entry l).stepOwed = some owed)
    (bar : ((s.entry l).state ≠ .tracking ∧ (s.entry l).state ≠ .acquiring ∧ (s.entry l).state ≠ .coasting) ∨
      (s.link l).state ≠ .up) : s.trimToBuild l = none := by
  by_cases h : TrimOpen s l
  · rw [State.trimToBuild_open h, step, Option.bind_eq_none_iff]
    intro est _
    refine if_neg ?_
    rintro ⟨state, up⟩
    rcases bar with ⟨a, b, c⟩ | down
    · exact state.elim a fun state => state.elim b c
    · exact down (of_decide_eq_true up)
  · exact State.trimToBuild_barred h

theorem State.trimToBuild_no_ordinary (step : (s.entry l).stepOwed = none)
    (bar : (s.entry l).state ≠ .tracking ∨ (∀ x, (s.entry l).current = some x → x.source = .carried) ∨
      (s.entry l).isolate = true ∨ (s.entry l).sinceTrim < (s.entry l).settings.trimInterval) :
    s.trimToBuild l = none := by
  by_cases h : TrimOpen s l
  · rw [State.trimToBuild_open h, step, Option.bind_eq_none_iff]
    intro est current
    refine if_neg ?_
    rintro ⟨tracking, fresh, clear, due⟩
    rcases bar with state | carried | isolated | early
    · exact state tracking
    · exact absurd ((carried est current).symm.trans fresh) nofun
    · exact absurd (isolated.symm.trans clear) nofun
    · omega
  · exact State.trimToBuild_barred h

theorem rackTime_exact {v : Int} (low : 0 ≤ v) (high : v < 18446744073709551616) : (rackTime v : Int) = v := by
  rw [rackTime, if_pos ⟨low, high⟩]
  exact Int.toNat_of_nonneg low

/-- A trim handed with room (R106). -/
theorem State.trimTest_built {x : TrimInFlight} (built : s.trimToBuild l = some x)
    (up : (s.link l).state = .up) (room : (s.link l).txQueue.length < 32) :
    s.trimTest l = (s.setEntry l { s.entry l with trim := some x }).setLink l
      { s.link l with txQueue := (s.link l).txQueue ++
          [.trim x.generation x.phase x.rate x.applyAt x.stepFlag] } := by
  rw [State.trimTest_some built, State.handFrame_room (by simpa using up) (by simpa using room),
    State.setEntry_link]
  rfl

/-- Settles O40: what the test builds, and each reason to build nothing. -/
theorem trimsBuilt : Obligations.TrimsBuilt := by
  refine ⟨fun l s bar => ?_, fun l est s up room era timed free current => ?_,
    fun l s => ⟨fun owed step bar => ?_, fun step bar => ?_⟩⟩
  · refine State.trimTest_none ?_
    rcases bar with era | failed | busy | absent
    · exact State.trimToBuild_barred fun h => era h.era
    · exact State.trimToBuild_barred fun h => h.timed failed
    · exact State.trimToBuild_barred fun h => busy h.free
    · exact State.trimToBuild_no_estimate absent
  · have h : TrimOpen s l := ⟨era, timed, free⟩
    refine ⟨fun step tracking fresh clear due => ?_, fun owed step state => ?_⟩
    · refine ⟨_, State.trimTest_built (State.trimToBuild_ordinary h current step tracking fresh clear due) up room,
        fun low high => rackTime_exact low high, rfl, clampSym_eq _ _, ?_, rfl, rfl⟩
      dsimp only [ordinaryTrim]
      rw [clampSym_eq]
    · exact ⟨_, State.trimTest_built (State.trimToBuild_step h current step up state) up room,
        fun low high => rackTime_exact low high, rfl, clampSym_eq _ _, rfl, rfl, rfl⟩
  · exact State.trimTest_none (State.trimToBuild_no_step step bar)
  · exact State.trimTest_none (State.trimToBuild_no_ordinary step bar)

end Sys2Proof.Machine
end

section
/-!
PROOFS. Trims settled: TRIM-DONE and the trim timeout (R92, R107, R109).
-/

namespace Sys2Proof.Machine

variable {s t u v : State} {l m : Link} {x : TrimInFlight}

/-! ### A completed trim (R107) -/

theorem stepOwedAfter_none (x : TrimInFlight) : stepOwedAfter none x = none := by
  unfold stepOwedAfter
  split <;> rfl

/-- The trim test that follows a completion builds nothing but a STEP trim (R103). -/
theorem State.completeTrim_rests {a : Nat} (step : (s.entry l).stepOwed = none) :
    s.completeTrim l x a = s.setEntry l ((s.entry l).completeTrim x a) := by
  refine State.trimTest_none (State.trimToBuild_no_ordinary ?_ (.inr (.inl fun y current => ?_)))
  · rw [State.entry_setEntry_same, RackEntry.completeTrim, step]
    exact stepOwedAfter_none x
  · rw [State.entry_setEntry_same] at current
    obtain ⟨z, -, rfl⟩ := Option.map_eq_some_iff.mp current
    rfl

/-- A completion with room: the entry's new fields, with the STEP trim that may follow. -/
theorem State.completeTrim_room (room : (s.link l).txQueue.length < 32) (x : TrimInFlight) (a : Nat) :
    ∃ trim r, s.completeTrim l x a =
        (s.setEntry l { (s.entry l).completeTrim x a with trim := trim }).setLink l r ∧
      ((s.entry l).stepOwed = none → trim = none) := by
  by_cases step : (s.entry l).stepOwed = none
  · refine ⟨none, s.link l, ?_, fun _ => rfl⟩
    rw [State.completeTrim_rests step]
    exact (State.setLink_self _ l).symm
  · obtain ⟨trim, r, built⟩ := State.trimTest_room (s := s.setEntry l ((s.entry l).completeTrim x a)) (l := l) room
    refine ⟨trim, r, built.trans ?_, fun none => absurd none step⟩
    rw [State.entry_setEntry_same, State.setEntry_setEntry]

/-- What a completion makes of the current estimate (R107). -/
theorem RackEntry.completeTrim_current {e : RackEntry} {c : Estimate} (current : e.current = some c) (a : Nat) :
    ∃ y, (e.completeTrim x a).current = some y ∧
      y.theta = c.theta + (((a : Int) - c.tau) * c.rho).tdiv 1000000000 + x.phase ∧
      y.rho = max (-200000) (min 200000 (c.rho + x.rate)) ∧ y.uRack = c.uRack ∧
      y.generation = x.generation ∧ y.source = .carried ∧
      (0 ≤ (a : Int) + x.phase → (a : Int) + x.phase < 18446744073709551616 →
        (y.tau : Int) = (a : Int) + x.phase) := by
  refine ⟨c.afterTrim x a, by rw [RackEntry.completeTrim, current]; rfl, rfl, clampSym_eq _ _, rfl, rfl, rfl,
    fun low high => rackTime_exact low high⟩

theorem stepOwedAfter_step {w : Int} (flag : x.stepFlag = true) :
    stepOwedAfter (some w) x = if w - x.phase = 0 then none else some (w - x.phase) :=
  if_pos flag

theorem stepOwedAfter_ordinary (flag : x.stepFlag = false) (owed : Option Int) : stepOwedAfter owed x = owed :=
  if_neg (ne_true_of_eq_false flag)

/-! ### TRIM-DONE (R92) -/

theorem exec_trimDone (g : BitVec 8) (a : BitVec 64) (up : (s.link l).state = .up) :
    exec (.trimDone l g a) s = .next (State.endEvent s
      ((s.setLink l { s.link l with checkRun := 0 }).takeTrimDone l g.toNat a.toNat)) := by
  have good : s.goodFrame l (fun t => t.takeTrimDone l g.toNat a.toNat) =
      (s.setLink l { s.link l with checkRun := 0 }).takeTrimDone l g.toNat a.toNat :=
    if_pos (decide_eq_true up)
  exact congrArg (fun x => Host.Outcome.next (State.endEvent s x)) good

section

variable (trim : (s.entry l).trim = some x)
include trim

theorem State.takeTrimDone_other {g : Nat} (other : g ≠ x.generation) (a : Nat) : s.takeTrimDone l g a = s := by
  rw [State.takeTrimDone, trim]
  exact if_neg (Ne.symm other)

theorem State.takeTrimDone_match (a : Nat) : s.takeTrimDone l x.generation a = s.completeTrim l x a := by
  rw [State.takeTrimDone, trim]
  exact if_pos rfl

/-! ### The trim timeout (R109) -/

theorem State.trimTimeout_early {o : Nat} (sent : x.sentAt = some o) (early : s.osc < o + 200000000) :
    s.trimTimeout l = s := by
  refine if_neg ?_
  simp only [RackEntry.trimOverdue, trim, sent, decide_eq_true_eq]
  omega

theorem State.trimTimeout_reached {o : Nat} (sent : x.sentAt = some o) (late : o + 200000000 ≤ s.osc) :
    s.trimTimeout l = s.loseTrim l false := by
  refine if_pos ?_
  simp only [RackEntry.trimOverdue, trim, sent, decide_eq_true_eq]
  exact late

end

/-- Settles O41: a completion with the trim test after it, and a loss that moves no flag. -/
theorem trimsSettled : Obligations.TrimsSettled := by
  intro l x s trim
  refine ⟨fun g a up room => ?_, fun o sent => ?_⟩
  · have only := (OnlyLink.setLink l s { s.link l with checkRun := 0 }).trans
      (.takeTrimDone l _ g.toNat a.toNat)
    refine ⟨_, exec_trimDone g a up, only.endEvent, ?_⟩
    generalize checked : s.setLink l { s.link l with checkRun := 0 } = v at only
    have entry : v.entry l = s.entry l := by rw [← checked]; simp
    have cru : v.cru = s.cru := by rw [← checked]; rfl
    have roomy : (v.link l).txQueue.length < 32 := by rw [← checked]; simpa using room
    have trimmed : (v.entry l).trim = some x := by rw [entry]; exact trim
    refine ⟨fun other => ?_, fun same => ?_⟩
    · have taken := State.takeTrimDone_other trimmed other a.toNat
      rw [State.endEvent_of_same only (by rw [taken, cru]), taken, State.settleCru_entry, entry]
    · have taken := State.takeTrimDone_match trimmed a.toNat
      rw [← same] at taken
      obtain ⟨next, r, completed, rests⟩ := State.completeTrim_room roomy x a.toNat
      rw [entry] at completed rests
      rw [State.endEvent_of_same only (by rw [taken, completed]; exact congrArg (Cru.driving · l) cru), taken,
        completed, State.settleCru_entry, State.setLink_entry, State.entry_setEntry_same]
      refine ⟨rfl, rfl, rfl, rfl, rfl, clampSym_eq _ _, fun flag => stepOwedAfter_ordinary flag _,
        fun w flag step => ?_, rests, fun none => ?_, fun c current => RackEntry.completeTrim_current current _⟩
      · rw [← stepOwedAfter_step flag, ← step]
        rfl
      · rw [RackEntry.completeTrim, none]
        rfl
  · have only : OnlyLink l s (s.trimTimeout l) := .trimTimeout l s
    refine ⟨_, rfl, only.endEvent, fun early => ?_, fun late => ?_⟩
    · have stays := State.trimTimeout_early trim sent early
      rw [State.endEvent_of_same only (by rw [stays]), stays]
      exact State.settleCru_sameAt s l
    · have lost := State.trimTimeout_reached trim sent late
      rw [State.endEvent_of_same only (by rw [lost, State.loseTrim_driving trim]), lost, State.settleCru_entry,
        State.loseTrim_entry trim]
      exact ⟨rfl, rfl, rfl, rfl, rfl, rfl, rfl, rfl, rfl, rfl, rfl⟩

end Sys2Proof.Machine
end

section
/-!
PROOFS. The loss deadline (R89) and CLEAR QUARANTINE (R93).
-/

namespace Sys2Proof.Machine

variable {s t u v : State} {l m : Link} {p : Port} {tag : Byte}

/-! ### The loss deadline (R89) -/

theorem RackEntry.lossReached_iff {e : RackEntry} {o : Nat} (accepted : e.lastAccepted = some o) (now : Nat) :
    e.lossReached now = true ↔ e.state.inService = true ∧ e.state ≠ .tracking ∧ o + 120000000000 ≤ now := by
  rw [RackEntry.lossReached, accepted]
  cases e.state <;> simp [RackState.inService]

theorem State.loseRack_drift (s : State) (l : Link) (f : Bool) :
    ((s.loseRack l f).driftOf l).level = .normal ∧ ((s.loseRack l f).driftOf l).notified = .lost :=
  State.stateNotice_reset_drift (.inr (.inl rfl)) _ l

/-! ### CLEAR QUARANTINE (R93) -/

/-- The kinds of the reasons of a quarantine (R79). -/
def CondKind.ofQuarantine (k : CondKind) : Prop := k = .duplicateRack ∨ k = .wrongRack ∨ k = .twinDomain

/-- An entry that leaves QUARANTINED leaves the condition of its reason cleared (R75). -/
theorem State.leaveQuarantine_inactive {k : CondKind} (h : k.ofQuarantine) (s : State) (l : Link) :
    (s.leaveState l .quarantined).cru.isActive k (.link l) = false := by
  have later {c : Cru} (k' : CondKind) (inactive : c.isActive k (.link l) = false) :
      (c.clear k' (.link l)).isActive k (.link l) = false := Cru.isActive_clear_of_inactive inactive _ _
  obtain rfl | rfl | rfl := h
  · exact later _ (later _ (Cru.isActive_clear_self _ _ _))
  · exact later _ (Cru.isActive_clear_self _ _ _)
  · exact Cru.isActive_clear_self _ _ _

theorem State.goIdle_quarantined {k : CondKind} (h : k.ofQuarantine) (state : (s.entry l).state = .quarantined)
    (keep : Bool) : (s.goIdle l keep).cru.isActive k (.link l) = false := by
  rw [State.goIdle, State.stateNotice_resets (.inr (.inr (.inl rfl))), state]
  exact Cru.isActive_clear_of_inactive (Cru.isActive_clear_of_inactive
    (State.leaveQuarantine_inactive h _ l) _ _) _ _

theorem clearQuarantineH_eq (l : Link) (v : State) : clearQuarantineH (byteOf l.val) v =
    if (v.entry l).state = .quarantined then finish v (v.goIdle l false) .done (fun t => t.rackSnapshot l)
    else answer v .wrongState (v.rackSnapshot l) := by
  have named : linkOf (field (byteOf l.val) 0 1) = some l := by
    rw [field_all (by simp), natOfBytes_byteOf (by omega), linkOf_val]
  rw [clearQuarantineH, withLength_of_eq _ (by simp), named, withField_some]

theorem exec_clearQuarantine_refused (accepts : Accepts s p) (free : (s.entry l).state ≠ .quarantined) :
    exec (.clearQuarantine p tag (byteOf l.val)) s =
      .next ((s.taken p 0x36#8 tag).replied p 0x36#8 tag .wrongState (s.rackSnapshot l)) := by
  refine congrArg Host.Outcome.next (State.request_answered accepts 0x36#8 tag ?_)
  rw [clearQuarantineH_eq, if_neg (by rw [State.taken_entry]; exact free), State.taken_rackSnapshot]
  rfl

theorem exec_clearQuarantine (accepts : Accepts s p) (held : (s.entry l).state = .quarantined)
    (taken : s.taken p 0x36#8 tag = v) : exec (.clearQuarantine p tag (byteOf l.val)) s =
      .next ((State.endEvent v (v.goIdle l false)).replied p 0x36#8 tag .done
        ((State.endEvent v (v.goIdle l false)).rackSnapshot l)) := by
  have entry : v.entry l = s.entry l := by rw [← taken]; exact State.taken_entry _ _ _ _ _
  refine congrArg Host.Outcome.next (State.request_answered accepts 0x36#8 tag ?_)
  rw [taken, clearQuarantineH_eq, if_pos (by rw [entry]; exact held)]
  rfl

/-- Settles O42: an entry in LOST, or IDLE, is out of service, so the end of the event writes flags alone. -/
theorem lossAndClearing : Obligations.LossAndClearing := by
  intro l s
  refine ⟨fun o accepted => ?_, fun p tag accepts => ⟨fun held => ?_, exec_clearQuarantine_refused accepts⟩⟩
  · have only : OnlyLink l s (s.lossDeadline l) := .lossDeadline l s
    have reached := RackEntry.lossReached_iff accepted s.osc
    refine ⟨_, rfl, only.endEvent, fun early => ?_, fun late service state => ?_⟩
    · have stays : s.lossDeadline l = s := if_neg (by
        rw [reached]
        rintro ⟨service, state, late⟩
        rcases early with early | out | tracking
        · omega
        · exact absurd (service.symm.trans out) nofun
        · exact state tracking)
      rw [State.endEvent_of_same only (by rw [stays]), stays]
      exact State.settleCru_sameAt s l
    · have lost : s.lossDeadline l = s.loseRack l (decide ((s.entry l).coastCause = some .link)) :=
        if_pos (reached.mpr ⟨service, state, late⟩)
      rw [lost] at only ⊢
      have ended := EndedAs.of_onlyLink only (s.loseRack_calm l _)
      have flagged := ended.entry l
      rw [State.loseRack_entry] at flagged
      rw [ended.link, ended.driftOf, flagged, State.loseRack_link]
      exact ⟨rfl, rfl, rfl, rfl, rfl, rfl, rfl, rfl, rfl, rfl, rfl, State.loseRack_drift s l _⟩
  · generalize taken : s.taken p 0x36#8 tag = v
    have link : v.link l = s.link l := by rw [← taken]; exact State.taken_link _ _ _ _ _
    have entry : v.entry l = s.entry l := by rw [← taken]; exact State.taken_entry _ _ _ _ _
    have only : OnlyLink l v (v.goIdle l false) := .goIdle l v false
    have ended := EndedAs.of_onlyLink only (.of_state (by rw [State.goIdle_entry]; rfl))
    have state : (v.entry l).state = .quarantined := by rw [entry]; exact held
    have flagged := ended.entry l
    rw [State.goIdle_entry, entry] at flagged
    refine ⟨_, exec_clearQuarantine accepts held taken, only.endEvent, ?_⟩
    rw [flagged, ended.link, State.goIdle_link, link]
    exact ⟨rfl, rfl, rfl, rfl, rfl, rfl, rfl, rfl, rfl,
      ended.inactive (State.goIdle_quarantined (.inl rfl) state false),
      ended.inactive (State.goIdle_quarantined (.inr (.inl rfl)) state false),
      ended.inactive (State.goIdle_quarantined (.inr (.inr rfl)) state false)⟩

end Sys2Proof.Machine
end

section
/-!
PROOFS. SET RECORDING (R169) and SET ACTION (R168, R171).
-/

namespace Sys2Proof.Machine

variable {s t u v : State} {l m : Link} {p : Port} {tag : Byte} {k : CondKind} {c : Cru}

/-! ### Recording switches (R169) -/

/-- Clears of a list of scopes of one kind. -/
def Cru.clearScopes (c : Cru) (k : CondKind) (scopes : List Scope) : Cru :=
  scopes.foldl (fun d sc => d.clear k sc) c

theorem Cru.clearScopes_inactive {k' : CondKind} {sc : Scope} (h : c.isActive k' sc = false)
    (scopes : List Scope) : (c.clearScopes k scopes).isActive k' sc = false := by
  induction scopes generalizing c with
  | nil => exact h
  | cons x xs ih => exact ih (Cru.isActive_clear_of_inactive h k x)

theorem Cru.clearScopes_mem {sc : Scope} {scopes : List Scope} (h : sc ∈ scopes) :
    (c.clearScopes k scopes).isActive k sc = false := by
  induction scopes generalizing c with
  | nil => cases h
  | cons x xs ih =>
    rcases List.mem_cons.mp h with rfl | later
    · exact Cru.clearScopes_inactive (Cru.isActive_clear_self c k _) xs
    · exact ih later

theorem Cru.clearScopes_actions (scopes : List Scope) : (c.clearScopes k scopes).actions = c.actions := by
  induction scopes generalizing c with
  | nil => rfl
  | cons x xs ih => exact ih.trans (c.clear_actions k x)

/-- Clearing every active scope of a kind leaves none active. -/
theorem Cru.clearScopes_all (c : Cru) (k : CondKind) (sc : Scope) :
    (c.clearScopes k (c.activeScopes k)).isActive k sc = false := by
  cases active : c.isActive k sc with
  | false => exact Cru.clearScopes_inactive active _
  | true =>
    refine Cru.clearScopes_mem (List.mem_map.mpr ⟨(k, sc), List.mem_filter.mpr ⟨?_, decide_eq_true rfl⟩, rfl⟩)
    exact List.contains_iff_mem.mp active

theorem Cru.setRecording_on (c : Cru) (k x : CondKind) :
    (c.setRecording k true).records? x = (c.records? x || decide (x = k)) := by
  by_cases same : x = k
  · simp [Cru.setRecording, Cru.records?, same]
  · simp [Cru.setRecording, Cru.records?, same]

theorem Cru.setRecording_off_active (c : Cru) (k k' : CondKind) (sc : Scope) :
    (c.setRecording k false).isActive k' sc = (c.clearScopes k (c.activeScopes k)).isActive k' sc := by
  simp only [Cru.setRecording, Bool.false_eq_true, if_false]
  split <;> rfl

theorem Cru.setRecording_off_actions (c : Cru) (k : CondKind) : (c.setRecording k false).actions = c.actions := by
  simp only [Cru.setRecording, Bool.false_eq_true, if_false]
  split <;> exact Cru.clearScopes_actions _

theorem Cru.setRecording_off_records (c : Cru) (repressible : k.isExigent = false) :
    (c.setRecording k false).records? k = false := by
  simp only [Cru.setRecording, Bool.false_eq_true, if_false]
  split
  · next off => simp only [Cru.records?, repressible, off]; rfl
  · simp [Cru.records?, repressible]

/-- A switch turned off isolates no link that was not. -/
theorem Cru.setRecording_off_driving (c : Cru) (k : CondKind)
    (h : ((c.setRecording k false).driving l).isolate = true) : (c.driving l).isolate = true := by
  have mono (k' : CondKind) (active : (c.setRecording k false).isActive k' (.link l) = true) :
      c.isActive k' (.link l) = true := by
    rw [Cru.setRecording_off_active] at active
    cases before : c.isActive k' (.link l) with
    | true => rfl
    | false => rw [Cru.clearScopes_inactive before] at active; cases active
  simp only [Driving.isolate, Cru.driving, Bool.or_eq_true, Bool.and_eq_true,
    Cru.setRecording_off_actions] at h ⊢
  exact h.imp (Or.imp (And.imp_left (mono _)) (And.imp_left (mono _))) (And.imp_left (mono _))

/-! ### Actions (R168, R171) -/

/-- The end of an event that newly sets ISOLATE on an entry in service quarantines it (R91, R168). -/
theorem State.writeFlags_isolates (service : s.inService l = true) (clear : (s.entry l).isolate = false)
    (set : (s.cru.driving l).isolate = true) : ((s.writeFlags l).entry l).state = .quarantined ∧
      ((s.writeFlags l).entry l).quarantineReason = some .isolated := by
  have newly : ((s.cru.driving l).isolate && !(s.entry l).isolate) = true := by rw [set, clear]; rfl
  unfold State.writeFlags
  dsimp only
  rw [if_pos newly, State.isolateSet, if_pos (by simpa [State.inService] using service),
    State.quarantine_entry_of, State.dismissed, State.handDismiss_entry, State.entry_setEntry_same]
  exact ⟨rfl, rfl⟩

/-- Flags written to an entry out of service leave the rest of it. -/
theorem State.writeFlags_out (out : s.inService l = false) : s.writeFlags l = s.flagged l :=
  State.writeFlags_eq fun _ => .inr out

theorem State.deriveFlags_out {before : State} (out : s.inService l = false) :
    State.deriveFlags before s l = s ∨ State.deriveFlags before s l = s.flagged l := by
  by_cases same : before.cru.driving l = s.cru.driving l
  · exact .inl (State.deriveFlags_same same)
  · exact .inr ((State.deriveFlags_moved same).trans (State.writeFlags_out out))

theorem State.endEvent_isolates {before : State} (service : s.inService l = true)
    (clear : (s.entry l).isolate = false) (moved : before.cru.driving l ≠ s.cru.driving l)
    (set : (s.cru.driving l).isolate = true) : ((State.endEvent before s).entry l).state = .quarantined ∧
      ((State.endEvent before s).entry l).quarantineReason = some .isolated := by
  obtain ⟨st, -, same, after⟩ := forLinks_at (f := fun l st => State.settleFlags before st l)
    (fun m st => OnlyLink.settleFlags m st before) s l
  have isolated := State.writeFlags_isolates (s := st) (l := l) (by rw [State.inService, same.entry]; exact service)
    (by rw [same.entry]; exact clear) (by rw [same.driving]; exact set)
  rw [State.endEvent, State.settleCru_entry, after.entry, State.settleFlags,
    State.deriveFlags_moved (s := st) (before := before) (by rw [same.driving]; exact moved)]
  generalize st.writeFlags l = w at isolated
  have out : w.inService l = false := by rw [State.inService, isolated.1]; rfl
  rcases State.deriveFlags_out (before := st) out with stays | flagged
  · rw [stays]; exact isolated
  · rw [flagged, State.flagged, State.entry_setEntry_same]; exact isolated

/-! ### SET RECORDING (R169) -/

theorem CondKind.ofCode_code (k : CondKind) : CondKind.ofCode k.code = some k := by cases k <;> rfl

theorem CondKind.code_lt (k : CondKind) : k.code < 256 := by cases k <;> decide

/-- What a SET RECORDING with its fields read does. -/
def recordingAnswer (k : CondKind) (on : Bool) : Handler := fun s =>
  if k.isExigent then answer s (clampResult (!on)) (byteOf k.code ++ [1#8])
  else finish s (s.setCru (s.cru.setRecording k on)) .done (fun _ => byteOf k.code ++ [flagByte on])

theorem setRecordingH_eq (k : CondKind) (on : Bool) (v : State) :
    setRecordingH (byteOf k.code ++ [flagByte on]) v = recordingAnswer k on v := by
  have kind : field (byteOf k.code ++ [flagByte on]) 0 1 = k.code := by
    rw [field_zero_append _ _ _ (by simp), natOfBytes_byteOf k.code_lt]
  have flag : flagField (byteOf k.code ++ [flagByte on]) 1 = some on := by
    rw [flagField, field_append _ _ _ _ (by simp), byteOf_length, Nat.sub_self, field_all (n := 1) rfl, natOfBytes_singleton,
      flagByte_toNat, flagOf_toNat]
  rw [setRecordingH, withLength_of_eq _ (by simp), kind, CondKind.ofCode_code, withField_some, flag,
    withField_some]
  rfl

theorem exec_setRecording_exigent (accepts : Accepts s p) (exigent : k.isExigent = true) (on : Bool) :
    exec (.setRecording p tag (byteOf k.code ++ [flagByte on])) s =
      .next ((s.taken p 0x52#8 tag).replied p 0x52#8 tag (clampResult (!on)) (byteOf k.code ++ [1#8])) := by
  refine congrArg Host.Outcome.next (State.request_answered accepts 0x52#8 tag ?_)
  rw [setRecordingH_eq, recordingAnswer, if_pos exigent]
  rfl

theorem exec_setRecording (accepts : Accepts s p) (repressible : k.isExigent = false) (on : Bool)
    (taken : s.taken p 0x52#8 tag = v) : exec (.setRecording p tag (byteOf k.code ++ [flagByte on])) s =
      .next ((State.endEvent v (v.setCru (v.cru.setRecording k on))).replied p 0x52#8 tag .done
        (byteOf k.code ++ [flagByte on])) := by
  refine congrArg Host.Outcome.next (State.request_answered accepts 0x52#8 tag ?_)
  rw [taken, setRecordingH_eq, recordingAnswer, if_neg (ne_true_of_eq_false repressible)]
  rfl

/-! ### SET ACTION (R171) -/

theorem Cru.setAction_driving_ne {g : Fin 5} (other : groupIndex l ≠ g) (c : Cru) (drift : Bool) (a : Action) :
    (c.setAction (some g) drift a).driving l = c.driving l := by
  have actions : (c.setAction (some g) drift a).actions[groupIndex l] = c.actions[groupIndex l] :=
    Vector.getElem_set_ne g.isLt (groupIndex l).isLt fun same => other (Fin.ext same.symm)
  rw [Cru.driving, Cru.driving, actions]
  rfl

/-- The action ISOLATE of a kind that is active on a link of the group isolates the link. -/
theorem Cru.setAction_isolates {drift : Bool} (c : Cru)
    (driven : c.isActive .driftAlarm (.link l) = true ∧ drift = true ∨
      c.isActive .linkErrorRate (.link l) = true ∧ drift = false) :
    ((c.setAction (some (groupIndex l)) drift .isolate).driving l).isolate = true := by
  have actions : (c.setAction (some (groupIndex l)) drift .isolate).actions[groupIndex l] =
      c.actions[groupIndex l].write drift .isolate := Vector.getElem_set_self _
  have driving : (c.setAction (some (groupIndex l)) drift .isolate).driving l =
      { c.driving l with actions := c.actions[groupIndex l].write drift .isolate } :=
    congrArg (Driving.mk _ _ _) actions
  rw [driving]
  rcases driven with ⟨active, rfl⟩ | ⟨active, rfl⟩ <;>
    simp [Driving.isolate, Cru.driving, active, GroupActions.write]

/-- The byte that names the kind of an action (R171). -/
def actionKindByte (drift : Bool) : List Byte := byteOf (if drift then 19 else 9)

theorem actionKindOf_byte (drift : Bool) : actionKindOf (natOfBytes (actionKindByte drift)) = some drift := by
  cases drift <;> rfl

theorem actionOf_code (a : Action) : actionOf (natOfBytes (byteOf a.code)) = some a := by cases a <;> rfl

theorem setActionH_eq {head : List Byte} (one : head.length = 1) {sel : Option (Fin 5)}
    (named : groupSelectorOf (natOfBytes head) = some sel) (drift : Bool) (a : Action) (v : State) :
    setActionH (head ++ actionKindByte drift ++ byteOf a.code) v =
      finish v (v.setCru (v.cru.setAction sel drift a)) .done State.actionsBody := by
  have kindLength : (actionKindByte drift).length = 1 := byteOf_length _
  have first : field (head ++ actionKindByte drift ++ byteOf a.code) 0 1 = natOfBytes head := by
    rw [List.append_assoc, field_zero_append _ _ _ one]
  have second : field (head ++ actionKindByte drift ++ byteOf a.code) 1 1 =
      natOfBytes (actionKindByte drift) := by
    rw [List.append_assoc, field_append _ _ _ _ (by rw [one]), one, field_zero_append _ _ _ kindLength]
  have third : field (head ++ actionKindByte drift ++ byteOf a.code) 2 1 = natOfBytes (byteOf a.code) := by
    rw [field_append _ _ _ _ (by simp [one, kindLength]), List.length_append, one, kindLength]
    exact field_all (by simp)
  rw [setActionH, withLength_of_eq _ (by simp [one, kindLength]), first, named, withField_some, second,
    actionKindOf_byte, withField_some, third, actionOf_code, withField_some]

theorem exec_setAction (accepts : Accepts s p) {head : List Byte} (one : head.length = 1)
    {sel : Option (Fin 5)} (named : groupSelectorOf (natOfBytes head) = some sel) (drift : Bool) (a : Action)
    (taken : s.taken p 0x53#8 tag = v) :
    exec (.setAction p tag (head ++ actionKindByte drift ++ byteOf a.code)) s =
      .next ((State.endEvent v (v.setCru (v.cru.setAction sel drift a))).replied p 0x53#8 tag .done
        (State.endEvent v (v.setCru (v.cru.setAction sel drift a))).actionsBody) := by
  refine congrArg Host.Outcome.next (State.request_answered accepts 0x53#8 tag ?_)
  rw [taken, setActionH_eq one named]
  rfl

theorem State.settleCru_records (s : State) (k : CondKind) : s.settleCru.cru.records? k = s.cru.records? k :=
  s.cru.settleListFull_switches.records k

theorem FlagsMatch.of_eq (h : FlagsMatch s l) (entry : t.entry l = s.entry l)
    (driving : t.cru.driving l = s.cru.driving l) : FlagsMatch t l :=
  ⟨by rw [entry, driving]; exact h.degrade, by rw [entry, driving]; exact h.isolate⟩

/-- A write to the condition reporting unit alone leaves the flags matching at the end of its event. -/
theorem FlagsMatch.setCru (h : FlagsMatch s l) (c : Cru) :
    FlagsMatch (State.endEvent s (s.setCru c)) l :=
  FlagsMatch.endEvent l fun same => h.of_eq rfl same.symm

/-- A switch turned off, at the end of its event. -/
theorem State.setRecording_off_ended (flags : ∀ l, s.inService l = true → FlagsMatch s l) (k : CondKind) :
    EndedAs (s.setCru (s.cru.setRecording k false))
      (State.endEvent s (s.setCru (s.cru.setRecording k false))) := by
  refine .of_calm fun m => .inr fun set => ?_
  cases service : s.inService m with
  | true => exact .inl ((flags m service).isolate.trans (Cru.setRecording_off_driving _ _ set))
  | false => exact .inr service

/-- The actions in force stand over the end of an event. -/
theorem State.endEvent_actions (before s : State) : (State.endEvent before s).cru.actions = s.cru.actions :=
  (Acts.endEvent (p := ⟨True, False, True, False⟩) s trivial trivial (.refl s)).actions fun both => both.2

/-- Settles O53: the switch or the actions stored, and the flags the end of the event writes. -/
theorem recordingAndActions : Obligations.RecordingAndActions := by
  refine ⟨fun p tag k on s accepts => ?_, fun p tag g drift a s accepts => ?_, fun p tag drift a s accepts => ?_⟩
  · cases exigent : k.isExigent with
    | true =>
      refine ⟨_, (exec_setRecording_exigent accepts exigent on).trans ?_, fun _ => rfl, nofun, nofun⟩
      cases on <;> rfl
    | false =>
      generalize taken : s.taken p 0x52#8 tag = v
      have cru : v.cru = s.cru := by rw [← taken]; simp
      have entry (l : Link) : v.entry l = s.entry l := by rw [← taken]; simp
      have flagsOf {l : Link} (h : FlagsMatch s l) : FlagsMatch v l := h.of_eq (entry l) (by rw [cru])
      refine ⟨State.endEvent v (v.setCru (v.cru.setRecording k on)),
        (exec_setRecording accepts exigent on taken).trans ?_, nofun, fun _ set x => ?_,
        fun _ off flags => ?_⟩
      · cases on <;> rfl
      · subst set
        rw [State.endEvent_quiet v (v.setCru (v.cru.setRecording k true)) fun _ => rfl, State.settleCru_records, State.setCru_cru,
          Cru.setRecording_on, cru]
      · subst off
        have ended := State.setRecording_off_ended (s := v) (fun l service => flagsOf (flags l
          (by rw [State.inService, ← entry]; exact service))) k
        refine ⟨fun sc => ended.inactive ?_, ?_, fun l matched => (flagsOf matched).setCru _⟩
        · exact (Cru.setRecording_off_active _ _ _ _).trans (Cru.clearScopes_all _ _ _)
        · rw [ended.cru, State.settleCru_records]
          exact Cru.setRecording_off_records _ exigent
  · generalize taken : s.taken p 0x53#8 tag = v
    have cru : v.cru = s.cru := by rw [← taken]; simp
    have same (l : Link) : SameAt l s v := by rw [← taken]; exact ⟨by simp, by simp, by simp, by simp⟩
    have flagsOf {l : Link} (h : FlagsMatch s l) : FlagsMatch v l := h.of_eq (same l).entry (by rw [cru])
    have named : groupSelectorOf (natOfBytes (byteOf g.val)) = some (some g) := by
      rw [natOfBytes_byteOf (by omega), groupSelectorOf, if_neg (by omega), groupOf, dif_pos g.isLt]
      rfl
    have stored : (v.cru.setAction (some g) drift a).actions = s.cru.actions.set g
        (if drift then { s.cru.actions[g] with driftAlarm := a }
          else { s.cru.actions[g] with linkErrorRate := a }) := by
      rw [cru]; rfl
    refine ⟨_, exec_setAction accepts (byteOf_length _) named drift a taken, ?_, fun l other => ?_,
      fun l matched => (flagsOf matched).setCru _, fun l inGroup matched service driven isolate clear => ?_⟩
    · rw [State.endEvent_actions, State.setCru_cru, stored]
    · have driving := v.cru.setAction_driving_ne other drift a
      have kept : SameAt l v (v.setCru (v.cru.setAction (some g) drift a)) := ⟨rfl, rfl, rfl, driving⟩
      exact (same l).trans (kept.trans (State.endEvent_sameAt v _ l kept.driving.symm))
    · subst inGroup isolate
      have set := v.cru.setAction_isolates (l := l) (drift := drift) (by rw [cru]; exact driven)
      have entry := (same l).entry
      refine State.endEvent_isolates (s := v.setCru _) (by rw [State.inService, State.setCru_entry, entry]; exact service)
        (by rw [State.setCru_entry, entry]; exact clear) (fun still => ?_) set
      have before := (flagsOf matched).isolate
      rw [still, entry, clear] at before
      exact absurd (before.trans set) nofun
  · generalize taken : s.taken p 0x53#8 tag = v
    have cru : v.cru = s.cru := by rw [← taken]; simp
    have entry (l : Link) : v.entry l = s.entry l := by rw [← taken]; simp
    refine ⟨_, exec_setAction accepts (head := [255#8]) (sel := none) rfl rfl drift a taken, fun g => ?_,
      fun l matched => (matched.of_eq (entry l) (by rw [cru])).setCru _⟩
    rw [State.endEvent_actions, State.setCru_cru, cru]
    exact (Vector.getElem_map _ _).trans rfl

end Sys2Proof.Machine
end

section
/-!
PROOFS. The end of an event of the condition reporting unit: CONDITION_LIST_FULL judged and the attention
lines driven (R162, R163, R165).
-/

namespace Sys2Proof.Machine

variable {s t : State} {u c d : Cru} {k : CondKind} {sc : Scope}

/-! ### The reserved slot apart from the list (R162) -/

theorem Cru.SlotApart.of_records (h : c.SlotApart) (list : ∀ x ∈ u.list, ∃ y ∈ c.list, x.kind = y.kind)
    (slot : ∀ x, u.reserved = some x → ∃ y, c.reserved = some y ∧ x.kind = y.kind ∧ x.scope = y.scope) :
    u.SlotApart := by
  refine ⟨fun x mem => ?_, fun x held => ?_⟩
  · obtain ⟨y, was, kind⟩ := list x mem
    rw [kind]
    exact h.list y was
  · obtain ⟨y, was, kind, scope⟩ := slot x held
    rw [kind, scope]
    exact h.slot y was

/-! ### CONDITION_LIST_FULL judged (R162, R163) -/

theorem Cru.SameSwitches.deliverable (h : c.SameSwitches d) (p : Port) (x : CondRecord) :
    d.deliverable p x = c.deliverable p x := by
  unfold Cru.deliverable
  split <;> simp [h.wants]

theorem Cru.driveAttention_switches (c : Cru) : c.SameSwitches c.driveAttention := ⟨rfl, rfl, rfl⟩

/-- The attention line of a port is low exactly while a record is deliverable to it (R165). -/
theorem Cru.attention_low (c : Cru) (p : Port) :
    c.attention p = .low ↔ ∃ x ∈ c.list ++ c.reserved.toList, c.deliverable p x = true := by
  unfold Cru.attention
  split
  · next any => exact iff_of_true rfl (List.any_eq_true.mp any)
  · next none => exact iff_of_false nofun (mt List.any_eq_true.mpr none)

theorem Cru.clear_of_active (active : c.isActive k sc = true) : c.clear k sc =
    { c with active := c.active.filter (fun x => x ≠ (k, sc))
             list := c.list.filterMap (c.clearIn k sc)
             reserved := c.reserved.bind (c.clearIn k sc) } := if_pos active

theorem Cru.clear_of_inactive (inactive : c.isActive k sc = false) : c.clear k sc = c :=
  if_neg (ne_true_of_eq_false inactive)

theorem Cru.isActive_clear_ne {k' : CondKind} {sc' : Scope} (c : Cru) (other : (k', sc') ≠ (k, sc)) :
    (c.clear k sc).isActive k' sc' = c.isActive k' sc' := by
  cases active : c.isActive k sc with
  | true =>
    rw [ne_eq, Prod.mk.injEq, not_and_or] at other
    rw [Cru.clear_of_active active]
    simp [Cru.isActive, other]
  | false => rw [Cru.clear_of_inactive active]

/-- The clear of CONDITION_LIST_FULL touches no record of the list. -/
theorem Cru.SlotApart.clear_list (h : c.SlotApart) (sc : Scope) : (c.clear .conditionListFull sc).list = c.list := by
  unfold Cru.clear
  split
  · refine (List.filterMap_congr fun x mem => ?_).trans List.filterMap_some
    exact if_neg fun ⟨kind, _⟩ => h.list x mem kind
  · rfl

theorem Cru.SlotApart.clear_eq (h : c.SlotApart) (active : c.isActive .conditionListFull .part = true) :
    c.clear .conditionListFull .part =
      { c with active := c.active.filter (fun x => x ≠ (.conditionListFull, .part))
               reserved := c.reserved.bind (c.clearIn .conditionListFull .part) } := by
  have list := h.clear_list .part
  rw [Cru.clear_of_active active] at list ⊢
  dsimp only at list
  rw [list]

theorem Cru.settleListFull_stands (h : c.isActive .conditionListFull .part = false ∨ 48 < c.list.length) :
    c.settleListFull = c := by
  refine if_neg ?_
  rw [Bool.and_eq_true, decide_eq_true_eq]
  rintro ⟨active, short⟩
  rcases h with inactive | long
  · exact absurd (active.symm.trans inactive) nofun
  · omega

theorem Cru.settleListFull_clears (active : c.isActive .conditionListFull .part = true)
    (short : c.list.length ≤ 48) :
    c.settleListFull = { c.clear .conditionListFull .part with listFullRefusals := 0 } :=
  if_pos (by rw [active, decide_eq_true short]; rfl)

/-- The reserved record as a clear of CONDITION_LIST_FULL leaves it (R163). -/
theorem Cru.clearIn_slot {r : CondRecord} (kind : r.kind = .conditionListFull) (scope : r.scope = .part) :
    c.clearIn .conditionListFull .part r =
      if r.active = true then
        if c.deliverable .a r = true ∨ c.deliverable .b r = true
        then some { r with active := false, repostDue := none } else none
      else some r := by
  have stays : r.kind.isWithdrawable = false := by rw [kind]; rfl
  have owed (p : Port) : c.deliverable p { r with active := false, repostDue := none } = c.deliverable p r := rfl
  rw [Cru.clearIn, if_pos ⟨kind, scope⟩, Cru.clearRecord]
  simp [stays, Cru.needed, owed]

/-- The end of an event of the condition reporting unit. -/
theorem ListFullJudged.settled (apart : u.SlotApart) : ListFullJudged u u.settleListFull.driveAttention := by
  have lines (v : Cru) (p : Port) : v.attention p = .low ↔
      ∃ x ∈ v.list ++ v.reserved.toList, v.driveAttention.deliverable p x = true := by
    rw [Cru.attention_low]
    simp only [v.driveAttention_switches.deliverable]
  by_cases h : u.isActive .conditionListFull .part = false ∨ 48 < u.list.length
  · rw [Cru.settleListFull_stands h]
    refine ⟨rfl, fun _ => ⟨rfl, rfl, rfl⟩, fun active short => ?_, lines u .a, lines u .b⟩
    rcases h with inactive | long
    · exact absurd (active.symm.trans inactive) nofun
    · omega
  · obtain ⟨active, short⟩ := not_or.mp h
    have active := eq_true_of_ne_false active
    rw [Cru.settleListFull_clears active (not_lt.mp short)]
    rw [apart.clear_eq active]
    refine ⟨rfl, fun stands => absurd stands h, fun _ _ => ⟨?_, rfl, fun k sc other => ?_, fun none => ?_,
      fun r held => ?_⟩, lines _ .a, lines _ .b⟩
    · have cleared := u.isActive_clear_self .conditionListFull .part
      rwa [apart.clear_eq active] at cleared
    · have stands := u.isActive_clear_ne other
      rwa [apart.clear_eq active] at stands
    · change u.reserved.bind _ = _
      rw [none]
      rfl
    · obtain ⟨kind, scope⟩ := apart.slot r held
      rw [← Cru.clearIn_slot kind scope]
      change u.reserved.bind _ = _
      rw [held]
      rfl

/-- An event that reaches the condition reporting unit alone, and drives no link. -/
theorem State.endEvent_setCru (s : State) (driving : ∀ m, u.driving m = s.cru.driving m) :
    State.endEvent s (s.setCru u) = s.setCru u.settleListFull.driveAttention :=
  State.endEvent_quiet s (s.setCru u) fun m => (driving m).symm

end Sys2Proof.Machine
end

section
/-!
PROOFS. TAKE CONDITION (R164, R165).
-/

namespace Sys2Proof.Machine

variable {s t v : State} {u c : Cru} {p : Port} {tag : Byte} {x : CondRecord} {now : Nat}

/-! ### A record taken (R164) -/

theorem CondRecord.takeBy_eq (p : Port) (now interval : Nat) (x : CondRecord) : x.takeBy p now interval =
    { x with pend := x.pend.takenBy p, taken := true, takenSince := true, lastTake := some now
             repostDue := if x.active = true ∧ interval ≠ 0 then some (now + interval * 1000000000) else none } := by
  unfold CondRecord.takeBy PendFlags.takenBy
  congr 1
  · cases x.pend with
    | broadcast forA forB => cases p <;> simp
    | floating owed => rfl
  · simp [second]

/-- A record a port has taken is no longer deliverable to it. -/
theorem Cru.deliverable_takeBy (c : Cru) (p : Port) (now interval : Nat) (x : CondRecord) :
    c.deliverable p (x.takeBy p now interval) = false := by
  unfold Cru.deliverable CondRecord.takeBy
  cases x.pend <;> cases p <;> rfl

/-- What is left of a record in its place: nothing once it is inactive and owed to no port (R164). -/
def CondRecord.kept (x : CondRecord) : Option CondRecord := if x.active = true ∨ x.owed = true then some x else none

theorem Cru.takeFrom_none {l : List CondRecord} (h : ∀ y ∈ l, c.deliverable p y = false) :
    c.takeFrom p now l = none := by
  induction l with
  | nil => rfl
  | cons y ys ih =>
    obtain ⟨head, tail⟩ := List.forall_mem_cons.mp h
    rw [Cru.takeFrom, head, ih tail]
    rfl

theorem Cru.takeFrom_first {before rest : List CondRecord} (deliverable : c.deliverable p x = true)
    (first : ∀ y ∈ before, c.deliverable p y = false) :
    c.takeFrom p now (before ++ x :: rest) = some (x.takeBy p now c.repostInterval,
      before ++ (x.takeBy p now c.repostInterval).kept.toList ++ rest) := by
  induction before with
  | nil =>
    rw [List.nil_append, Cru.takeFrom, if_pos deliverable]
    dsimp only
    unfold CondRecord.kept
    split_ifs <;> simp_all
  | cons y ys ih =>
    obtain ⟨head, tail⟩ := List.forall_mem_cons.mp first
    rw [List.cons_append, Cru.takeFrom, if_neg (ne_true_of_eq_false head), ih tail]
    rfl

/-! ### The three cases of a take (R164) -/

theorem Cru.take_nothing (h : ∀ y ∈ c.list ++ c.reserved.toList, c.deliverable p y = false) (now : Nat) :
    c.take p now = (none, c) := by
  have listed := Cru.takeFrom_none (now := now) fun y mem => h y (List.mem_append_left _ mem)
  unfold Cru.take
  rw [listed]
  cases held : c.reserved with
  | none => rfl
  | some r =>
    have owed : c.deliverable p r = false := h r (List.mem_append_right _ (by simp [held]))
    exact if_neg (ne_true_of_eq_false owed)

theorem Cru.take_listed {before rest : List CondRecord} (list : c.list = before ++ x :: rest)
    (deliverable : c.deliverable p x = true) (first : ∀ y ∈ before, c.deliverable p y = false) (now : Nat) :
    c.take p now = (some (x.takeBy p now c.repostInterval),
      { c with list := before ++ (x.takeBy p now c.repostInterval).kept.toList ++ rest }) := by
  unfold Cru.take
  rw [list, Cru.takeFrom_first deliverable first]

theorem Cru.take_reserved (none : ∀ y ∈ c.list, c.deliverable p y = false) (held : c.reserved = some x)
    (deliverable : c.deliverable p x = true) (now : Nat) :
    c.take p now = (some (x.takeBy p now c.repostInterval),
      { c with reserved := (x.takeBy p now c.repostInterval).kept }) := by
  unfold Cru.take
  rw [Cru.takeFrom_none none, held]
  refine (if_pos deliverable).trans ?_
  simp only [CondRecord.kept, Bool.or_eq_true]

/-- A take leaves all but the records. -/
theorem Cru.take_eq (c : Cru) (p : Port) (now : Nat) : (c.take p now).2 =
    { c with list := (c.take p now).2.list, reserved := (c.take p now).2.reserved } := by
  unfold Cru.take
  repeat' split
  all_goals rfl

theorem Cru.SlotApart.take (h : c.SlotApart) (p : Port) (now : Nat) : (c.take p now).2.SlotApart := by
  unfold Cru.take
  split
  · next r l taken =>
    exact h.of_records (Cru.takeFrom_some taken).2 fun x held => ⟨x, held, rfl, rfl⟩
  · split
    · next r held =>
      split
      · refine h.of_records (fun x mem => ⟨x, mem, rfl⟩) fun x left => ⟨r, held, ?_⟩
        dsimp only at left
        split at left
        · cases left; exact ⟨rfl, rfl⟩
        · cases left
      · exact h
    · exact h

/-! ### The reply -/

theorem field_conditionBody_none (n : Nat) : field (conditionBody none n) 0 1 = 0 := rfl

theorem field_conditionBody_some (x : CondRecord) (n : Nat) : field (conditionBody (some x) n) 0 1 = x.kind.code := by
  simp only [conditionBody, List.append_assoc]
  rw [field_zero_append _ _ _ (byteOf_length _), natOfBytes_byteOf x.kind.code_lt]

theorem exec_takeCondition (accepts : Accepts s p) (taken : s.taken p 0x50#8 tag = v) :
    exec (.takeCondition p tag []) s = .next
      ((State.endEvent v (v.setCru (v.cru.take p v.osc).2)).replied p 0x50#8 tag .done
        (conditionBody (v.cru.take p v.osc).1
          ((State.endEvent v (v.setCru (v.cru.take p v.osc).2)).cru.deliverableCount p))) := by
  refine congrArg Host.Outcome.next (State.request_answered accepts 0x50#8 tag ?_)
  rw [taken, takeConditionH, withLength_of_eq _ List.length_nil]
  rfl

/-- Settles O51: the three cases of a take, and the end of the event judged. -/
theorem takeConditionRequest : Obligations.TakeConditionRequest := by
  intro p tag s accepts apart
  dsimp only
  generalize taken : s.taken p 0x50#8 tag = v
  have cru : v.cru = s.cru := by rw [← taken]; simp
  have osc : v.osc = s.osc := by rw [← taken]; simp
  have done := exec_takeCondition (tag := tag) accepts taken
  have unmoved (m : Link) : (s.cru.take p s.osc).2.driving m = v.cru.driving m := by
    rw [Cru.take_eq, cru]; rfl
  rw [cru, osc, State.endEvent_setCru v unmoved] at done
  refine ⟨_, (s.cru.take p s.osc).2, _, done, rfl, .settled (apart.take p s.osc), Cru.take_eq _ _ _, fun none => ?_,
    fun before x rest list deliverable first => ?_, fun x none held deliverable => ?_⟩
  · rw [Cru.take_nothing none]
    exact ⟨rfl, field_conditionBody_none _, rfl⟩
  · have owes := fun d : Cru => d.deliverable_takeBy p s.osc s.cru.repostInterval x
    rw [Cru.take_listed list deliverable first]
    rw [CondRecord.takeBy_eq] at owes ⊢
    exact ⟨rfl, rfl, owes _, field_conditionBody_some _ _, rfl⟩
  · have owes := fun d : Cru => d.deliverable_takeBy p s.osc s.cru.repostInterval x
    rw [Cru.take_reserved none held deliverable]
    rw [CondRecord.takeBy_eq] at owes ⊢
    exact ⟨rfl, rfl, owes _, field_conditionBody_some _ _, rfl⟩

end Sys2Proof.Machine
end

section
/-!
PROOFS. SET REPORTING (R170), SET REPOST (R172) and reposts (R166).
-/

namespace Sys2Proof.Machine

variable {s t v : State} {u c : Cru} {p q : Port} {tag : Byte} {x : CondRecord} {now i : Nat}

/-! ### SET REPORTING (R170) -/

/-- A class mask in force, before it is applied to the records. -/
def Cru.withMask (c : Cru) (q : Port) (mask : BitVec 7) : Cru :=
  match q with
  | .a => { c with maskA := mask }
  | .b => { c with maskB := mask }

theorem Cru.setMask_eq (c : Cru) (q : Port) (mask : BitVec 7) : c.setMask q mask =
    { c.withMask q mask with
      list := (c.list.map ((c.withMask q mask).dropPending q)).filter (c.withMask q mask).needed
      reserved := (c.reserved.map ((c.withMask q mask).dropPending q)).filter (c.withMask q mask).needed } := by
  cases q <;> rfl

theorem Cru.setMask_switches (c : Cru) (q : Port) (mask : BitVec 7) :
    (c.withMask q mask).SameSwitches (c.setMask q mask) := by
  cases q <;> exact ⟨rfl, rfl, rfl⟩

theorem Cru.setMask_mask (c : Cru) (q o : Port) (mask : BitVec 7) :
    (c.setMask q mask).mask o = if o = q then mask else c.mask o := by
  cases q <;> cases o <;> rfl

theorem Cru.dropPending_eq (c : Cru) (q : Port) (mask : BitVec 7) (x : CondRecord) :
    (c.withMask q mask).dropPending q x =
      if x.kind.isExigent = true ∨ mask.getLsbD x.kind.cls = true then x
      else { x with pend := x.pend.droppedFor q } := by
  have wanted : (c.withMask q mask).wants q x.kind = (x.kind.isExigent || mask.getLsbD x.kind.cls) := by
    cases q <;> rfl
  unfold Cru.dropPending
  rw [wanted]
  simp only [Bool.or_eq_true]
  split
  · rfl
  · cases pend : x.pend <;> cases q <;> simp [PendFlags.droppedFor, ← pend]

/-- The reserved record is of an exigent kind, so no class mask drops it (R162, R170). -/
theorem Cru.SlotApart.dropPending_slot (h : c.SlotApart) (held : c.reserved = some x) (q : Port)
    (mask : BitVec 7) : (c.withMask q mask).dropPending q x = x := by
  rw [Cru.dropPending_eq, (h.slot x held).1]
  exact if_pos (.inl rfl)

theorem Cru.SlotApart.setMask (h : c.SlotApart) (q : Port) (mask : BitVec 7) : (c.setMask q mask).SlotApart := by
  rw [Cru.setMask_eq]
  refine h.of_records (fun x mem => ?_) fun x held => ?_
  · obtain ⟨y, was, rfl⟩ := List.mem_map.mp (List.mem_filter.mp mem).1
    exact ⟨y, was, Cru.dropPending_kind _ _⟩
  · obtain ⟨y, was, rfl⟩ := Option.map_eq_some_iff.mp (Option.filter_eq_some_iff.mp held).1
    exact ⟨y, was, Cru.dropPending_kind _ _, Cru.dropPending_scope _ _⟩

/-- Whether a record stays under the masks in force (R159, R170). -/
theorem Cru.setMask_needed (c : Cru) (q : Port) (mask : BitVec 7) (x : CondRecord) :
    (c.withMask q mask).needed x =
      (x.active || (c.setMask q mask).deliverable .a x || (c.setMask q mask).deliverable .b x) := by
  rw [(c.setMask_switches q mask).deliverable, (c.setMask_switches q mask).deliverable]
  rfl

theorem Cru.setMask_list (c : Cru) (q : Port) (mask : BitVec 7) : (c.setMask q mask).list =
    (c.list.map ((c.withMask q mask).dropPending q)).filter (c.withMask q mask).needed := by
  cases q <;> rfl

theorem Cru.SlotApart.setMask_reserved (h : c.SlotApart) (q : Port) (mask : BitVec 7) :
    (c.setMask q mask).reserved = c.reserved.filter (c.withMask q mask).needed := by
  have same : c.reserved.map ((c.withMask q mask).dropPending q) = c.reserved := by
    cases held : c.reserved with
    | none => rfl
    | some x => exact congrArg some (h.dropPending_slot held q mask)
  rw [Cru.setMask_eq, same]

/-- The bytes of a SET REPORTING. -/
def reportingBody (q : Port) (mask : BitVec 7) : List Byte := [if q = .a then 0#8 else 1#8, mask.setWidth 8]

theorem byteOf_eq (v : Nat) : byteOf v = [BitVec.ofNat 8 v] := by
  simp [byteOf, beBytes]

theorem byteOf_mask (mask : BitVec 7) : byteOf mask.toNat = [mask.setWidth 8] := by
  rw [byteOf_eq]
  congr 1
  apply BitVec.eq_of_toNat_eq
  simp

theorem classMaskOf_toNat (mask : BitVec 7) : classMaskOf (mask.setWidth 8).toNat = some mask := by
  have same : (mask.setWidth 8).toNat = mask.toNat := by simp; omega
  rw [same, classMaskOf, if_pos mask.isLt, BitVec.ofNat_toNat, BitVec.setWidth_eq]

theorem setReportingH_eq (q : Port) (mask : BitVec 7) (v : State) : setReportingH (reportingBody q mask) v =
    finish v (v.setCru (v.cru.setMask q mask)) .done
      (fun t => byteOf (t.cru.mask q).toNat ++ byteOf (t.cru.deliverableCount q)) := by
  have port : portOf (field (reportingBody q mask) 0 1) = some q := by cases q <;> rfl
  have read : field (reportingBody q mask) 1 1 = (mask.setWidth 8).toNat := natOfBytes_singleton _
  rw [setReportingH, withLength_of_eq _ (by rfl), port, withField_some, read, classMaskOf_toNat, withField_some]

theorem exec_setReporting (accepts : Accepts s p) (q : Port) (mask : BitVec 7)
    (taken : s.taken p 0x51#8 tag = v) : exec (.setReporting p tag (reportingBody q mask)) s =
      .next ((State.endEvent v (v.setCru (v.cru.setMask q mask))).replied p 0x51#8 tag .done
        (byteOf ((State.endEvent v (v.setCru (v.cru.setMask q mask))).cru.mask q).toNat ++
          byteOf ((State.endEvent v (v.setCru (v.cru.setMask q mask))).cru.deliverableCount q))) := by
  refine congrArg Host.Outcome.next (State.request_answered accepts 0x51#8 tag ?_)
  rw [taken, setReportingH_eq]
  rfl

/-! ### SET REPOST (R172) -/

theorem CondRecord.redue_eq (i : Nat) (x : CondRecord) : x.redue i =
    if i = 0 then { x with repostDue := none }
    else if x.active = true ∧ x.taken = true then
      { x with repostDue := x.lastTake.map (fun o => o + i * 1000000000) }
    else x := by
  simp only [CondRecord.redue, Bool.and_eq_true, second]

theorem CondRecord.repostReached_eq (now : Nat) (x : CondRecord) :
    x.repostReached now = (x.active && x.repostDue.any (fun d => decide (d ≤ now))) := by
  unfold CondRecord.repostReached
  cases x.repostDue <;> rfl

theorem CondRecord.repostReached_iff (now : Nat) (x : CondRecord) :
    x.repostReached now = true ↔ x.active = true ∧ ∃ d, x.repostDue = some d ∧ d ≤ now := by
  rw [CondRecord.repostReached_eq]
  cases x.repostDue <;> simp

theorem Cru.SlotApart.setRepost (h : c.SlotApart) (i now : Nat) : (c.setRepost i now).SlotApart := by
  refine h.of_records (fun x mem => ?_) fun x held => ?_
  · have reduced (P : CondRecord → Bool) (y : CondRecord) (mem : y ∈ (c.list.map (CondRecord.redue i)).filter P) :
        ∃ z ∈ c.list, y.kind = z.kind := by
      obtain ⟨z, was, rfl⟩ := List.mem_map.mp (List.mem_filter.mp mem).1
      exact ⟨z, was, CondRecord.redue_kind _ _⟩
    rcases List.mem_append.mp mem with stays | moved
    · exact reduced _ x stays
    · obtain ⟨y, due, rfl⟩ := List.mem_map.mp moved
      exact reduced _ y due
  · obtain ⟨y, redued, rfl⟩ := Option.map_eq_some_iff.mp held
    obtain ⟨z, was, rfl⟩ := Option.map_eq_some_iff.mp redued
    refine ⟨z, was, ?_⟩
    split <;> simp

/-- The judgement of a new interval on the list and on the reserved record (R172). -/
theorem Cru.setRepost_eq (c : Cru) (i now : Nat) : c.setRepost i now =
    { c with
      repostInterval := i
      list := (c.list.map (CondRecord.redue i)).filter (fun x => !x.repostReached now) ++
        ((c.list.map (CondRecord.redue i)).filter (fun x => x.repostReached now)).map c.reposted
      reserved := (c.reserved.map (CondRecord.redue i)).map
        (fun x => if x.repostReached now then c.reposted x else x) } := rfl

theorem setRepostH_eq {w : Nat} (fits : w < 65536) (v : State) : setRepostH (beBytes 2 w) v =
    finish v (v.setCru (v.cru.setRepost (min 3600 w) v.osc)) (if w ≤ 3600 then .done else .doneClamped)
      (fun _ => beBytes 2 (min 3600 w)) := by
  have read : field (beBytes 2 w) 0 2 = w := by
    rw [field_all (by simp)]
    exact natOfBytes_beBytes 2 _ (by simpa using fits)
  have clamped : clampRange 0 3600 w = min 3600 w := by rw [clampRange_eq (by omega)]; omega
  have told : clampResult (decide (min 3600 w ≠ w)) = if w ≤ 3600 then .done else .doneClamped := by
    rw [clampResult_ne]
    exact if_congr (by omega) rfl rfl
  rw [setRepostH, withLength_of_eq _ (by simp)]
  dsimp only
  rw [read, clamped, told]

theorem exec_setRepost (accepts : Accepts s p) {w : Nat} (fits : w < 65536) (taken : s.taken p 0x54#8 tag = v) :
    exec (.setRepost p tag (beBytes 2 w)) s =
      .next ((State.endEvent v (v.setCru (v.cru.setRepost (min 3600 w) v.osc))).replied p 0x54#8 tag
        (if w ≤ 3600 then .done else .doneClamped) (beBytes 2 (min 3600 w))) := by
  refine congrArg Host.Outcome.next (State.request_answered accepts 0x54#8 tag ?_)
  rw [taken, setRepostH_eq fits]
  rfl

/-! ### Reposts (R166) -/

theorem exec_repost (s : State) (i : Nat) :
    exec (.repost i) s = .next (State.endEvent s (s.setCru (s.cru.repostAt i s.osc))) := rfl

/-- The record at a place: of the list below 64, of the reserved slot at 64. -/
def Cru.At (c : Cru) (i : Nat) (x : CondRecord) : Prop :=
  (i < 64 ∧ c.list[i]? = some x) ∨ (i = 64 ∧ c.reserved = some x)

theorem Cru.At.early (h : c.At i x) (early : ¬ x.repostReached now = true) : c.repostAt i now = c := by
  rcases h with ⟨below, listed⟩ | ⟨rfl, held⟩
  · refine (if_neg (by omega)).trans ?_
    rw [listed]
    exact if_neg early
  · refine (if_pos rfl).trans ?_
    rw [held]
    exact if_neg early

theorem Cru.repostAt_list (below : i < 64) (listed : c.list[i]? = some x) (reached : x.repostReached now = true) :
    c.repostAt i now = { c with list := c.list.eraseIdx i ++ [c.reposted x] } := by
  refine (if_neg (by omega)).trans ?_
  rw [listed]
  exact if_pos reached

theorem Cru.repostAt_slot (held : c.reserved = some x) (reached : x.repostReached now = true) :
    c.repostAt 64 now = { c with reserved := some (c.reposted x) } := by
  refine (if_pos rfl).trans ?_
  rw [held]
  exact if_pos reached

theorem Cru.repostAt_eq (c : Cru) (i now : Nat) : c.repostAt i now =
    { c with list := (c.repostAt i now).list, reserved := (c.repostAt i now).reserved } := by
  unfold Cru.repostAt
  repeat' split
  all_goals rfl

theorem Cru.SlotApart.repostAt (h : c.SlotApart) (at' : c.At i x) (now : Nat) : (c.repostAt i now).SlotApart := by
  by_cases reached : x.repostReached now = true
  · rcases at' with ⟨below, listed⟩ | ⟨rfl, held⟩
    · rw [Cru.repostAt_list below listed reached]
      refine h.of_records (fun y mem => ?_) fun y held => ⟨y, held, rfl, rfl⟩
      rcases List.mem_append.mp mem with stays | moved
      · exact ⟨y, List.mem_of_mem_eraseIdx stays, rfl⟩
      · rw [List.mem_singleton.mp moved]
        exact ⟨x, List.mem_of_getElem? listed, rfl⟩
    · rw [Cru.repostAt_slot held reached]
      refine h.of_records (fun y mem => ⟨y, mem, rfl⟩) fun y left => ⟨x, held, ?_⟩
      cases left
      exact ⟨rfl, rfl⟩
  · rw [at'.early reached]
    exact h

/-- Settles O52: the records each write leaves, and the end of the event judged. -/
theorem reportingAndReposts : Obligations.ReportingAndReposts := by
  refine ⟨fun p q tag mask s accepts apart => ?_, fun p tag w s accepts fits apart => ?_, fun i x s apart => ?_⟩
  · generalize taken : s.taken p 0x51#8 tag = v
    have cru : v.cru = s.cru := by rw [← taken]; simp
    have unmoved (m : Link) : (s.cru.setMask q mask).driving m = v.cru.driving m := by
      rw [cru]; cases q <;> rfl
    have done := exec_setReporting (tag := tag) accepts q mask taken
    rw [cru, State.endEvent_setCru v unmoved] at done
    have judged := ListFullJudged.settled (apart.setMask q mask)
    have masked : (s.cru.setMask q mask).settleListFull.driveAttention.mask q = mask := by
      have same := (Cru.settleListFull_switches (s.cru.setMask q mask)).trans (Cru.driveAttention_switches _)
      have kept := s.cru.setMask_mask q q mask
      cases q
      · exact same.maskA.trans kept
      · exact same.maskB.trans kept
    refine ⟨v.setCru (s.cru.setMask q mask).settleListFull.driveAttention, s.cru.setMask q mask, done.trans ?_, rfl,
      judged, ?_, ?_, fun o other => ?_, ?_, ?_⟩
    · rw [State.setCru_cru, masked, byteOf_mask, byteOf_eq]
      rfl
    · cases q <;> rfl
    · rw [Cru.setMask_mask, if_pos rfl]
    · rw [Cru.setMask_mask, if_neg other]
    · rw [Cru.setMask_list, funext (Cru.setMask_needed s.cru q mask), funext (Cru.dropPending_eq s.cru q mask)]
    · rw [apart.setMask_reserved, funext (Cru.setMask_needed s.cru q mask)]
  · dsimp only
    generalize taken : s.taken p 0x54#8 tag = v
    have cru : v.cru = s.cru := by rw [← taken]; simp
    have osc : v.osc = s.osc := by rw [← taken]; simp
    have done := exec_setRepost (tag := tag) accepts fits taken
    rw [cru, osc, State.endEvent_setCru v fun m => by rw [cru]; rfl] at done
    refine ⟨_, s.cru.setRepost (min 3600 w) s.osc, done, rfl, .settled (apart.setRepost _ _), rfl, ?_, ?_⟩
    · rw [Cru.setRepost_eq, funext (CondRecord.redue_eq (min 3600 w))]
      simp only [CondRecord.repostReached_eq]
      rfl
    · rw [Cru.setRepost_eq, funext (CondRecord.redue_eq (min 3600 w))]
      simp only [CondRecord.repostReached_eq]
      rfl
  · dsimp only
    intro at'
    have unmoved (m : Link) : (s.cru.repostAt i s.osc).driving m = s.cru.driving m := by
      rw [Cru.repostAt_eq]; rfl
    have done := exec_repost s i
    rw [State.endEvent_setCru s unmoved] at done
    have due := CondRecord.repostReached_iff s.osc x
    refine ⟨_, s.cru.repostAt i s.osc, done, rfl, .settled (Cru.SlotApart.repostAt apart at' s.osc), ?_, ?_, ?_⟩
    · exact fun early => Cru.At.early at' (mt due.mp early)
    · intro reached below
      exact Cru.repostAt_list below (at'.resolve_right fun h => by omega).2 (due.mpr reached)
    · rintro reached rfl
      exact Cru.repostAt_slot (at'.resolve_left fun h => by omega).2 (due.mpr reached)

end Sys2Proof.Machine
end

section
/-!
PROOFS. Raises and clears taken by the condition reporting unit (R158, R160 to R163, R167).
-/

namespace Sys2Proof.Machine

variable {s t v : State} {u c : Cru} {k k' : CondKind} {sc sc' : Scope} {d : Details} {x : CondRecord}
  {now : Reading} {anc : Bool}

/-! ### The first element that meets a test -/

section

variable {α : Type} {test : α → Bool} {f : α → α} {a : α} {before after l : List α}

theorem updateFirst_first (met : test a = true) (unmet : ∀ y ∈ before, test y = false) :
    updateFirst test f (before ++ a :: after) = some (before ++ f a :: after) := by
  induction before with
  | nil => exact if_pos met
  | cons y ys ih =>
    obtain ⟨head, tail⟩ := List.forall_mem_cons.mp unmet
    rw [List.cons_append, updateFirst, if_neg (ne_true_of_eq_false head), ih tail]
    rfl

theorem updateFirst_none (unmet : ∀ y ∈ l, test y = false) : updateFirst test f l = none := by
  induction l with
  | nil => rfl
  | cons y ys ih =>
    obtain ⟨head, tail⟩ := List.forall_mem_cons.mp unmet
    rw [updateFirst, if_neg (ne_true_of_eq_false head), ih tail]
    rfl

theorem removeFirst_first (met : test a = true) (unmet : ∀ y ∈ before, test y = false) :
    removeFirst test (before ++ a :: after) = some (before ++ after) := by
  induction before with
  | nil => exact if_pos met
  | cons y ys ih =>
    obtain ⟨head, tail⟩ := List.forall_mem_cons.mp unmet
    rw [List.cons_append, removeFirst, if_neg (ne_true_of_eq_false head), ih tail]
    rfl

theorem removeFirst_none (unmet : ∀ y ∈ l, test y = false) : removeFirst test l = none := by
  induction l with
  | nil => rfl
  | cons y ys ih =>
    obtain ⟨head, tail⟩ := List.forall_mem_cons.mp unmet
    rw [removeFirst, if_neg (ne_true_of_eq_false head), ih tail]
    rfl

end

/-! ### Before the posting: the active set and the last LINK_DOWN (R158, R167) -/

/-- The condition reporting unit as a raise finds its posting. -/
def Cru.raised (c : Cru) (k : CondKind) (sc : Scope) (now : Nat) : Cru :=
  (c.activate k sc).noteLinkDown k sc now

theorem Cru.raised_eq (c : Cru) (k : CondKind) (sc : Scope) (now : Nat) : c.raised k sc now =
    { c with active := (c.activate k sc).active, lastLinkDown := (c.raised k sc now).lastLinkDown } := by
  unfold Cru.raised Cru.noteLinkDown Cru.activate
  split <;> split <;> rfl

theorem Cru.raised_isActive (c : Cru) (k : CondKind) (sc : Scope) (now : Nat) (k' : CondKind) (sc' : Scope) :
    (c.raised k sc now).isActive k' sc' = (c.activate k sc).isActive k' sc' := by
  rw [Cru.raised_eq]; rfl

theorem Cru.isActive_activate_other (c : Cru) (other : (k', sc') ≠ (k, sc)) :
    (c.activate k sc).isActive k' sc' = c.isActive k' sc' := by
  by_cases kind : k' = k
  · exact c.isActive_activate_ne fun scope => other (by rw [kind, scope])
  · exact Cru.isActive_activate_kind kind sc sc'

theorem Cru.isActive_activate_event (c : Cru) (event : k.isState = false) (k' : CondKind) (sc' : Scope) :
    (c.activate k sc).isActive k' sc' = c.isActive k' sc' := by
  rw [Cru.activate, event]
  rfl

/-! ### Posting (R161, R162) -/

/-- The record a raise of CONDITION_LIST_FULL leaves in the reserved slot (R162). -/
def Cru.listFullRecord (c : Cru) (now : Reading) : CondRecord :=
  match c.reserved with
  | none => c.newRecord .conditionListFull .part { count := some c.listFullRefusals } now false
  | some r =>
    if !r.takenSince then
      r.coalesce { count := some c.listFullRefusals } now false (c.freshPend .conditionListFull)
    else if r.active then { r with details := { count := some c.listFullRefusals }, posted := now }
    else { r with active := true, pend := c.freshPend .conditionListFull, repeats := satAdd 255 r.repeats 1,
                  details := { count := some c.listFullRefusals }, posted := now }

theorem Cru.raiseListFull_eq (c : Cru) (now : Reading) : c.raiseListFull now =
    { c.activate .conditionListFull .part with reserved := some (c.listFullRecord now) } := by
  unfold Cru.raiseListFull Cru.listFullRecord Cru.activate
  dsimp only
  split <;> cases c.reserved <;> rfl

theorem Cru.listFullRecord_none (c : Cru) (now : Reading) (none : c.reserved = none) :
    c.listFullRecord now =
      c.newRecord .conditionListFull .part { count := some c.listFullRefusals } now false := by
  rw [Cru.listFullRecord, none]

/-- An active reserved record taken since keeps its pending flags and its count (R162). -/
theorem Cru.listFullRecord_taken (now : Reading) (held : c.reserved = some x) (taken : x.takenSince = true)
    (active : x.active = true) : c.listFullRecord now =
      { x with details := { count := some c.listFullRefusals }, posted := now } := by
  simp [Cru.listFullRecord, held, taken, active]

/-- Any other is owed afresh (R161, R162). -/
theorem Cru.listFullRecord_again (now : Reading) (held : c.reserved = some x)
    (kind : x.kind = .conditionListFull) (again : x.takenSince = false ∨ x.active = false) : ∃ r : CondRecord,
      c.listFullRecord now = r ∧ r.kind = x.kind ∧ r.taken = x.taken ∧ r.active = true ∧ r.posted = now ∧
        r.details = { count := some c.listFullRefusals } ∧ r.pend = .broadcast true true ∧
        r.repeats = min 255 (x.repeats + 1) := by
  rw [← satAdd_eq_min]
  cases since : x.takenSince with
  | false =>
    refine ⟨x.coalesce { count := some c.listFullRefusals } now false (c.freshPend .conditionListFull), ?_, rfl,
      rfl, ?_, rfl, rfl, rfl, rfl⟩
    · simp [Cru.listFullRecord, held, since]
    · rw [CondRecord.coalesce, kind]; rfl
  | true =>
    have inactive : x.active = false := again.resolve_left (by simp [since])
    refine ⟨{ x with active := true, pend := c.freshPend .conditionListFull, repeats := satAdd 255 x.repeats 1
                     details := { count := some c.listFullRefusals }, posted := now }, ?_, rfl, rfl, rfl, rfl, rfl,
      rfl, rfl⟩
    simp [Cru.listFullRecord, held, since, inactive]

theorem Cru.appendRecord_makes_room {before after : List CondRecord} {r : CondRecord}
    (full : 64 ≤ c.list.length) (list : c.list = before ++ x :: after) (inactive : x.active = false)
    (others : ∀ y ∈ before, y.active = true) : c.appendRecord r =
      if c.needed r then { c with list := before ++ after ++ [r] } else { c with list := before ++ after } := by
  unfold Cru.appendRecord
  dsimp only
  rw [if_neg (not_lt.mpr full), list, removeFirst_first (by rw [inactive]; rfl) fun y mem => by rw [others y mem]; rfl]

theorem Cru.appendRecord_refused {r : CondRecord} (full : 64 ≤ c.list.length)
    (active : ∀ y ∈ c.list, y.active = true) : c.appendRecord r =
      ({ c with listFullRefusals := satAdd 65535 c.listFullRefusals 1 }).raiseListFull r.posted := by
  unfold Cru.appendRecord
  dsimp only
  rw [if_neg (not_lt.mpr full), removeFirst_none fun y mem => by rw [active y mem]; rfl]

/-- Posting puts no pair but that of CONDITION_LIST_FULL into the active set. -/
theorem Cru.isActive_post (c : Cru) (k : CondKind) (sc : Scope) (d : Details) (now : Reading) (anc : Bool)
    (other : k' ≠ .conditionListFull) (sc' : Scope) :
    (c.post k sc d now anc).isActive k' sc' = c.isActive k' sc' := by
  unfold Cru.post
  split
  · rfl
  · unfold Cru.appendRecord
    dsimp only
    repeat' split
    any_goals rfl
    rw [Cru.raiseListFull_eq]
    exact Cru.isActive_activate_kind (c := { c with listFullRefusals := _ }) other _ sc'

/-- A raise folded into the first undelivered record of its kind and scope (R161). -/
theorem Cru.post_folds {before after : List CondRecord} (list : c.list = before ++ x :: after)
    (undelivered : x.isUndelivered k sc = true) (first : ∀ y ∈ before, y.isUndelivered k sc = false) :
    c.post k sc d now anc =
      { c with list := before ++ x.coalesce d now anc (c.freshPend k) :: after } := by
  unfold Cru.post
  rw [list, updateFirst_first undelivered first]

/-- A raise with no undelivered record is appended (R161). -/
theorem Cru.post_appends (none : ∀ y ∈ c.list, y.isUndelivered k sc = false) :
    c.post k sc d now anc = c.appendRecord (c.newRecord k sc d now anc) := by
  unfold Cru.post
  rw [updateFirst_none none]

theorem CondRecord.isUndelivered_iff (k : CondKind) (sc : Scope) (x : CondRecord) :
    x.isUndelivered k sc = true ↔ x.kind = k ∧ x.scope = sc ∧ x.takenSince = false := by
  simp [CondRecord.isUndelivered, and_assoc]

theorem Cru.needed_newRecord_iff (c : Cru) (k : CondKind) (sc : Scope) (d : Details) (now : Reading) (anc : Bool) :
    c.needed (c.newRecord k sc d now anc) = true ↔
      k.isState = true ∨ (c.wants .a k || c.wants .b k) = true := by
  unfold Cru.needed Cru.deliverable Cru.newRecord Cru.freshPend
  cases k.isBroadcast <;> cases k.isState <;> cases c.wants .a k <;> cases c.wants .b k <;> simp

/-- What the reserved slot holds after a refusal (R162). -/
structure Cru.SlotRaised (c : Cru) (now : Reading) (r : CondRecord) : Prop where
  active : r.active = true
  posted : r.posted = now
  details : r.details = { count := some c.listFullRefusals }
  fresh : c.reserved = none → r.kind = .conditionListFull ∧ r.scope = .part ∧
    r.pend = .broadcast true true ∧ r.repeats = 0 ∧ r.taken = false
  held : ∀ x, c.reserved = some x → r.kind = x.kind ∧ r.taken = x.taken ∧
    (x.takenSince = true → x.active = true → r.pend = x.pend ∧ r.repeats = x.repeats) ∧
    (x.takenSince = false ∨ x.active = false → r.pend = .broadcast true true ∧ r.repeats = min 255 (x.repeats + 1))

theorem Cru.listFullRecord_raised (kind : ∀ x, c.reserved = some x → x.kind = .conditionListFull) (now : Reading) :
    c.SlotRaised now (c.listFullRecord now) := by
  cases held : c.reserved with
  | none =>
    rw [Cru.listFullRecord_none c now held]
    exact ⟨rfl, rfl, rfl, fun _ => ⟨rfl, rfl, rfl, rfl, rfl⟩, fun x some => by rw [held] at some; cases some⟩
  | some y =>
    by_cases stands : y.takenSince = true ∧ y.active = true
    · rw [Cru.listFullRecord_taken now held stands.1 stands.2]
      refine ⟨stands.2, rfl, rfl, fun none => absurd (held.symm.trans none) nofun, fun x some => ?_⟩
      cases held.symm.trans some
      exact ⟨rfl, rfl, fun _ _ => ⟨rfl, rfl⟩, fun again => by rcases again with h | h <;> simp [h] at stands⟩
    · obtain ⟨r, record, sameKind, taken, active, posted, details, pend, repeats⟩ :=
        Cru.listFullRecord_again now held (kind y held) (by
          rw [← Bool.not_eq_true, ← Bool.not_eq_true, ← not_and_or]; exact stands)
      rw [record]
      refine ⟨active, posted, details, fun none => absurd (held.symm.trans none) nofun, fun x some => ?_⟩
      cases held.symm.trans some
      exact ⟨sameKind, taken, fun a b => absurd ⟨a, b⟩ stands, fun _ => ⟨pend, repeats⟩⟩

theorem Cru.activate_eq (c : Cru) (k : CondKind) (sc : Scope) :
    c.activate k sc = { c with active := (c.activate k sc).active } := by
  unfold Cru.activate; split <;> rfl

/-- A new record joins the list where it is needed (R161). -/
theorem Cru.added_eq {P : Prop} [Decidable P] {r : CondRecord} (needed : c.needed r = true ↔ P)
    (l : List CondRecord) : (if c.needed r then { c with list := l ++ [r] } else { c with list := l }) =
      { c with list := l ++ if P then [r] else [] } := by
  by_cases wanted : P
  · rw [if_pos (needed.mpr wanted), if_pos wanted]
  · rw [if_neg (mt needed.mp wanted), if_neg wanted, List.append_nil]

/-! ### A raise (R158, R160 to R162) -/

section

variable (c : Cru) (k : CondKind) (sc : Scope) (n : Nat)

@[simp] theorem Cru.raised_list : (c.raised k sc n).list = c.list := by rw [Cru.raised_eq]

@[simp] theorem Cru.raised_reserved : (c.raised k sc n).reserved = c.reserved := by rw [Cru.raised_eq]

@[simp] theorem Cru.raised_refusals : (c.raised k sc n).listFullRefusals = c.listFullRefusals := by
  rw [Cru.raised_eq]

@[simp] theorem Cru.raised_wants (p : Port) (k' : CondKind) : (c.raised k sc n).wants p k' = c.wants p k' := by
  simp [Cru.raised]

theorem Cru.raised_freshPend : (c.raised k sc n).freshPend k =
    if k.isBroadcast = true then .broadcast (c.wants .a k) (c.wants .b k)
    else .floating (c.wants .a k || c.wants .b k) := by
  simp only [Cru.freshPend, Cru.raised_wants]

end

theorem State.raiseWith_posts (records : s.cru.records? k = true) (sc : Scope) (d : Details) (f : Bool) :
    s.raiseWith k sc d f = s.setCru ((s.cru.raised k sc s.osc).post k sc d s.readNow
      (s.cru.ancillaryMark k sc f s.osc)) := if_pos records

theorem State.raiseWith_off (off : s.cru.records? k = false) (sc : Scope) (d : Details) (f : Bool) :
    s.raiseWith k sc d f = s := if_neg (ne_true_of_eq_false off)

/-! ### A clear (R158, R163) -/

theorem Cru.clearIn_eq (c : Cru) (k : CondKind) (sc : Scope) (x : CondRecord) : c.clearIn k sc x =
    if x.kind = k ∧ x.scope = sc ∧ x.active = true then
      if k.isWithdrawable = true ∧ x.taken = false then none
      else if c.deliverable .a x = true ∨ c.deliverable .b x = true
        then some { x with active := false, repostDue := none } else none
    else some x := by
  have owed (p : Port) : c.deliverable p { x with active := false, repostDue := none } = c.deliverable p x := rfl
  unfold Cru.clearIn Cru.clearRecord
  by_cases same : x.kind = k ∧ x.scope = sc
  · obtain ⟨rfl, rfl⟩ := same
    simp [Cru.needed, owed]
  · rw [if_neg same, if_neg fun all => same ⟨all.1, all.2.1⟩]

theorem Cru.clear_reserved (c : Cru) (other : ∀ r, c.reserved = some r → r.kind ≠ k) (sc : Scope) :
    (c.clear k sc).reserved = c.reserved := by
  cases active : c.isActive k sc with
  | false => rw [Cru.clear_of_inactive active]
  | true =>
    rw [Cru.clear_of_active active]
    cases held : c.reserved with
    | none => rfl
    | some r => exact if_neg fun same => other r held same.1

/-! ### The ancillary mark (R167) -/

theorem Cru.linkDownAncillary_iff (c : Cru) (l : Link) (n : Nat) : c.linkDownAncillary l n = true ↔
    ∃ m : Link, m ≠ l ∧ m.val / 8 = l.val / 8 ∧ ∃ o, c.lastLinkDown[m] = some o ∧ n ≤ o + 1000000000 := by
  rw [Cru.linkDownAncillary, List.any_eq_true]
  refine exists_congr fun m => ?_
  have member : m ∈ allLinks := List.mem_finRange m
  have group : groupIndex m = groupIndex l ↔ m.val / 8 = l.val / 8 := Fin.ext_iff
  rw [Bool.and_eq_true, Bool.and_eq_true, decide_eq_true_eq, decide_eq_true_eq, group, and_assoc]
  refine (and_iff_right member).trans (and_congr_right fun _ => and_congr_right fun _ => ?_)
  cases c.lastLinkDown[m] <;> simp

/-- Settles O50: the three ways a posting ends, the clear record by record, and the mark by its kind. -/
theorem conditionsRaisedAndCleared : Obligations.ConditionsRaisedAndCleared := by
  refine ⟨fun s k sc d f off => State.raiseWith_off off sc d f, fun s k sc d f records kind apart => ?_,
    fun s k sc => ⟨s.cru.clear k sc, rfl, Cru.clear_of_inactive, fun active => ?_⟩, fun c k sc f now => ?_⟩
  · dsimp only
    have frame := s.cru.raised_freshPend k sc s.osc
    have isActive (k' : CondKind) (other : k' ≠ .conditionListFull) (sc' : Scope) := (Cru.isActive_post
      (s.cru.raised k sc s.osc) k sc d s.readNow (s.cru.ancillaryMark k sc f s.osc) other sc').trans
      (s.cru.raised_isActive k sc s.osc k' sc')
    refine ⟨_, State.raiseWith_posts records sc d f, fun state => ?_, fun event => ?_, fun k' sc' other notFull => ?_,
      fun before x after list same first => ?_, fun unmet => ?_⟩
    · rw [isActive k kind]
      exact s.cru.isActive_activate_self state sc
    · rw [isActive k kind]
      exact s.cru.isActive_activate_event event k sc
    · rw [isActive k' notFull]
      exact s.cru.isActive_activate_other other
    · rw [Cru.post_folds (c := s.cru.raised k sc s.osc) (by rw [Cru.raised_list]; exact list)
        ((CondRecord.isUndelivered_iff k sc x).mpr same) fun y mem =>
          eq_false_of_ne_true (mt (CondRecord.isUndelivered_iff k sc y).mp (first y mem)), frame,
        CondRecord.coalesce, satAdd_eq_min, same.1]
      exact ⟨Cru.raised_reserved _ _ _ _, rfl⟩
    · have none (y : CondRecord) (mem : y ∈ (s.cru.raised k sc s.osc).list) : y.isUndelivered k sc = false :=
        eq_false_of_ne_true (mt (CondRecord.isUndelivered_iff k sc y).mp
          (unmet y (by rwa [Cru.raised_list] at mem)))
      have needed := (s.cru.raised k sc s.osc).needed_newRecord_iff k sc d s.readNow
        (s.cru.ancillaryMark k sc f s.osc)
      rw [Cru.raised_wants, Cru.raised_wants] at needed
      rw [Cru.post_appends none]
      generalize new : (s.cru.raised k sc s.osc).newRecord k sc d s.readNow
        (s.cru.ancillaryMark k sc f s.osc) = r at needed
      rw [Cru.newRecord, frame] at new
      rw [new]
      refine ⟨fun room => ?_, fun before x after full list inactive others => ?_, fun full active => ?_⟩
      · rw [Cru.appendRecord_room _ (by rwa [Cru.raised_list])]
        have joined := Cru.added_eq needed s.cru.list
        rw [← s.cru.raised_list k sc s.osc] at joined
        refine ⟨(congrArg Cru.list joined).trans ?_, (congrArg Cru.reserved joined).trans ?_⟩
        · rw [Cru.raised_list]
        · exact Cru.raised_reserved _ _ _ _
      · rw [Cru.appendRecord_makes_room (by rwa [Cru.raised_list]) (by rw [Cru.raised_list]; exact list)
          inactive others, Cru.added_eq needed]
        exact ⟨rfl, Cru.raised_reserved _ _ _ _⟩
      · rw [Cru.appendRecord_refused (by rwa [Cru.raised_list]) (by rwa [Cru.raised_list]), Cru.raiseListFull_eq,
          Cru.raised_refusals, satAdd_eq_min]
        generalize counted : ({ s.cru.raised k sc s.osc with
          listFullRefusals := min 65535 (s.cru.listFullRefusals + 1) } : Cru) = e
        have list : e.list = s.cru.list := by rw [← counted]; exact Cru.raised_list _ _ _ _
        have reserved : e.reserved = s.cru.reserved := by rw [← counted]; exact Cru.raised_reserved _ _ _ _
        have refusals : e.listFullRefusals = min 65535 (s.cru.listFullRefusals + 1) := by rw [← counted]
        have slot := e.listFullRecord_raised (fun x held => (apart.slot x (reserved ▸ held)).1) r.posted
        have posted : r.posted = s.readNow := by rw [← new]
        have isFull := e.isActive_activate_self (k := .conditionListFull) rfl .part
        rw [posted] at slot ⊢
        rw [e.activate_eq] at isFull ⊢
        exact ⟨list, isFull, refusals, _, rfl, slot.active, slot.posted, slot.details,
          fun none => slot.fresh (reserved.trans none), fun x held => slot.held x (reserved.trans held)⟩
  · refine ⟨Cru.isActive_clear_self _ _ _, fun k' sc' other => Cru.isActive_clear_ne _ other,
      fun other => Cru.clear_reserved _ other sc, ?_⟩
    rw [Cru.clear_of_active active]
    exact congrArg (fun g => List.filterMap g s.cru.list) (funext (Cru.clearIn_eq s.cru k sc))
  · refine ⟨fun l => Cru.linkDownAncillary_iff c l now, ?_, fun a b e g => ?_⟩
    · rintro (rfl | rfl | rfl) <;> rfl
    · unfold Cru.ancillaryMark
      split
      · exact absurd rfl a
      · exact absurd rfl b
      · exact absurd rfl e
      · exact absurd rfl g
      · rfl

end Sys2Proof.Machine
end

section
/-!
PROOFS. Span-link frames decoded (12, R53, R62, R63, R186).
-/

namespace Sys2Proof.Machine

variable {l : Link} {arrival : Nat} {bytes : List Byte}

/-! ### A frame decoded by kind and length -/

theorem decodeSpanFrame_failed {check : BitVec 32} (wrong : check ≠ spanCheck bytes) :
    decodeSpanFrame l arrival bytes check = .receivedFrameCheckFailure l := if_pos (Ne.symm wrong)

theorem decodeSpanFrame_unknown (h : field bytes 0 1 < 129 ∨ 132 < field bytes 0 1) :
    decodeSpanFrame l arrival bytes (spanCheck bytes) = .unknownKind l := by
  refine (if_neg (not_not.mpr rfl)).trans ?_
  split
  case h_5 => rfl
  all_goals omega

/-- The numbers a frame of the four kinds carries, read back from fixed places. -/
theorem ofNat_field {w : Nat} (n : Nat) (v : BitVec w) (bits : w = 8 * n) :
    BitVec.ofNat w (natOfBytes (beBytes n v.toNat)) = v := by
  subst bits
  have fits : v.toNat < 256 ^ n := (Nat.pow_mul 2 8 n).symm ▸ v.isLt
  rw [natOfBytes_beBytes n _ fits, BitVec.ofNat_toNat, BitVec.setWidth_eq]

theorem ofNat_byte (b : Byte) : BitVec.ofNat 8 (natOfBytes [b]) = b := by
  rw [natOfBytes_singleton, BitVec.ofNat_toNat, BitVec.setWidth_eq]

theorem decodeSpanFrame_hello (h : Hello) :
    decodeSpanFrame l arrival h.payload (spanCheck h.payload) = .hello l h := by
  have kind : field h.payload 0 1 = 0x81 := field_cons_zero _ _
  have length : h.payload.length = 12 := by simp [Hello.payload]
  have fields : field h.payload 1 2 = natOfBytes (beBytes 2 h.identity.toNat) ∧
      field h.payload 3 2 = natOfBytes (beBytes 2 h.domainId.toNat) ∧
      field h.payload 5 4 = natOfBytes (beBytes 4 h.domainInstance.toNat) ∧
      field h.payload 9 1 = natOfBytes (beBytes 1 h.generation.toNat) ∧
      field h.payload 10 1 = natOfBytes [h.endpointKind] := by
    simp only [Hello.payload, field_cons_succ, List.append_assoc]
    refine ⟨?_, ?_, ?_, ?_, ?_⟩
    all_goals simp (disch := simp) only [field_append, field_zero_append, beBytes_length, Nat.reduceSub]
    rfl
  obtain ⟨f1, f2, f3, f4, f5⟩ := fields
  refine (if_neg (not_not.mpr rfl)).trans ?_
  rw [kind, length, f1, f2, f3, f4, f5, ofNat_field 2 _ rfl, ofNat_field 2 _ rfl, ofNat_field 4 _ rfl,
    ofNat_field 1 _ rfl, ofNat_byte]
  rfl

theorem decodeSpanFrame_echo (e : Echo) :
    decodeSpanFrame l arrival e.payload (spanCheck e.payload) = .echo l arrival e := by
  have kind : field e.payload 0 1 = 0x82 := field_cons_zero _ _
  have length : e.payload.length = 20 := by simp [Echo.payload]
  have fields : field e.payload 1 1 = natOfBytes (beBytes 1 e.generation.toNat) ∧
      field e.payload 2 2 = natOfBytes (beBytes 2 e.exchange.toNat) ∧
      field e.payload 4 8 = natOfBytes (beBytes 8 e.t2.toNat) ∧
      field e.payload 12 8 = natOfBytes (beBytes 8 e.t3.toNat) := by
    simp only [Echo.payload, field_cons_succ, List.append_assoc]
    refine ⟨?_, ?_, ?_, ?_⟩
    all_goals simp (disch := simp) only [field_append, field_zero_append, field_all, beBytes_length,
      Nat.reduceSub]
  obtain ⟨f1, f2, f3, f4⟩ := fields
  refine (if_neg (not_not.mpr rfl)).trans ?_
  rw [kind, length, f1, f2, f3, f4, ofNat_field 1 _ rfl, ofNat_field 2 _ rfl, ofNat_field 8 _ rfl,
    ofNat_field 8 _ rfl]
  rfl

theorem decodeSpanFrame_trimDone (g : BitVec 8) (a : BitVec 64) :
    decodeSpanFrame l arrival (trimDonePayload g a) (spanCheck (trimDonePayload g a)) = .trimDone l g a := by
  have kind : field (trimDonePayload g a) 0 1 = 0x83 := field_cons_zero _ _
  have length : (trimDonePayload g a).length = 12 := by simp [trimDonePayload]
  have fields : field (trimDonePayload g a) 1 1 = natOfBytes (beBytes 1 g.toNat) ∧
      field (trimDonePayload g a) 2 8 = natOfBytes (beBytes 8 a.toNat) := by
    simp only [trimDonePayload, field_cons_succ, List.append_assoc]
    refine ⟨?_, ?_⟩
    all_goals simp (disch := simp) only [field_append, field_zero_append, beBytes_length, Nat.reduceSub]
  obtain ⟨f1, f2⟩ := fields
  refine (if_neg (not_not.mpr rfl)).trans ?_
  rw [kind, length, f1, f2, ofNat_field 1 _ rfl, ofNat_field 8 _ rfl]
  rfl

theorem decodeSpanFrame_mark (m : Mark) :
    decodeSpanFrame l arrival m.payload (spanCheck m.payload) = .markFrame l m := by
  have kind : field m.payload 0 1 = 0x84 := field_cons_zero _ _
  have length : m.payload.length = 20 := by simp [Mark.payload]
  have fields : field m.payload 1 1 = natOfBytes [m.eventKind] ∧
      field m.payload 2 2 = natOfBytes (beBytes 2 m.markNumber.toNat) ∧
      field m.payload 4 2 = natOfBytes (beBytes 2 m.rackIdentity.toNat) ∧
      field m.payload 6 2 = natOfBytes (beBytes 2 m.sourceIdentity.toNat) ∧
      field m.payload 8 1 = natOfBytes (beBytes 1 m.generation.toNat) ∧
      field m.payload 9 8 = natOfBytes (beBytes 8 m.captureTime.toNat) := by
    simp only [Mark.payload, field_cons_succ, List.append_assoc]
    refine ⟨?_, ?_, ?_, ?_, ?_, ?_⟩
    all_goals simp (disch := simp) only [field_append, field_zero_append, beBytes_length, List.length_singleton,
      Nat.reduceSub]
  obtain ⟨f1, f2, f3, f4, f5, f6⟩ := fields
  refine (if_neg (not_not.mpr rfl)).trans ?_
  rw [kind, length, f1, f2, f3, f4, f5, f6, ofNat_byte, ofNat_field 2 _ rfl, ofNat_field 2 _ rfl,
    ofNat_field 2 _ rfl, ofNat_field 1 _ rfl, ofNat_field 8 _ rfl]
  rfl

/-! ### The blocks of a frame (R53, R62) -/

theorem Lane.hearValid_aligned {x : Lane} (aligned : x.aligned = true) :
    (x.hearValid l).2 = [] ∧ (x.hearValid l).1.aligned = true ∧ (x.hearValid l).1.frame = x.frame := by
  simp [Lane.hearValid, aligned]

/-- A valid block on an aligned receiver of an UP link: what it gives is what the frame makes of it. -/
theorem Lane.receive_valid {x y : Lane} {b : Block} {given : List Instr} {now : Nat}
    (valid : b.kind ≠ .invalid) (aligned : x.aligned = true) (made : x.onUp l now b = (y, given))
    (kept : y.aligned = true) :
    (x.receive l .up now b).2 = given ∧ (x.receive l .up now b).1.aligned = true ∧
      (x.receive l .up now b).1.frame = y.frame := by
  obtain ⟨silent, still, frame⟩ := Lane.hearValid_aligned (l := l) kept
  have received : x.receive l .up now b = ((y.hearValid l).1, given ++ (y.hearValid l).2) := by
    rw [Lane.receive, if_neg (by decide), if_pos aligned]
    dsimp only [Lane.judge]
    rw [made, if_neg valid]
  rw [received, silent]
  exact ⟨List.append_nil _, still, frame⟩

/-- The frame opened, extended by a payload block, and closed by its END block. -/
theorem Lane.onUp_start {x : Lane} (now : Nat) (frame : x.frame = none) :
    x.onUp l now startBlock = ({ x with frame := some ⟨now, []⟩ }, []) := by
  rw [Lane.onUp, frame]
  rfl

theorem Lane.onUp_payload {x : Lane} {b : Block} {f : OpenFrame} (now : Nat) (frame : x.frame = some f)
    (kind : b.kind = .payload) (fits : (f.bytes ++ b.bytes).length < 256) :
    x.onUp l now b = ({ x with frame := some ⟨f.arrival, f.bytes ++ b.bytes⟩ }, []) := by
  rw [Lane.onUp, frame]
  dsimp only [Lane.insideFrame]
  rw [kind]
  exact if_neg (by omega)

theorem Lane.onUp_end {x : Lane} {f : OpenFrame} (now : Nat) (check : BitVec 32)
    (frame : x.frame = some f) :
    x.onUp l now { header := 0b11#2, payload := check } =
      ({ x with frame := none }, [decodeSpanFrame l f.arrival f.bytes check]) := by
  rw [Lane.onUp, frame]
  rfl

/-- A payload block whose four bytes are given. -/
def payloadBlock (a b c d : Byte) : Block := ⟨0b01#2, BitVec.ofNat 32 (natOfBytes [a, b, c, d])⟩

theorem payloadBlock_bytes (a b c d : Byte) : (payloadBlock a b c d).bytes = [a, b, c, d] := by
  have fits : natOfBytes [a, b, c, d] < 2 ^ 32 :=
    (natOfBytes_lt [a, b, c, d]).trans_le (Nat.pow_mul 2 8 4).ge
  rw [Block.bytes, payloadBlock, BitVec.toNat_ofNat, Nat.mod_eq_of_lt fits]
  exact beBytes_natOfBytes [a, b, c, d]

/-- The rest of a frame under reception, four bytes to a block. -/
theorem Lane.run_frame (later : Nat) (check : BitVec 32) (bytes : List Byte) (four : bytes.length % 4 = 0)
    (before : List Byte) (fits : before.length + bytes.length < 256) (x : Lane) (aligned : x.aligned = true)
    (frame : x.frame = some ⟨arrival, before⟩) :
    Lane.run l .up ((payloadBlocks bytes ++ [({ header := 0b11#2, payload := check } : Block)]).map
        fun b => (later, b)) x =
      [decodeSpanFrame l arrival (before ++ bytes) check] := by
  induction bytes using payloadBlocks.induct generalizing before x with
  | case1 a b c d rest ih =>
    have length : before.length + 4 + rest.length < 256 := by
      simp only [List.length_cons] at fits
      omega
    have fourLeft : rest.length % 4 = 0 := by
      simp only [List.length_cons] at four
      omega
    have made := Lane.onUp_payload (l := l) (b := payloadBlock a b c d) later frame rfl (by
      rw [payloadBlock_bytes, List.length_append]
      simp only [List.length_cons, List.length_nil]
      omega)
    obtain ⟨silent, still, extended⟩ := Lane.receive_valid (b := payloadBlock a b c d) nofun aligned made aligned
    rw [payloadBlock_bytes] at extended
    have run := ih fourLeft (before ++ [a, b, c, d]) (by simpa using length) _ still extended
    rw [List.append_assoc] at run
    change (x.receive l .up later (payloadBlock a b c d)).2 ++ Lane.run l .up _ _ = _
    rw [silent]
    exact run
  | case2 bytes short =>
    have empty : bytes = [] := by
      match bytes, four, short with
      | [], _, _ => rfl
      | a :: b :: c :: d :: rest, _, short => exact absurd rfl (short a b c d rest)
    subst empty
    obtain ⟨given, -, -⟩ := Lane.receive_valid (b := { header := 0b11#2, payload := check }) nofun aligned
      (Lane.onUp_end later check frame) aligned
    change (x.receive l .up later _).2 ++ Lane.run l .up [] _ = _
    rw [given, List.append_nil]
    rfl

/-- Settles O54: the fields of each kind read back, and the frame assembled block by block. -/
theorem spanFramesRoundTrip : Obligations.SpanFramesRoundTrip := by
  refine ⟨fun c l arrival bytes payload kinds => ⟨?_, fun x wrong => decodeSpanFrame_failed wrong⟩,
    fun l arrival bytes kind => decodeSpanFrame_unknown kind,
    fun l arrival later bytes check x four fits aligned frame => ?_⟩
  · obtain ⟨h, rfl⟩ | ⟨e, rfl⟩ | ⟨g, a, rfl⟩ | ⟨m, rfl⟩ := kinds <;> cases payload
    · exact decodeSpanFrame_hello h
    · exact decodeSpanFrame_echo e
    · exact decodeSpanFrame_trimDone g a
    · exact decodeSpanFrame_mark m
  · obtain ⟨silent, still, opened⟩ := Lane.receive_valid (b := startBlock) nofun aligned
      (Lane.onUp_start arrival frame) aligned
    change (x.receive l .up arrival startBlock).2 ++ Lane.run l .up _ _ = _
    rw [silent]
    exact Lane.run_frame later check bytes four [] (by simpa using fits) _ still opened

end Sys2Proof.Machine
end

section
/-!
PROOFS. SET LINK (R67, R70, R95).
-/

namespace Sys2Proof.Machine

variable {s t u v : State} {l m : Link} {p : Port} {tag : Byte} {n w : Nat} {c : LinkSettings} {enable : Bool}

/-! ### The request and its reply -/

/-- The body of a SET LINK (12). -/
def setLinkBody (l : Link) (enable : Bool) (n w : Nat) (c : LinkSettings) : List Byte :=
  byteOf l.val ++ [flagByte enable] ++ byteOf n ++ beBytes 2 w ++ c.bytes

theorem LinkSettings.bytes_length (c : LinkSettings) : c.bytes.length = 27 := by simp [LinkSettings.bytes]

theorem setLinkBody_length : (setLinkBody l enable n w c).length = 32 := by
  simp [setLinkBody, LinkSettings.bytes_length]

/-- The fields of a SET LINK before the settings, read back. -/
theorem setLinkFields (few : n < 256) (fits : w < 65536) :
    linkOf (field (setLinkBody l enable n w c) 0 1) = some l ∧
      flagField (setLinkBody l enable n w c) 1 = some enable ∧
      field (setLinkBody l enable n w c) 2 1 = n ∧ field (setLinkBody l enable n w c) 3 2 = w := by
  simp only [setLinkBody, flagField, List.append_assoc]
  refine ⟨?_, ?_, ?_, ?_⟩
  all_goals simp (disch := simp) only [field_append, field_zero_append,
    byteOf_length, List.length_singleton, Nat.reduceSub]
  · rw [natOfBytes_byteOf (by omega), linkOf_val]
  · rw [natOfBytes_singleton, flagByte_toNat, flagOf_toNat]
  · exact natOfBytes_byteOf few
  · exact natOfBytes_beBytes 2 _ (by simpa using fits)

/-- The settings of a SET LINK, read back. -/
theorem settingsOf_setLinkBody (fits : c.fitsFields) : settingsOf (setLinkBody l enable n w c) = c := by
  obtain ⟨poll, gate, delay, asymmetry, rate, interval, phase, trim⟩ := fits
  have fields : field (setLinkBody l enable n w c) 5 2 = c.pollInterval ∧
      field (setLinkBody l enable n w c) 7 4 = c.delayGate ∧
      field (setLinkBody l enable n w c) 11 4 = c.maxDelay ∧
      field (setLinkBody l enable n w c) 15 4 = c.asymmetry ∧
      field (setLinkBody l enable n w c) 19 4 = c.rateUncertainty ∧
      field (setLinkBody l enable n w c) 23 1 = c.trimInterval ∧
      field (setLinkBody l enable n w c) 24 4 = c.phaseLimit ∧
      field (setLinkBody l enable n w c) 28 4 = c.rateTrimLimit := by
    simp only [setLinkBody, LinkSettings.bytes, List.append_assoc]
    refine ⟨?_, ?_, ?_, ?_, ?_, ?_, ?_, ?_⟩
    all_goals simp (disch := simp) only [field_append, field_zero_append, field_all, beBytes_length,
      byteOf_length, List.length_singleton, Nat.reduceSub]
    · exact natOfBytes_beBytes 2 _ (by simpa using poll)
    · exact natOfBytes_beBytes 4 _ (by simpa using gate)
    · exact natOfBytes_beBytes 4 _ (by simpa using delay)
    · exact natOfBytes_beBytes 4 _ (by simpa using asymmetry)
    · exact natOfBytes_beBytes 4 _ (by simpa using rate)
    · exact natOfBytes_byteOf interval
    · exact natOfBytes_beBytes 4 _ (by simpa using phase)
    · exact natOfBytes_beBytes 4 _ (by simpa using trim)
  obtain ⟨f5, f7, f11, f15, f19, f23, f24, f28⟩ := fields
  simp only [settingsOf, f5, f7, f11, f15, f19, f23, f24, f28]

theorem LinkSettings.shape_eq (c : LinkSettings) : c.shape =
    { pollInterval := max 16 (min 4096 c.pollInterval)
      delayGate := min 100000 c.delayGate
      maxDelay := max 100 (min 1000000 c.maxDelay)
      asymmetry := min 100000 c.asymmetry
      rateUncertainty := min 100000 c.rateUncertainty
      trimInterval := max 1 (min 255 c.trimInterval)
      phaseLimit := min 1000000 c.phaseLimit
      rateTrimLimit := min 200000 c.rateTrimLimit } := by
  simp (disch := omega) only [LinkSettings.shape, clampRange_eq, Nat.zero_max]

theorem LinkSettings.shape_eq_self_iff (c : LinkSettings) : c.shape = c ↔ c.inRange = true := by
  rw [LinkSettings.shape_eq]
  obtain ⟨a, b, d, e, f, g, h, i⟩ := c
  simp only [LinkSettings.mk.injEq, LinkSettings.inRange, Bool.and_eq_true, decide_eq_true_eq]
  omega

/-- DONE where N, W and every setting lie within their ranges (R177). -/
theorem setLink_result (n w : Nat) (c : LinkSettings) :
    clampResult (decide (clampRange 2 16 n ≠ n) || decide (clampRange 1 600 w ≠ w) ||
      decide (c.shape ≠ c)) =
      if 2 ≤ n ∧ n ≤ 16 ∧ 1 ≤ w ∧ w ≤ 600 ∧ c.inRange then .done else .doneClamped := by
  have inRange : (decide (clampRange 2 16 n ≠ n) || decide (clampRange 1 600 w ≠ w) ||
      decide (c.shape ≠ c)) = true ↔ ¬ (2 ≤ n ∧ n ≤ 16 ∧ 1 ≤ w ∧ w ≤ 600 ∧ c.inRange = true) := by
    simp only [Bool.or_eq_true, decide_eq_true_eq, ne_eq, LinkSettings.shape_eq_self_iff,
      clampRange_eq (show 2 ≤ 16 by omega), clampRange_eq (show 1 ≤ 600 by omega)]
    by_cases settings : c.inRange = true
    · simp only [settings, not_true, or_false, and_true]
      omega
    · simp [settings]
  rw [clampResult, if_congr inRange rfl rfl, ite_not]

theorem exec_setLink (accepts : Accepts s p) (few : n < 256) (fits : w < 65536) (carried : c.fitsFields)
    (taken : s.taken p 0x31#8 tag = v)
    (done : State.endEvent v
      (v.setLinkRequest l enable (max 2 (min 16 n)) (max 1 (min 600 w)) c.shape) = t) :
    exec (.setLink p tag (setLinkBody l enable n w c)) s = .next (t.replied p 0x31#8 tag
      (if 2 ≤ n ∧ n ≤ 16 ∧ 1 ≤ w ∧ w ≤ 600 ∧ c.inRange then .done else .doneClamped)
      (t.linkSummary l ++ (t.entry l).settings.bytes)) := by
  obtain ⟨named, told, count, seconds⟩ := setLinkFields (l := l) (enable := enable) (c := c) few fits
  refine congrArg Host.Outcome.next (State.request_answered accepts 0x31#8 tag ?_)
  rw [taken, setLinkH, withLength_of_eq _ setLinkBody_length, named, withField_some, told, withField_some,
    count, seconds, settingsOf_setLinkBody carried, ← done, ← setLink_result]
  simp only [clampRange_eq (show 2 ≤ 16 by omega), clampRange_eq (show 1 ≤ 600 by omega)]
  rfl

/-! ### What the request leaves of settings and link -/

/-- The settings of an entry. -/
def State.settings (s : State) (m : Link) : LinkSettings := (s.entry m).settings

theorem State.settings_setEntry {e : RackEntry} (h : e.settings = (s.entry l).settings) :
    (s.setEntry l e).settings = s.settings := by
  funext m
  by_cases same : m = l
  · subst same
    rw [State.settings, State.entry_setEntry_same]
    exact h
  · rw [State.settings, State.entry_setEntry_ne _ _ _ _ same]
    rfl

section

variable (s : State) (l : Link)

theorem State.withdrawn_settings (f : TxFrame) : (s.withdrawn l f).settings = s.settings := by
  cases f with
  | probe n =>
    obtain ⟨p, h⟩ := (s.entry l).probeWithdrawn_eq n
    exact State.settings_setEntry (by rw [h])
  | trim g a b c d =>
    have kept : ((s.entry l).trimWithdrawn g).settings = (s.entry l).settings := by
      unfold RackEntry.trimWithdrawn
      repeat' split
      all_goals rfl
    unfold State.withdrawn
    dsimp only
    split
    · exact State.settings_setEntry kept
    · rfl
  | _ => rfl

@[simp] theorem State.linkError_settings : (s.linkError l).settings = s.settings := by
  funext m
  simp [State.settings]

@[simp] theorem State.setLink_settings (r : LinkRecord) : (s.setLink l r).settings = s.settings := rfl

@[simp] theorem State.handFrame_settings (f : TxFrame) : (s.handFrame l f).settings = s.settings := by
  unfold State.handFrame
  dsimp only
  split_ifs <;> simp [State.withdrawn_settings]

@[simp] theorem State.handProbe_settings : (s.handProbe l).settings = s.settings := by
  rw [State.handProbe, State.handFrame_settings]
  exact State.settings_setEntry rfl

@[simp] theorem State.probeIfDue_settings : (s.probeIfDue l).settings = s.settings := by
  unfold State.probeIfDue
  dsimp only
  split_ifs <;> simp [State.handWelcome]

theorem State.quarantine_settings (claimed : Option Nat) (q : QReason) :
    (s.quarantine l claimed q).settings = s.settings := by
  funext m
  rw [State.settings, State.quarantine_entry_of, State.dismissed, State.handDismiss]
  refine (congrFun (State.handFrame_settings _ l _) m).trans ?_
  exact congrFun (State.settings_setEntry (e := (s.entry l).toQuarantine claimed q) rfl) m

theorem State.writeFlags_settings : (s.writeFlags l).settings = s.settings := by
  have written := State.settings_setEntry (s := s) (l := l) (e := { s.entry l with
    degrade := (s.cru.driving l).degrade, isolate := (s.cru.driving l).isolate }) rfl
  unfold State.writeFlags State.isolateSet
  dsimp only
  split_ifs
  · exact (State.quarantine_settings _ l _ _).trans written
  · exact written
  · exact written

theorem State.endEvent_settings (before : State) : (State.endEvent before s).settings = s.settings := by
  have settled (st : State) : st.settleCru.settings = st.settings := by
    funext m
    simp [State.settings]
  rw [State.endEvent, settled]
  refine forLinks_keeps (P := fun st => st.settings = s.settings) (fun m st kept => Eq.trans ?_ kept) s rfl
  unfold State.settleFlags State.deriveFlags
  split_ifs <;> simp [State.writeFlags_settings]

end

/-! ### N and W (R67) -/

/-- A link record with its N and W. -/
def LinkRecord.rerated (r : LinkRecord) (n w : Nat) : LinkRecord :=
  { r with n := n, w := w, clearInstant :=
    if r.errorFlag then
      match r.errorTimes.getLast? with
      | some newest => some (newest + w * 1000000000)
      | none => r.clearInstant
    else r.clearInstant }

theorem State.setErrorRate_eq (s : State) (l : Link) (n w : Nat) :
    s.setErrorRate l n w = (s.setLink l ((s.link l).rerated n w)).errorRateClearDue l := rfl

/-- N and W move the error-rate flag of the link and nothing else of it. -/
theorem State.setErrorRate_at (s : State) (l : Link) (n w : Nat) : ∃ f c,
    (s.setErrorRate l n w).link l = { s.link l with n := n, w := w, errorFlag := f, clearInstant := c } ∧
      (s.setErrorRate l n w).entry l = s.entry l := by
  rw [State.setErrorRate_eq]
  unfold State.errorRateClearDue
  split
  · exact ⟨false, none, by simp [State.clearErrorRate, LinkRecord.rerated], by simp [State.clearErrorRate]⟩
  · exact ⟨_, _, State.link_setLink_same _ _ _, rfl⟩

theorem State.setErrorRate_calm (flags : FlagsMatch s l) : NoNewIsolate (s.setErrorRate l n w) l := by
  rw [State.setErrorRate_eq]
  have kept : FlagsMatch (s.setLink l ((s.link l).rerated n w)) l := ⟨flags.degrade, flags.isolate⟩
  unfold State.errorRateClearDue
  split
  · exact State.clearErrorRate_calm kept
  · exact fun set => .inl (kept.isolate.trans set)

/-- A set error-rate flag under the new W (R67). -/
theorem State.setErrorRate_flag {o : Nat} (flag : (s.link l).errorFlag = true)
    (newest : (s.link l).errorTimes.getLast? = some o) :
    (s.osc < o + w * 1000000000 → ((s.setErrorRate l n w).link l).errorFlag = true ∧
      ((s.setErrorRate l n w).link l).clearInstant = some (o + w * 1000000000)) ∧
    (o + w * 1000000000 ≤ s.osc → ((s.setErrorRate l n w).link l).errorFlag = false ∧
      ((s.setErrorRate l n w).link l).clearInstant = none ∧
      (s.setErrorRate l n w).cru.isActive .linkErrorRate (.link l) = false) := by
  have due : ((s.link l).rerated n w).clearInstant = some (o + w * 1000000000) := by
    simp only [LinkRecord.rerated, newest]
    exact if_pos flag
  rw [State.setErrorRate_eq]
  refine ⟨fun early => ?_, fun late => ?_⟩
  · rw [State.errorRateClearDue_early (by simpa using due) (by simpa using early)]
    rw [State.link_setLink_same]
    exact ⟨flag, due⟩
  · rw [State.errorRateClearDue_reached (by simpa [LinkRecord.rerated] using flag) (by simpa using due)
      (by simpa using late)]
    exact ⟨by simp [State.clearErrorRate], by simp [State.clearErrorRate], Cru.isActive_clear_self _ _ _⟩

/-! ### The enable (R70) -/

theorem State.enableLink_at (s : State) (l : Link) :
    (s.enableLink l).link l = (if (s.link l).state = .disabled then
      { (s.link l).enterDown s.osc with enable := true } else s.link l) ∧
      (s.enableLink l).entry l = s.entry l ∧ (s.enableLink l).cru = s.cru := by
  unfold State.enableLink
  dsimp only
  split <;> simp

theorem State.disableLink_disabled (disabled : (s.link l).state = .disabled) : s.disableLink l = s :=
  if_pos disabled

/-- What a link that is disabled leaves of its record and its entry (R70). -/
theorem State.disableLink_at (s : State) (l : Link) (enabled : (s.link l).state ≠ .disabled) : ∃ c,
    (s.disableLink l).link l = { s.link l with
        state := .disabled, enable := false, settleDeadline := none, trainingDeadline := none
        activity := false, errorTimes := [], checkRun := 0, errorFlag := false, clearInstant := c
        txQueue := if (s.link l).state = .up then [] else (s.link l).txQueue
        inTx := if (s.link l).state = .up then none else (s.link l).inTx } ∧
      (s.disableLink l).entry l = (s.entry l).toIdle false := by
  rw [State.disableLink]
  dsimp only
  rw [if_neg enabled]
  by_cases up : (s.link l).state = .up
  · obtain ⟨p, left⟩ := State.leaveUp_eq (r := { (s.link l).enterDisabled with enable := false }) nofun s l
      .disabled
    rw [if_pos up, left, if_pos up, if_pos up]
    generalize laid : State.emptyErrors _ l = v
    obtain ⟨c, link, entry, -⟩ := v.dropErrorRate_eq l
    refine ⟨c, ?_, ?_⟩
    · rw [link, ← laid]
      simp [State.emptyErrors, State.postLinkDown, State.linkNotice, LinkRecord.enterDisabled]
    · rw [entry, ← laid]
      simp [State.emptyErrors, State.postLinkDown, State.linkNotice, RackEntry.toIdle]
  · rw [if_neg up, if_neg up, if_neg up]
    generalize laid : State.emptyErrors _ l = v
    obtain ⟨c, link, entry, -⟩ := v.dropErrorRate_eq l
    refine ⟨c, ?_, ?_⟩
    · rw [link, ← laid]
      simp [State.emptyErrors, State.linkNotice, LinkRecord.enterDisabled]
    · rw [entry, ← laid]
      simp [State.emptyErrors, State.linkNotice]

/-! ### The request (R70, R95) -/

/-- The link side of a SET LINK: N and W, then the enable. -/
def State.linkSet (s : State) (l : Link) (enable : Bool) (n w : Nat) : State :=
  if enable then (s.setErrorRate l n w).enableLink l else (s.setErrorRate l n w).disableLink l

/-- The settings written behind it. -/
def State.settingsSet (s : State) (l : Link) (c : LinkSettings) : State :=
  s.setEntry l ((s.entry l).writeSettings c)

theorem State.setLinkRequest_eq (s : State) (l : Link) (enable : Bool) (n w : Nat) (c : LinkSettings) :
    s.setLinkRequest l enable n w c = ((s.linkSet l enable n w).settingsSet l c).probeIfDue l := rfl

theorem State.linkSet_on (s : State) (l : Link) (n w : Nat) : ∃ f i, (s.linkSet l true n w).link l =
    (if (s.link l).state = .disabled then
      { (s.link l).enterDown s.osc with enable := true, n := n, w := w, errorFlag := f, clearInstant := i }
    else { s.link l with n := n, w := w, errorFlag := f, clearInstant := i }) ∧
      (s.linkSet l true n w).entry l = s.entry l ∧
      ((s.setErrorRate l n w).link l).errorFlag = f ∧ ((s.setErrorRate l n w).link l).clearInstant = i := by
  obtain ⟨f, i, link, entry⟩ := s.setErrorRate_at l n w
  obtain ⟨linkOn, entryOn, -⟩ := (s.setErrorRate l n w).enableLink_at l
  refine ⟨f, i, linkOn.trans ?_, entryOn.trans entry, by rw [link], by rw [link]⟩
  rw [link, (OnlyLink.setErrorRate l s n w).core.osc]
  rfl

theorem State.linkSet_still (disabled : (s.link l).state = .disabled) : ∃ f i,
    (s.linkSet l false n w).link l = { s.link l with n := n, w := w, errorFlag := f, clearInstant := i } := by
  obtain ⟨f, i, link, -⟩ := s.setErrorRate_at l n w
  refine ⟨f, i, Eq.trans (congrArg (·.link l) (State.disableLink_disabled ?_)) link⟩
  rw [link]
  exact disabled

theorem State.linkSet_off (enabled : (s.link l).state ≠ .disabled) : ∃ i queue inTx,
    (s.linkSet l false n w).link l = { s.link l with
        n := n, w := w, state := .disabled, enable := false, settleDeadline := none
        trainingDeadline := none, activity := false, errorTimes := [], checkRun := 0, errorFlag := false
        clearInstant := i, txQueue := queue, inTx := inTx } ∧
      (s.linkSet l false n w).entry l = (s.entry l).toIdle false := by
  obtain ⟨f, i, link, entry⟩ := s.setErrorRate_at l n w
  obtain ⟨i', linkOff, entryOff⟩ := (s.setErrorRate l n w).disableLink_at l (by rw [link]; exact enabled)
  rw [link] at linkOff
  rw [entry] at entryOff
  exact ⟨i', _, _, linkOff, entryOff⟩

/-- What every SET LINK leaves of a link record. -/
theorem State.linkSet_kept (s : State) (l : Link) (enable : Bool) (n w : Nat) :
    ((s.linkSet l enable n w).link l).n = n ∧ ((s.linkSet l enable n w).link l).w = w ∧
      ((s.linkSet l enable n w).link l).rangeFirst = (s.link l).rangeFirst ∧
      ((s.linkSet l enable n w).link l).rangeLast = (s.link l).rangeLast := by
  cases enable with
  | true =>
    obtain ⟨f, i, link, -⟩ := s.linkSet_on l n w
    rw [link]
    split <;> exact ⟨rfl, rfl, rfl, rfl⟩
  | false =>
    by_cases disabled : (s.link l).state = .disabled
    · obtain ⟨f, i, link⟩ := State.linkSet_still (n := n) (w := w) disabled
      rw [link]
      exact ⟨rfl, rfl, rfl, rfl⟩
    · obtain ⟨i, queue, inTx, link, -⟩ := State.linkSet_off (n := n) (w := w) disabled
      rw [link]
      exact ⟨rfl, rfl, rfl, rfl⟩

/-- The link after the event of a SET LINK, up to its queue and its errors. -/
theorem State.setLinkRequest_lane (s : State) (l : Link) (enable : Bool) (n w : Nat) (c : LinkSettings) :
    (State.endEvent s (s.setLinkRequest l enable n w c)).lanes l = ((s.linkSet l enable n w).link l).lane := by
  rw [State.endEvent_lanes, State.setLinkRequest_eq, State.probeIfDue_lanes]
  rfl

theorem State.setLinkRequest_settings (s : State) (l : Link) (enable : Bool) (n w : Nat) (c : LinkSettings) :
    ((State.endEvent s (s.setLinkRequest l enable n w c)).entry l).settings = c := by
  refine (congrFun (State.endEvent_settings _ s) l).trans ?_
  rw [State.setLinkRequest_eq, State.probeIfDue_settings, State.settings, State.settingsSet,
    State.entry_setEntry_same]
  rfl

/-- A link that is disabled: its record and its entry at the end of the event (R70). -/
theorem State.setLinkRequest_off (enabled : (s.link l).state ≠ .disabled) :
    ∃ i queue inTx, (State.endEvent s (s.setLinkRequest l false n w c)).link l = { s.link l with
        n := n, w := w, state := .disabled, enable := false, settleDeadline := none
        trainingDeadline := none, activity := false, errorTimes := [], checkRun := 0, errorFlag := false
        clearInstant := i, txQueue := queue, inTx := inTx } ∧
      ((State.endEvent s (s.setLinkRequest l false n w c)).entry l).state = .idle ∧
      ((State.endEvent s (s.setLinkRequest l false n w c)).entry l).heldHello = none ∧
      ((State.endEvent s (s.setLinkRequest l false n w c)).entry l).trimTotal = 0 := by
  obtain ⟨i, queue, inTx, link, entry⟩ := State.linkSet_off (n := n) (w := w) enabled
  have quiet : ((s.linkSet l false n w).settingsSet l c).probeCanGo l = false := by
    rw [← Bool.not_eq_true, State.probeCanGo_iff]
    rintro ⟨-, up, -⟩
    rw [State.settingsSet, State.setEntry_link, link] at up
    cases up
  have made : s.setLinkRequest l false n w c = (s.linkSet l false n w).settingsSet l c :=
    State.probeIfDue_cant quiet
  have idle : ((s.linkSet l false n w).settingsSet l c).entry l =
      ((s.entry l).toIdle false).writeSettings c := by
    rw [State.settingsSet, State.entry_setEntry_same, entry]
  have ended := EndedAs.of_onlyLink (OnlyLink.setLinkRequest s l false n w c)
    (.of_state (by rw [made, idle]; rfl))
  rw [ended.entry l, ended.link l, made, idle]
  exact ⟨i, queue, inTx, link, rfl, rfl, rfl⟩

/-- Enable on, with flags that match and room for the frames of a probe. -/
theorem State.setLinkRequest_on (flags : FlagsMatch s l) (room : (s.link l).txQueue.length ≤ 30) :
    EndedAs (s.setLinkRequest l true n w c) (State.endEvent s (s.setLinkRequest l true n w c)) ∧
      (s.setLinkRequest l true n w c).cru = (s.setErrorRate l n w).cru ∧
      (∃ queue, (s.setLinkRequest l true n w c).link l =
        { (s.linkSet l true n w).link l with txQueue := queue }) ∧
      (s.setLinkRequest l true n w c).entry l =
        if ((s.linkSet l true n w).settingsSet l c).probeCanGo l then
          ((s.entry l).writeSettings c).openProbe s.osc
        else (s.entry l).writeSettings c := by
  obtain ⟨f, i, link, entry, -⟩ := s.linkSet_on l n w
  have queue : ((s.linkSet l true n w).link l).txQueue = (s.link l).txQueue := by rw [link]; split <;> rfl
  have roomy : (((s.linkSet l true n w).settingsSet l c).link l).txQueue.length ≤ 30 := by
    rw [State.settingsSet, State.setEntry_link, queue]
    exact room
  have cru : (s.setLinkRequest l true n w c).cru = (s.setErrorRate l n w).cru :=
    (State.probeIfDue_cru roomy).trans ((s.setErrorRate l n w).enableLink_at l).2.2
  have osc : ((s.linkSet l true n w).settingsSet l c).osc = s.osc :=
    (OnlyLink.enableLink (s.setErrorRate l n w) l).core.osc.trans (OnlyLink.setErrorRate l s n w).core.osc
  have written : (s.setLinkRequest l true n w c).entry l =
      if ((s.linkSet l true n w).settingsSet l c).probeCanGo l then
        ((s.entry l).writeSettings c).openProbe s.osc
      else (s.entry l).writeSettings c := by
    rw [State.setLinkRequest_eq, State.probeIfDue_entry roomy, osc, State.settingsSet,
      State.entry_setEntry_same, entry]
  refine ⟨.of_onlyLink (OnlyLink.setLinkRequest s l true n w c) ?_, cru, ?_, written⟩
  · intro set
    rw [cru] at set
    have isolate : ((s.setLinkRequest l true n w c).entry l).isolate = (s.entry l).isolate := by
      rw [written]
      split <;> rfl
    have same : ((s.setErrorRate l n w).entry l) = s.entry l := by
      obtain ⟨-, -, -, same⟩ := s.setErrorRate_at l n w
      exact same
    have service : (s.setLinkRequest l true n w c).inService l = (s.setErrorRate l n w).inService l := by
      rw [State.inService, State.inService, written, same]
      split <;> rfl
    have calm := State.setErrorRate_calm (n := n) (w := w) flags set
    rw [same] at calm
    rw [isolate, service]
    exact calm
  · cases can : ((s.linkSet l true n w).settingsSet l c).probeCanGo l with
    | true =>
      rw [State.setLinkRequest_eq, State.probeIfDue_room can roomy, State.link_setLink_same]
      exact ⟨_, rfl⟩
    | false =>
      rw [State.setLinkRequest_eq, State.probeIfDue_cant can]
      exact ⟨_, rfl⟩

/-- Settings written: the next probe due of an entry in service is reckoned again (R95). -/
theorem RackEntry.writeSettings_due (e : RackEntry) (c : LinkSettings) :
    (e.state.inService = false → (e.writeSettings c).nextProbeDue = e.nextProbeDue) ∧
    (∀ o, e.state.inService = true → e.probeReckoned = some o →
      (e.writeSettings c).nextProbeDue = some (o + c.pollInterval * 1000000)) := by
  unfold RackEntry.writeSettings
  dsimp only
  exact ⟨fun out => by rw [out], fun o service reckoned => by rw [service, reckoned]⟩

/-- The probe that a new poll interval makes due can go (R82, R95). -/
theorem State.settingsSet_probeCanGo {o : Nat} (service : s.inService l = true)
    (reckoned : (s.entry l).probeReckoned = some o) :
    ((s.linkSet l true n w).settingsSet l c).probeCanGo l = true ↔
      (s.link l).state = .up ∧ (s.entry l).probe = none ∧ s.mgp.mode = .serving ∧
        o + c.pollInterval * 1000000 ≤ s.osc := by
  obtain ⟨f, i, link, entry, -⟩ := s.linkSet_on l n w
  have core : SameCore s (s.linkSet l true n w) :=
    (OnlyLink.setErrorRate l s n w).core.trans (OnlyLink.enableLink _ l).core
  have state : ((s.linkSet l true n w).link l).state = .up ↔ (s.link l).state = .up := by
    rw [link]
    split
    · next disabled => simp [LinkRecord.enterDown, disabled]
    · rfl
  have due := ((s.entry l).writeSettings_due c).2 o service reckoned
  rw [State.probeCanGo_iff, State.inService]
  simp only [State.settingsSet, State.entry_setEntry_same, State.setEntry_link, State.setEntry_mgp,
    State.setEntry_osc, core.mgp, core.osc, entry, state, due]
  constructor
  · rintro ⟨-, up, probe, serving, d, same, late⟩
    cases same
    exact ⟨up, probe, serving, late⟩
  · rintro ⟨up, probe, serving, late⟩
    exact ⟨service, up, probe, serving, _, rfl, late⟩

/-- Settles O34: the stored values, the enable by the state of the link, and what W and the poll interval
move at once. -/
theorem setLinkRequest : Obligations.SetLinkRequest := by
  intro p tag l enable n w c s accepts few fits carried
  generalize taken : s.taken p 0x31#8 tag = v
  have same : v.link l = s.link l ∧ v.entry l = s.entry l ∧ v.osc = s.osc ∧ v.cru = s.cru ∧
      v.mgp.mode = s.mgp.mode := by
    rw [← taken]; simp
  obtain ⟨sameLink, sameEntry, osc, cru, mode⟩ := same
  refine ⟨_, exec_setLink accepts few fits carried taken rfl, (OnlyLink.setLinkRequest v l _ _ _ _).endEvent, ?_⟩
  rw [LinkSettings.shape_eq]
  generalize settings : LinkSettings.mk _ _ _ _ _ _ _ _ = x
  generalize max 2 (min 16 n) = n'
  generalize max 1 (min 600 w) = w'
  have kept := v.linkSet_kept l enable n' w'
  have lane := State.link_of_lanes (v.setLinkRequest_lane l enable n' w' x)
  obtain ⟨count, seconds, first, last⟩ := kept
  rw [sameLink] at first last
  refine ⟨by rw [lane]; exact count, by rw [lane]; exact seconds, v.setLinkRequest_settings l enable n' w' x,
    by rw [lane]; exact first, by rw [lane]; exact last, ?_, ?_, ?_, ?_, ?_⟩
  · rintro rfl disabled
    obtain ⟨f, i, link, -⟩ := v.linkSet_on l n' w'
    rw [sameLink, if_pos disabled, osc] at link
    rw [lane, link]
    exact ⟨rfl, rfl, rfl⟩
  · rintro rfl enabled
    obtain ⟨f, i, link, -⟩ := v.linkSet_on l n' w'
    rw [sameLink, if_neg enabled] at link
    rw [lane, link]
    exact ⟨rfl, rfl⟩
  · rintro rfl disabled
    obtain ⟨f, i, link⟩ := State.linkSet_still (s := v) (n := n') (w := w') (by rw [sameLink]; exact disabled)
    rw [lane, link, sameLink]
    exact disabled
  · rintro rfl enabled
    obtain ⟨i, queue, inTx, link, idle, hello, total⟩ := State.setLinkRequest_off (s := v) (n := n') (w := w')
      (c := x) (by rw [sameLink]; exact enabled)
    rw [link, idle, hello, total]
    exact ⟨rfl, rfl, rfl, rfl, rfl, rfl, rfl, rfl, rfl, rfl⟩
  · rintro rfl flags room
    obtain ⟨ended, sameCru, ⟨queue, link⟩, entry⟩ := State.setLinkRequest_on (s := v) (n := n') (w := w')
      (c := x) (l := l) ⟨by rw [sameEntry, cru]; exact flags.degrade, by rw [sameEntry, cru]; exact flags.isolate⟩
      (by rw [sameLink]; exact room)
    obtain ⟨f, i, on, still, flag, instant⟩ := v.linkSet_on l n' w'
    have error : ((v.linkSet l true n' w').link l).errorFlag = f ∧
        ((v.linkSet l true n' w').link l).clearInstant = i := by
      rw [on]
      split <;> exact ⟨rfl, rfl⟩
    have interval : x.pollInterval = max 16 (min 4096 c.pollInterval) := by rw [← settings]
    have due := (s.entry l).writeSettings_due x
    rw [ended.entry l, ended.link l, link, entry]
    dsimp only
    rw [error.1, error.2, ← flag, ← instant]
    refine ⟨fun o set newest => ?_, fun out => ?_, fun o service reckoned => ?_⟩
    · obtain ⟨early, late⟩ := State.setErrorRate_flag (s := v) (l := l) (n := n') (w := w') (o := o)
        (by rw [sameLink]; exact set) (by rw [sameLink]; exact newest)
      rw [osc] at early late
      refine ⟨early, fun reached => ?_⟩
      obtain ⟨clear, none', inactive⟩ := late reached
      exact ⟨clear, none', ended.inactive (by rw [sameCru]; exact inactive)⟩
    · rw [if_neg, sameEntry]
      · exact due.1 out
      · rw [State.probeCanGo_iff, State.inService, State.settingsSet, State.entry_setEntry_same, still,
          sameEntry]
        rintro ⟨service, -⟩
        exact absurd (out.symm.trans service) nofun
    · have can := State.settingsSet_probeCanGo (s := v) (l := l) (n := n') (w := w') (c := x) (o := o)
        (by rw [State.inService, sameEntry]; exact service) (by rw [sameEntry]; exact reckoned)
      rw [sameLink, sameEntry, mode, osc, interval] at can
      refine ⟨fun cannot => ?_, fun late up probe serving => ?_⟩
      · rw [if_neg, sameEntry]
        · exact ⟨(due.2 o service reckoned).trans (by rw [interval]), rfl⟩
        · rw [can]
          rintro ⟨up, probe, serving, late⟩
          rcases cannot with early | down | flying | setup
          · omega
          · exact down up
          · exact flying probe
          · exact absurd (setup.symm.trans serving) nofun
      · rw [if_pos (can.mpr ⟨up, probe, serving, late⟩), sameEntry, osc, ← interval]
        exact ⟨rfl, rfl⟩

end Sys2Proof.Machine
end

section
/-!
PROOFS. Exchange windows and estimates (R98, R100 to R102), and what an exchange leaves of an entry up to
its trim and its action flags (R86, R88).
-/

namespace Sys2Proof.Machine

variable {s t u v : State} {l m : Link} {w : List ExchangeRecord} {r : ExchangeRecord}

/-! ### The record of least delay (R100, R101) -/

theorem NewestLeast.mem (h : NewestLeast w r) : r ∈ w := by
  obtain ⟨older, newer, rfl, -, -⟩ := h
  simp

theorem NewestLeast.le (h : NewestLeast w r) {y : ExchangeRecord} (mem : y ∈ w) : r.delta ≤ y.delta := by
  obtain ⟨older, newer, rfl, before, after⟩ := h
  rw [List.mem_append, List.mem_cons] at mem
  obtain old | rfl | new := mem
  · exact before y old
  · exact le_rfl
  · exact (after y new).le

/-- A window that holds a record has a newest record of least delay. -/
theorem leastDelay_newest (x : ExchangeRecord) (rest : List ExchangeRecord) :
    ∃ r, leastDelay (x :: rest) = some r ∧ NewestLeast (x :: rest) r := by
  induction rest generalizing x with
  | nil => exact ⟨x, rfl, [], [], rfl, by simp, by simp⟩
  | cons y ys ih =>
    obtain ⟨best, found, least⟩ := ih y
    rw [leastDelay, found]
    dsimp only
    split
    · next smaller =>
      exact ⟨x, rfl, [], y :: ys, rfl, by simp, fun z mem => smaller.trans_le (least.le mem)⟩
    · next notSmaller =>
      obtain ⟨older, newer, split, before, after⟩ := least
      refine ⟨best, rfl, x :: older, newer, by rw [split]; rfl, fun z mem => ?_, after⟩
      obtain rfl | old := List.mem_cons.mp mem
      · exact not_lt.mp notSmaller
      · exact before z old

theorem leastDelay_of_pos (h : 0 < w.length) : ∃ r, leastDelay w = some r ∧ NewestLeast w r := by
  cases w with
  | nil => cases h
  | cons x rest => exact leastDelay_newest x rest

/-! ### A record offered to a window (R98) -/

/-- The two checks a record of non-negative delay passes to enter a window. -/
def Admissible (w : List ExchangeRecord) (r : ExchangeRecord) (gate max : Nat) : Prop :=
  r.delta ≤ max ∧ ∀ x ∈ w, r.delta ≤ x.delta + gate

theorem offerToWindow_admitted {gate max : Nat} (fits : Admissible (unwrapped w r) r gate max) :
    offerToWindow w r gate max =
      ⟨(if 8 ≤ (unwrapped w r).length then (unwrapped w r).drop 1 else unwrapped w r) ++ [r], true⟩ := by
  obtain ⟨low, gated⟩ := fits
  rw [offerToWindow_eq, if_neg (not_lt.mpr low)]
  generalize unwrapped w r = x at gated
  cases x with
  | nil => rfl
  | cons y ys =>
    obtain ⟨least, found, newest⟩ := leastDelay_newest y ys
    rw [minDelay, found]
    exact if_neg (not_lt.mpr (gated least newest.mem))

theorem offerToWindow_refused {gate max : Nat} (fails : ¬ Admissible (unwrapped w r) r gate max) :
    offerToWindow w r gate max = ⟨unwrapped w r, false⟩ := by
  rw [offerToWindow_eq]
  split
  · rfl
  · next low =>
    have gated : ∃ x ∈ unwrapped w r, x.delta + gate < r.delta := by
      by_contra none
      push Not at none
      exact fails ⟨not_lt.mp low, none⟩
    obtain ⟨x, mem, above⟩ := gated
    obtain ⟨least, found, newest⟩ := leastDelay_of_pos (List.length_pos_of_mem mem)
    rw [minDelay, found]
    refine if_pos ?_
    have below : least.delta ≤ x.delta := newest.le mem
    dsimp only
    omega

theorem unwrapped_of_later (later : ∀ x ∈ w, x.t4 < r.t4) : unwrapped w r = w := by
  unfold unwrapped
  split
  · next newest last =>
    exact if_neg (not_le.mpr (later newest (List.mem_of_getLast? last)))
  · rfl

theorem unwrapped_wrapped {y : ExchangeRecord} (last : w.getLast? = some y) (wraps : r.t4 ≤ y.t4) :
    unwrapped w r = [] := by
  unfold unwrapped
  rw [last]
  exact if_pos wraps

theorem admissible_nil {gate max : Nat} : Admissible [] r gate max ↔ r.delta ≤ max :=
  and_iff_left (by simp)

/-! ### The estimate formed (R100 to R102) -/

/-- A window of four records or more forms a FRESH estimate. -/
theorem freshEstimate_formed (four : 4 ≤ w.length) (before : Option Estimate) (asymmetry generation : Nat) :
    ∃ (est : Estimate) (ref : ExchangeRecord), freshEstimate w before asymmetry generation = some est ∧
      NewestLeast w ref ∧
      (∃ older newer, NewestLeast (w.take (w.length / 2)) older ∧ NewestLeast (w.drop (w.length / 2)) newer ∧
        est.rho = if 1000000000 ≤ (newer.t4 : Int) - older.t4
          then max (-200000) (min 200000
            (((newer.theta - older.theta) * 1000000000).tdiv ((newer.t4 : Int) - older.t4)))
          else (before.map (fun x => x.rho)).getD 0) ∧
      est.theta = ref.theta ∧ est.tau = (ref.t2 + ref.t3) / 2 ∧
      est.uRack = min 4294967295 (((ref.delta + 1) / 2).toNat + asymmetry) ∧
      est.generation = generation ∧ est.source = .fresh := by
  obtain ⟨ref, found, least⟩ := leastDelay_of_pos (w := w) (by omega)
  obtain ⟨older, foundOlder, leastOlder⟩ := leastDelay_of_pos (w := w.take (w.length / 2)) (by simp; omega)
  obtain ⟨newer, foundNewer, leastNewer⟩ := leastDelay_of_pos (w := w.drop (w.length / 2)) (by simp; omega)
  have drift : windowDrift w before = if 1000000000 ≤ (newer.t4 : Int) - older.t4
      then max (-200000) (min 200000
        (((newer.theta - older.theta) * 1000000000).tdiv ((newer.t4 : Int) - older.t4)))
      else (before.map (fun x => x.rho)).getD 0 := by
    simp only [windowDrift, driftRecords, foundOlder, foundNewer, clampSym_eq, divTrunc]
    cases before <;> rfl
  have half : divUp ref.delta 2 = (ref.delta + 1) / 2 := by unfold divUp; omega
  refine ⟨_, ref, (if_neg (by omega)).trans (congrArg (Option.map _) found), least,
    ⟨older, newer, leastOlder, leastNewer, drift⟩, rfl, rfl, ?_, rfl, rfl⟩
  dsimp only
  rw [half, satAdd_eq_min]

theorem freshEstimate_short (short : w.length < 4) (before : Option Estimate) (asymmetry generation : Nat) :
    freshEstimate w before asymmetry generation = none := if_pos short

/-! ### An entry up to its trim and its flags -/

/-- A rack entry without its trim in flight and its action flags. -/
def RackEntry.gist (e : RackEntry) : RackEntry := { e with trim := none, degrade := false, isolate := false }

def State.gist (s : State) (m : Link) : RackEntry := (s.entry m).gist

theorem RackEntry.eq_of_gist {e e' : RackEntry} (h : e'.gist = e.gist) :
    e' = { e with trim := e'.trim, degrade := e'.degrade, isolate := e'.isolate } := by
  cases e
  cases e'
  simpa [RackEntry.gist] using h

theorem State.gist_setEntry {e : RackEntry} (h : e.gist = (s.entry l).gist) : (s.setEntry l e).gist = s.gist := by
  funext m
  by_cases same : m = l
  · subst same
    rw [State.gist, State.entry_setEntry_same]
    exact h
  · rw [State.gist, State.entry_setEntry_ne _ _ _ _ same]
    rfl

section

variable (s) (l)

@[simp] theorem State.setLink_gist (x : LinkRecord) : (s.setLink l x).gist = s.gist := rfl

@[simp] theorem State.linkError_gist : (s.linkError l).gist = s.gist := by
  funext m
  simp [State.gist]

/-- A trim test moves nothing of an entry but its trim. -/
@[simp] theorem State.trimTest_gist : (s.trimTest l).gist = s.gist := by
  unfold State.trimTest
  split
  · next x built =>
    have opened := State.gist_setEntry (s := s) (l := l) (e := { s.entry l with trim := some x }) rfl
    have removed (v : State) (g : Nat) : ((v.entry l).trimWithdrawn g).gist = (v.entry l).gist := by
      unfold RackEntry.trimWithdrawn
      repeat' split
      all_goals rfl
    have withdrawn (v : State) : (v.withdrawn l x.frame).gist = v.gist := by
      unfold State.withdrawn TrimInFlight.frame
      dsimp only
      split
      · exact State.gist_setEntry (removed v _)
      · rfl
    rw [← opened]
    unfold State.handFrame
    dsimp only
    split_ifs <;> simp [withdrawn]
  · rfl

@[simp] theorem State.completeTrim_gist (x : TrimInFlight) (a : Nat) :
    (s.completeTrim l x a).gist l = ((s.entry l).completeTrim x a).gist := by
  rw [State.completeTrim, State.trimTest_gist, State.gist, State.entry_setEntry_same]

@[simp] theorem State.reportLevel_entry (old new : DriftLevel) (est : Estimate) (total : Int) (n : Nat) :
    (s.reportLevel l old new est total n).entry m = s.entry m := by
  unfold State.reportLevel
  dsimp only
  split <;> simp

@[simp] theorem State.evaluate_entry (est : Estimate) (total : Int) :
    (s.evaluate l est total).entry m = s.entry m := by
  unfold State.evaluate
  dsimp only
  split <;> simp

/-- Flags settled mid-event where no action isolates move nothing of an entry but its flags (R168). -/
theorem State.settleFlags_gist (quiet : NoIsolation s l) (before : State) :
    (State.settleFlags before s l).gist = s.gist := by
  by_cases same : before.cru.driving l = s.cru.driving l
  · rw [State.settleFlags_of_same l s same]
  · rw [State.settleFlags_moved quiet.calm same]
    exact State.gist_setEntry rfl

end

/-! ### A record offered (R86, R88, R98) -/

/-- An entry that accepts an exchange with the window after admission (R88). -/
def RackEntry.accepting (e : RackEntry) (now : Nat) (w : List ExchangeRecord) : RackEntry :=
  { e with
    window := w, lastAccepted := some now, sinceTrim := satAdd 255 e.sinceTrim 1
    state := acceptedState e.state w.length
    coastCause := if acceptedState e.state w.length = .coasting then e.coastCause else none }

/-- An entry with the estimate that its window forms (R100 to R102). -/
def RackEntry.estimating (e : RackEntry) : RackEntry :=
  { e with current :=
      (freshEstimate e.window e.current e.settings.asymmetry e.trimGeneration).or e.current }

theorem acceptedState_of_inService {x : RackState} (service : x.inService = true) (n : Nat) :
    acceptedState x n = if x = .tracking ∨ 4 ≤ n then .tracking else .acquiring := by
  cases x with
  | tracking => rfl
  | attaching => simp [acceptedState]
  | acquiring => simp [acceptedState]
  | coasting => simp [acceptedState]
  | _ => cases service

theorem State.acceptExchange_entry (s : State) (l : Link) (w : List ExchangeRecord) :
    (s.acceptExchange l w).entry l = (s.entry l).accepting s.osc w := by
  unfold State.acceptExchange
  dsimp only
  split <;> simp <;> rfl

theorem State.formEstimate_gist (quiet : NoIsolation s l) :
    (s.formEstimate l).gist l = ((s.entry l).estimating).gist := by
  unfold State.formEstimate RackEntry.estimating
  dsimp only
  split
  · next est fresh =>
    rw [fresh]
    generalize opened : s.setEntry l { s.entry l with current := some est } = v
    have acts : Acts linkLeave s (v.evaluate l est (s.entry l).trimTotal) := by
      rw [← opened]
      exact (Acts.setFresh l s fresh).trans (.evaluate l _ trivial _ _)
    rw [State.settleFlags_gist _ l (quiet.of_actions (acts.actions fun both => both.2)), State.gist,
      State.evaluate_entry, ← opened, State.entry_setEntry_same]
    rfl
  · next none =>
    rw [none]
    rfl

theorem State.offerRecord_negative (negative : r.delta < 0) : s.offerRecord l r = s.linkError l := if_pos negative

theorem State.offerRecord_refused (low : 0 ≤ r.delta)
    (fails : ¬ Admissible (unwrapped (s.entry l).window r) r (s.entry l).settings.delayGate
      (s.entry l).settings.maxDelay) :
    s.offerRecord l r = s.setEntry l { s.entry l with window := unwrapped (s.entry l).window r } := by
  rw [State.offerRecord, if_neg (not_lt.mpr low)]
  dsimp only
  rw [offerToWindow_refused fails]
  rfl

/-- A record admitted: the exchange is accepted, and an estimate formed where the window allows (R88). -/
theorem State.offerRecord_admitted (low : 0 ≤ r.delta)
    (fits : Admissible (unwrapped (s.entry l).window r) r (s.entry l).settings.delayGate
      (s.entry l).settings.maxDelay) {new : List ExchangeRecord}
    (joined : (if 8 ≤ (unwrapped (s.entry l).window r).length then (unwrapped (s.entry l).window r).drop 1
      else unwrapped (s.entry l).window r) ++ [r] = new) :
    s.offerRecord l r = ((s.acceptExchange l new).formEstimate l).trimTest l := by
  rw [State.offerRecord, if_neg (not_lt.mpr low)]
  dsimp only
  rw [offerToWindow_admitted fits, joined]
  rfl

theorem State.offerRecord_admitted_gist (quiet : NoIsolation s l) (low : 0 ≤ r.delta)
    (fits : Admissible (unwrapped (s.entry l).window r) r (s.entry l).settings.delayGate
      (s.entry l).settings.maxDelay) {new : List ExchangeRecord}
    (joined : (if 8 ≤ (unwrapped (s.entry l).window r).length then (unwrapped (s.entry l).window r).drop 1
      else unwrapped (s.entry l).window r) ++ [r] = new) :
    (s.offerRecord l r).gist l = ((s.entry l).accepting s.osc new).estimating.gist := by
  have acts : Acts linkLeave s (s.acceptExchange l new) := .acceptExchange l s fun held => by
    have length := offerToWindow_length held r (s.entry l).settings.delayGate (s.entry l).settings.maxDelay
    rw [offerToWindow_admitted fits, joined] at length
    exact length
  rw [State.offerRecord_admitted low fits joined, State.trimTest_gist,
    State.formEstimate_gist (quiet.of_actions (acts.actions fun both => both.2)), State.acceptExchange_entry]

end Sys2Proof.Machine
end

section
/-!
PROOFS. An ECHO that completes its exchange in the generation in force, and one that matches none (R85, R86).
-/

namespace Sys2Proof.Machine

variable {s t u v : State} {l m : Link} {arrival : Nat} {e : Echo} {d : ProbeDeparture}

/-! ### The exchange an ECHO completes (R85, R86) -/

theorem Acts.checkRunEnded {p : Leave} (s : State) (l : Link) : Acts p s (s.setLink l { s.link l with checkRun := 0 }) :=
  .setLink s l { s.link l with checkRun := 0 } fun ⟨queue, errors, _⟩ => ⟨queue, errors, Nat.zero_le 8⟩

/-- The state in which the eras of a matched exchange are checked (R85, R86): the probe answered, the run of
failed checks ended. -/
def State.exchanged (s : State) (l : Link) : State :=
  (s.setLink l { s.link l with checkRun := 0 }).setEntry l { s.entry l with probe := none, missed := 0 }

section

variable (s) (l)

@[simp] theorem State.exchanged_link : (s.exchanged l).link l = { s.link l with checkRun := 0 } := by simp [State.exchanged]
@[simp] theorem State.exchanged_entry : (s.exchanged l).entry l = { s.entry l with probe := none, missed := 0 } := by
  simp [State.exchanged]
@[simp] theorem State.exchanged_osc : (s.exchanged l).osc = s.osc := rfl
@[simp] theorem State.exchanged_cru : (s.exchanged l).cru = s.cru := rfl

theorem OnlyLink.exchanged : OnlyLink l s (s.exchanged l) := (OnlyLink.setLink l s _).trans (.setEntry l _ _)

theorem Acts.exchanged : Acts linkLeave s (s.exchanged l) :=
  (Acts.checkRunEnded s l).trans (.openExchange l (s.setLink l { s.link l with checkRun := 0 }))

end

theorem State.probeIfDue_later {x : Nat} (due : (s.entry l).nextProbeDue = some x) (later : s.osc < x) :
    s.probeIfDue l = s := by
  refine State.probeIfDue_cant ?_
  rw [← Bool.not_eq_true, State.probeCanGo_iff]
  rintro ⟨-, -, -, -, y, same, late⟩
  rw [due] at same
  cases same
  omega

/-- An ECHO delivered on an UP link (R63, R85). -/
def State.echoTaken (s : State) (l : Link) (e : Echo) (arrival : Nat) : State :=
  (s.setLink l { s.link l with checkRun := 0 }).takeEcho l e arrival

theorem OnlyLink.echoTaken (l : Link) (s : State) (e : Echo) (arrival : Nat) :
    OnlyLink l s (s.echoTaken l e arrival) := (OnlyLink.setLink l s _).trans (.takeEcho l _ e arrival)

/-- The leave of an ECHO: it may settle flags in its event. -/
def echoLeave : Leave := { linkLeave with flags := True }

theorem EndedAs.echoTaken (quiet : NoIsolation s l) (e : Echo) (arrival : Nat) :
    EndedAs (s.echoTaken l e arrival) (State.endEvent s (s.echoTaken l e arrival)) :=
  have acts : Acts echoLeave s (s.echoTaken l e arrival) := (Acts.checkRunEnded s l).trans
    (.takeEcho l _ trivial trivial False.elim e arrival)
  .of_onlyLink (OnlyLink.echoTaken l s e arrival) (quiet.of_actions (acts.actions fun both => both.2)).calm

theorem EndedAs.gist (h : EndedAs s t) (m : Link) : t.gist m = s.gist m := by
  rw [State.gist, h.entry m]
  rfl

theorem exec_echo (up : (s.link l).state = .up) :
    exec (.echo l arrival e) s = .next (State.endEvent s (s.echoTaken l e arrival)) := by
  have good : s.goodFrame l (fun t => t.takeEcho l e arrival) = s.echoTaken l e arrival :=
    if_pos (decide_eq_true up)
  exact congrArg (fun x => Host.Outcome.next (State.endEvent s x)) good

/-- A completed exchange of two eras (R99), and one of the RTM era by its generation check. -/
theorem State.completeExchange_apart {p : ProbeInFlight}
    (apart : ¬ (d.era = (s.tsu.convert arrival).era ∧ (s.tsu.convert arrival).era = s.rtmEra)) :
    s.completeExchange l p d e arrival =
      (s.setEntry l { s.entry l with probe := none, missed := 0 }).probeIfDue l := by
  unfold State.completeExchange
  dsimp only
  rw [State.setEntry_tsu, State.setEntry_rtmEra, if_neg apart]

theorem State.completeExchange_same {p : ProbeInFlight} {goesOn : Bool}
    (same : d.era = (s.tsu.convert arrival).era ∧ (s.tsu.convert arrival).era = s.rtmEra)
    (checked : (s.setEntry l { s.entry l with probe := none, missed := 0 }).checkGeneration l
      e.generation.toNat = (v, goesOn)) :
    s.completeExchange l p d e arrival = (if goesOn then v.offerRecord l (exchangeRecord p.number d.t1
      e.t2.toNat e.t3.toNat (s.tsu.convert arrival).hall) else v).probeIfDue l := by
  unfold State.completeExchange
  dsimp only
  rw [State.setEntry_tsu, State.setEntry_rtmEra, if_pos same, checked]

/-- Nothing an offered record moves makes a probe due. -/
theorem State.offerRecord_due (quiet : NoIsolation s l) (r : ExchangeRecord) :
    ((s.offerRecord l r).entry l).nextProbeDue = (s.entry l).nextProbeDue := by
  by_cases low : 0 ≤ r.delta
  · by_cases fits : Admissible (unwrapped (s.entry l).window r) r (s.entry l).settings.delayGate
      (s.entry l).settings.maxDelay
    · rw [RackEntry.eq_of_gist (State.offerRecord_admitted_gist quiet low fits rfl)]
      rfl
    · rw [State.offerRecord_refused low fits, State.entry_setEntry_same]
  · rw [State.offerRecord_negative (not_le.mp low), State.linkError_entry]

/-- Nothing a generation check moves makes a probe due. -/
theorem State.checkGeneration_due (s : State) (l : Link) (g : Nat) :
    ((s.checkGeneration l g).1.entry l).nextProbeDue = (s.entry l).nextProbeDue := by
  unfold State.checkGeneration
  dsimp only
  split
  · rw [State.entry_setEntry_same]
  · split
    · rfl
    · split
      · next x _ =>
        split
        · rw [RackEntry.eq_of_gist (s.completeTrim_gist l x x.applyAt)]
          rfl
        · rfl
      · rw [State.unknownGeneration, State.noticeAcquiring_entry, State.raise, State.raiseWith_entry,
          State.enterAcquiring_entry, State.entry_setEntry_same]

section

variable (h : MatchingEcho s l e d)
include h

theorem MatchingEcho.taken : s.echoTaken l e arrival = (s.setLink l
    { s.link l with checkRun := 0 }).completeExchange l ⟨e.exchange.toNat, some d⟩ d e arrival := by
  have found : ((s.setLink l { s.link l with checkRun := 0 }).entry l).matchEcho e =
      some (⟨e.exchange.toNat, some d⟩, d) := by
    rw [State.setLink_entry, RackEntry.matchEcho, h.probe]
    exact if_pos rfl
  rw [State.echoTaken, State.takeEcho, found]

/-- An exchange of two eras is discarded (R99). -/
theorem MatchingEcho.taken_apart (apart : ¬ SameEras s arrival d) : s.echoTaken l e arrival = s.exchanged l := by
  obtain ⟨x, due, later⟩ := h.later
  have completed := State.completeExchange_apart (s := s.setLink l { s.link l with checkRun := 0 }) (l := l)
    (e := e) (p := ⟨e.exchange.toNat, some d⟩) (d := d) (arrival := arrival)
    fun ⟨departed, arrived⟩ => apart ⟨departed.trans arrived, arrived⟩
  rw [h.taken, completed]
  exact State.probeIfDue_later (s := s.exchanged l) (by rw [State.exchanged_entry]; exact due) later

theorem MatchingEcho.taken_same (same : SameEras s arrival d) {goesOn : Bool}
    (checked : (s.exchanged l).checkGeneration l e.generation.toNat = (v, goesOn)) : s.echoTaken l e arrival =
      (if goesOn then v.offerRecord l (measured s arrival e d) else v).probeIfDue l := by
  have completed := State.completeExchange_same (s := s.setLink l { s.link l with checkRun := 0 }) (l := l)
    (e := e) (p := ⟨e.exchange.toNat, some d⟩) (d := d) (arrival := arrival) (v := v) (goesOn := goesOn)
    ⟨same.1.trans same.2.symm, same.2⟩ checked
  rw [h.taken, completed]
  rfl

/-- What the generation check leaves of probes and actions. -/
theorem MatchingEcho.checked_quiet {goesOn : Bool}
    (checked : (s.exchanged l).checkGeneration l e.generation.toNat = (v, goesOn)) :
    NoIsolation v l ∧ v.osc = s.osc ∧ (v.entry l).nextProbeDue = (s.entry l).nextProbeDue := by
  have state : v = ((s.exchanged l).checkGeneration l e.generation.toNat).1 := by rw [checked]
  have acts := (Acts.exchanged s l).trans
    (.checkGeneration l (s.exchanged l) False.elim e.generation.toNat)
  rw [← state] at acts
  have due := (s.exchanged l).checkGeneration_due l e.generation.toNat
  have core := (OnlyLink.checkGeneration l (s.exchanged l) e.generation.toNat).core
  rw [← state] at due core
  rw [State.exchanged_entry] at due
  exact ⟨h.quiet.of_actions (acts.actions fun both => both.2), core.osc, due⟩

/-- A record that goes on to step 4 is offered (R86). -/
theorem MatchingEcho.taken_offered (same : SameEras s arrival d)
    (checked : (s.exchanged l).checkGeneration l e.generation.toNat = (v, true)) :
    s.echoTaken l e arrival = v.offerRecord l (measured s arrival e d) := by
  obtain ⟨x, due, later⟩ := h.later
  obtain ⟨quiet, osc, kept⟩ := h.checked_quiet checked
  rw [h.taken_same same checked, if_pos rfl]
  refine State.probeIfDue_later (x := x) ((State.offerRecord_due quiet _).trans (kept.trans due)) ?_
  rw [(OnlyLink.offerRecord l v _).core.osc, osc]
  exact later

/-- One that does not is discarded (R87). -/
theorem MatchingEcho.taken_discarded (same : SameEras s arrival d)
    (checked : (s.exchanged l).checkGeneration l e.generation.toNat = (v, false)) :
    s.echoTaken l e arrival = v := by
  obtain ⟨x, due, later⟩ := h.later
  obtain ⟨-, osc, kept⟩ := h.checked_quiet checked
  rw [h.taken_same same checked, if_neg nofun]
  exact State.probeIfDue_later (x := x) (kept.trans due) (by rw [osc]; exact later)

end

/-! ### An ECHO that matches no departed probe (R85) -/

theorem State.echoTaken_late (late : (s.entry l).probe = none ∨
    ∃ q, (s.entry l).probe = some q ∧ (q.departure = none ∨ q.number ≠ e.exchange.toNat)) :
    s.echoTaken l e arrival = (s.setLink l { s.link l with checkRun := 0 }).linkError l := by
  have unmatched : ((s.setLink l { s.link l with checkRun := 0 }).entry l).matchEcho e = none := by
    rw [State.setLink_entry, RackEntry.matchEcho]
    obtain absent | ⟨q, flying, undeparted | other⟩ := late
    · rw [absent]
    · rw [flying]
      dsimp only
      rw [undeparted]
    · rw [flying]
      dsimp only
      split
      · exact if_neg other
      · rfl
  rw [State.echoTaken, State.takeEcho, unmatched]

/-! ### The generation in force -/

theorem State.checkGeneration_inForce {g : Nat} (settled : (s.entry l).unsettled = false)
    (inForce : g = (s.entry l).trimGeneration) : s.checkGeneration l g = (s, true) := by
  rw [State.checkGeneration, if_neg (ne_true_of_eq_false settled), if_pos inForce]

/-- Settles O38: the record offered in the generation in force, by whether the window admits it, and the
link error of a LATE ECHO. -/
theorem echoesTaken : Obligations.EchoesTaken := by
  refine ⟨fun l arrival e d s up quiet room service settled probe departed arrived inForce later => ?_,
    fun l arrival e s up quiet errors room late => ?_⟩
  · intro t4 w delta r ahead low
    have h : MatchingEcho s l e d := ⟨up, room, quiet, service, probe, later⟩
    have record : measured s arrival e d = r := rfl
    have taken := h.taken_offered (arrival := arrival) ⟨departed, arrived⟩
      (State.checkGeneration_inForce (s := s.exchanged l) (by simpa using settled) (by simpa using inForce))
    rw [record] at taken
    have ended := EndedAs.echoTaken quiet e arrival
    have window : unwrapped ((s.exchanged l).entry l).window r = w := by
      rw [State.exchanged_entry]
      exact unwrapped_of_later ahead
    refine ⟨_, exec_echo up, (OnlyLink.echoTaken l s e arrival).endEvent, ?_⟩
    have gist := ended.gist l
    generalize State.endEvent s (s.echoTaken l e arrival) = t at gist
    rw [taken] at gist
    by_cases fits : Admissible w r (s.entry l).settings.delayGate (s.entry l).settings.maxDelay
    · have admitted := State.offerRecord_admitted_gist (s := s.exchanged l) (l := l) (r := r)
        ⟨quiet.drift, quiet.errors⟩ low (by rw [window]; simpa using fits) rfl
      rw [window, State.exchanged_entry] at admitted
      rw [admitted] at gist
      rw [RackEntry.eq_of_gist gist]
      obtain ⟨small, gated⟩ := fits
      refine ⟨rfl, rfl, fun fails => ?_, fun _ _ => ?_⟩
      · obtain above | ⟨x, mem, above⟩ := fails
        · exact absurd small (not_le.mpr above)
        · exact absurd (gated x mem) (not_le.mpr above)
      · intro new
        refine ⟨rfl, rfl, satAdd_eq_min _ _ _, acceptedState_of_inService service _, fun short => ?_, fun four => ?_⟩
        · dsimp only [RackEntry.estimating, RackEntry.accepting]
          rw [freshEstimate_short short]
          rfl
        · obtain ⟨est, ref, formed, facts⟩ := freshEstimate_formed four (s.entry l).current
            (s.entry l).settings.asymmetry (s.entry l).trimGeneration
          refine ⟨est, ref, ?_, facts⟩
          dsimp only [RackEntry.estimating, RackEntry.accepting]
          rw [formed]
          rfl
    · have refused := State.offerRecord_refused (s := s.exchanged l) (l := l) (r := r) low
        (by rw [window]; simpa using fits)
      rw [window, State.exchanged_entry] at refused
      rw [refused, State.gist, State.gist, State.entry_setEntry_same] at gist
      rw [RackEntry.eq_of_gist gist]
      exact ⟨rfl, rfl, fun _ => ⟨rfl, rfl, rfl, rfl, rfl⟩, fun small gated => absurd ⟨small, gated⟩ fits⟩
  · have ended := EndedAs.echoTaken quiet e arrival
    refine ⟨_, exec_echo up, (OnlyLink.echoTaken l s e arrival).endEvent, ?_⟩
    rw [State.echoTaken_late late] at ended ⊢
    rw [ended.link l, ended.entry l, State.linkError_errorTimes, State.linkError_link_same,
      State.linkError_entry, State.link_setLink_same, State.setLink_entry, appendErrorTime_eq errors]
    refine ⟨?_, rfl, rfl⟩
    rw [newestErrors, List.length_append, List.length_singleton]
    rfl

end Sys2Proof.Machine
end

section
/-!
PROOFS. An ECHO beyond the generation in force (R86, R87, R98, R108, R110).
-/

namespace Sys2Proof.Machine

variable {s t u v : State} {l m : Link} {arrival : Nat} {e : Echo} {d : ProbeDeparture} {r : ExchangeRecord}
  {x : TrimInFlight} {g : Nat}

/-! ### A record offered to an empty window (R98) -/

theorem freshEstimate_alone (r : ExchangeRecord) (before : Option Estimate) (asymmetry generation : Nat) :
    freshEstimate [r] before asymmetry generation = none := rfl

/-- An entry that accepts the one record of its window forms no estimate. -/
theorem RackEntry.estimating_alone (e : RackEntry) (now : Nat) (r : ExchangeRecord) :
    (e.accepting now [r]).estimating = e.accepting now [r] := by
  dsimp only [RackEntry.estimating, RackEntry.accepting]
  rw [freshEstimate_alone]
  rfl

/-- A record offered where the window is empty, or hall time has wrapped. -/
theorem State.offerRecord_alone (quiet : NoIsolation s l) (alone : unwrapped (s.entry l).window r = [])
    (low : 0 ≤ r.delta) :
    (r.delta ≤ (s.entry l).settings.maxDelay →
      (s.offerRecord l r).gist l = ((s.entry l).accepting s.osc [r]).gist) ∧
    ((s.entry l).settings.maxDelay < r.delta →
      (s.offerRecord l r).gist l = RackEntry.gist { s.entry l with window := [] }) := by
  refine ⟨fun small => ?_, fun large => ?_⟩
  · rw [State.offerRecord_admitted_gist quiet low (new := [r]) (by rw [alone]; exact admissible_nil.mpr small)
      (by rw [alone]; rfl), RackEntry.estimating_alone]
  · rw [State.offerRecord_refused low (by rw [alone, admissible_nil]; exact not_le.mpr large), alone,
      State.gist, State.entry_setEntry_same]

/-- No offered record moves the trim generation, nor whether it is settled. -/
theorem State.offerRecord_kept (quiet : NoIsolation s l) (r : ExchangeRecord) :
    ((s.offerRecord l r).gist l).trimGeneration = (s.entry l).trimGeneration ∧
      ((s.offerRecord l r).gist l).unsettled = (s.entry l).unsettled := by
  by_cases low : 0 ≤ r.delta
  · by_cases fits : Admissible (unwrapped (s.entry l).window r) r (s.entry l).settings.delayGate
      (s.entry l).settings.maxDelay
    · rw [State.offerRecord_admitted_gist quiet low fits rfl]
      exact ⟨rfl, rfl⟩
    · rw [State.offerRecord_refused low fits, State.gist, State.entry_setEntry_same]
      exact ⟨rfl, rfl⟩
  · rw [State.offerRecord_negative (not_le.mp low), State.linkError_gist]
    exact ⟨rfl, rfl⟩

/-- A record offered to an empty window: taken where its delay fits, else without effect on the entry. -/
theorem State.offerRecord_empty (quiet : NoIsolation s l) (empty : (s.entry l).window = []) :
    (0 ≤ r.delta ∧ r.delta ≤ (s.entry l).settings.maxDelay →
      (s.offerRecord l r).gist l = ((s.entry l).accepting s.osc [r]).gist) ∧
    (¬ (0 ≤ r.delta ∧ r.delta ≤ (s.entry l).settings.maxDelay) → (s.offerRecord l r).gist l = s.gist l) := by
  have alone : unwrapped (s.entry l).window r = [] := by rw [empty]; rfl
  refine ⟨fun ⟨low, small⟩ => (State.offerRecord_alone quiet alone low).1 small, fun unfit => ?_⟩
  by_cases low : 0 ≤ r.delta
  · have large : (s.entry l).settings.maxDelay < r.delta := not_le.mp fun small => unfit ⟨low, small⟩
    rw [(State.offerRecord_alone quiet alone low).2 large, State.gist, ← empty]
  · rw [State.offerRecord_negative (not_le.mp low), State.linkError_gist]

/-! ### The generation check (R87, R108, R110) -/

theorem State.checkGeneration_unsettled (unsettled : (s.entry l).unsettled = true) : s.checkGeneration l g =
    (s.setEntry l { s.entry l with trimGeneration := g, unsettled := false }, true) := if_pos unsettled

section

variable (settled : (s.entry l).unsettled = false) (other : g ≠ (s.entry l).trimGeneration)
include settled other

theorem State.checkGeneration_foreign (trim : (s.entry l).trim = some x) (foreign : g ≠ x.generation) :
    s.checkGeneration l g = (s, false) := by
  rw [State.checkGeneration, if_neg (ne_true_of_eq_false settled), if_neg other, trim]
  exact if_neg foreign

theorem State.checkGeneration_inFlight (trim : (s.entry l).trim = some x) (own : g = x.generation) :
    s.checkGeneration l g = (s.completeTrim l x x.applyAt, true) := by
  rw [State.checkGeneration, if_neg (ne_true_of_eq_false settled), if_neg other, trim]
  exact if_pos own

theorem State.checkGeneration_unknown (absent : (s.entry l).trim = none) :
    s.checkGeneration l g = (s.unknownGeneration l g, true) := by
  rw [State.checkGeneration, if_neg (ne_true_of_eq_false settled), if_neg other, absent]

end

/-! ### An unknown generation (R87) -/

/-- An entry whose trim generation an ECHO takes. -/
def RackEntry.regenerated (e : RackEntry) (g : Nat) : RackEntry :=
  { e with trimGeneration := g, current := none, predecessor := none, window := [], state := .acquiring
           coastCause := none }

theorem State.unknownGeneration_entry (s : State) (l : Link) (g : Nat) :
    (s.unknownGeneration l g).entry l = (s.entry l).regenerated g := by
  rw [State.unknownGeneration, State.noticeAcquiring_entry, State.raise, State.raiseWith_entry,
    State.enterAcquiring_entry, State.entry_setEntry_same]
  rfl

theorem State.enterAcquiring_switches (s : State) (l : Link) :
    s.cru.SameSwitches (s.enterAcquiring l).cru ∧
      (s.enterAcquiring l).cru.list.length ≤ s.cru.list.length := by
  have cleared (k : CondKind) (c : Cru) : c.SameSwitches (c.clear k (.link l)) ∧
      (c.clear k (.link l)).list.length ≤ c.list.length := ⟨c.clear_switches _ _, c.clear_length _ _⟩
  unfold State.enterAcquiring
  dsimp only
  cases (s.entry l).state with
  | coasting => exact cleared .rackCoasting s.cru
  | lost => exact cleared .rackLost s.cru
  | quarantined =>
    obtain ⟨first, shorter⟩ := cleared .duplicateRack s.cru
    obtain ⟨second, shorter'⟩ := cleared .wrongRack (s.cru.clear .duplicateRack (.link l))
    obtain ⟨third, shorter''⟩ := cleared .twinDomain ((s.cru.clear .duplicateRack (.link l)).clear .wrongRack
      (.link l))
    exact ⟨(first.trans second).trans third, (shorter''.trans shorter').trans shorter⟩
  | _ => exact ⟨.refl _, le_rfl⟩

/-- TRIM_LOST is posted with the generation taken (R87). -/
theorem State.unknownGeneration_posts (s : State) (l : Link) (g : Nat)
    (records : s.cru.records? .trimLost = true)
    (wanted : (s.cru.wants .a .trimLost || s.cru.wants .b .trimLost) = true)
    (room : s.cru.list.length < 63) :
    (s.unknownGeneration l g).cru.list.length < 64 ∧ ∃ c ∈ (s.unknownGeneration l g).cru.list,
      c.kind = .trimLost ∧ c.scope = .link l ∧
        c.details = { oldState := some (s.entry l).state.code, newState := some RackState.acquiring.code,
                      count := some g } := by
  generalize opened : s.setEntry l { s.entry l with
    trimGeneration := g, current := none, predecessor := none, window := [] } = v
  have cru : v.cru = s.cru := by rw [← opened]; rfl
  have made : (s.unknownGeneration l g).cru = ((v.enterAcquiring l).raiseWith .trimLost (.link l)
      { oldState := some (s.entry l).state.code, newState := some RackState.acquiring.code
        count := some g } false).cru := by
    rw [State.unknownGeneration, State.noticeAcquiring_cru, opened]
    rfl
  obtain ⟨switches, length⟩ := v.enterAcquiring_switches l
  rw [cru] at switches length
  rw [made]
  refine ⟨(State.raiseWith_length _ (by omega) _ _ _ _).trans_lt (by omega), ?_⟩
  obtain ⟨c, mem, shows⟩ := State.raiseWith_shows (v.enterAcquiring l) (by omega)
    (by rw [switches.records]; exact records) (by rw [switches.wants, switches.wants]; exact wanted)
    (.link l) { oldState := some (s.entry l).state.code, newState := some RackState.acquiring.code
                count := some g } false
  exact ⟨c, mem, shows.kind, shows.scope, shows.details⟩

/-- A record offered to an entry without an estimate that is ACQUIRING posts no record but that of
LINK_ERROR_RATE. -/
theorem State.offerRecord_keeps (empty : (s.entry l).window = []) (absent : (s.entry l).current = none)
    (acquiring : (s.entry l).state = .acquiring) (room : s.cru.list.length < 64) {c : CondRecord}
    (mem : c ∈ s.cru.list) (other : c.kind ≠ .linkErrorRate) : c ∈ (s.offerRecord l r).cru.list := by
  by_cases low : 0 ≤ r.delta
  · by_cases fits : Admissible (unwrapped (s.entry l).window r) r (s.entry l).settings.delayGate
      (s.entry l).settings.maxDelay
    · have offered := State.offerRecord_admitted (new := [r]) low fits (by rw [empty]; rfl)
      generalize joined : s.setEntry l ((s.entry l).accepting s.osc [r]) = v
      have entry : v.entry l = (s.entry l).accepting s.osc [r] := by rw [← joined]; simp
      have accepted : s.acceptExchange l [r] = v := by
        rw [State.acceptExchange, ← joined]
        refine if_pos ?_
        rw [acquiring]
        rfl
      have formed : v.formEstimate l = v := by
        unfold State.formEstimate
        dsimp only
        rw [entry]
        dsimp only [RackEntry.accepting]
        rw [freshEstimate_alone]
      have tested : v.trimTest l = v := by
        refine State.trimTest_none (State.trimToBuild_no_estimate ?_)
        rw [entry]
        exact absent
      rw [offered, accepted, formed, tested, ← joined]
      exact mem
    · rw [State.offerRecord_refused low fits]
      exact mem
  · rw [State.offerRecord_negative (not_le.mp low), State.linkError]
    split
    · exact State.mem_raiseWith (s.setLink l _) room mem other _ _ _
    · exact mem

/-- An exchange that is discarded leaves the answered probe and no more (R87, R99). -/
theorem State.exchanged_ended (s : State) (l : Link) :
    (State.endEvent s (s.exchanged l)).entry l = { s.entry l with probe := none, missed := 0 } ∧
      (State.endEvent s (s.exchanged l)).link l = { s.link l with checkRun := 0 } := by
  rw [State.endEvent_of_same (OnlyLink.exchanged s l) rfl, State.settleCru_entry, State.settleCru_link]
  exact ⟨s.exchanged_entry l, s.exchanged_link l⟩

/-- The entry after a TRIM-DONE for the trim in flight, up to its trim and its flags (R92, R107). -/
theorem exec_trimDone_gist (up : (s.link l).state = .up) (quiet : NoIsolation s l)
    (trim : (s.entry l).trim = some x) {g : BitVec 8} (own : g.toNat = x.generation) {a : Nat}
    (fits : a < 18446744073709551616) (run : exec (.trimDone l g (BitVec.ofNat 64 a)) s = .next t) :
    t.gist l = ((s.entry l).completeTrim x a).gist := by
  have applied : (BitVec.ofNat 64 a).toNat = a := by
    rw [BitVec.toNat_ofNat]
    exact Nat.mod_eq_of_lt fits
  rw [exec_trimDone g _ up, Host.Outcome.next.injEq, applied, own] at run
  have taken := State.takeTrimDone_match (s := s.setLink l { s.link l with checkRun := 0 }) (l := l) (x := x)
    (by simpa using trim) a
  have ended := EndedAs.of_noIsolation quiet ((OnlyLink.setLink l s { s.link l with checkRun := 0 }).trans
    (.takeTrimDone l _ x.generation a)) ((Acts.checkRunEnded s l).trans (.takeTrimDone l _ x.generation a))
  rw [run] at ended
  rw [ended.gist, taken, State.completeTrim_gist, State.setLink_entry]

/-- Settles O39: the generation check by its cases, each with what the offered record adds. -/
theorem echoesBeyondTheGeneration : Obligations.EchoesBeyondTheGeneration := by
  intro l arrival e d s h g r x fits admitted discarded
  have ended := EndedAs.echoTaken h.quiet e arrival
  have gist := ended.gist l
  have accepted (n : Nat) (short : n < 4) : acceptedState x.state n = admitted := by
    rw [acceptedState_of_inService h.service]
    exact if_congr (or_iff_left (by omega)) rfl rfl
  refine ⟨_, exec_echo h.up, (OnlyLink.echoTaken l s e arrival).endEvent, fun apart => ?_,
    fun same unsettled => ?_, fun same settled other => ⟨fun y trim foreign => ?_, fun y u trim own inTime run => ?_,
      fun absent => ?_⟩, fun same settled inForce => ⟨fun negative errors => ?_, fun y low last wraps => ?_⟩⟩
  · rw [h.taken_apart apart]
    exact s.exchanged_ended l
  · have checked := State.checkGeneration_unsettled (s := s.exchanged l) (l := l) (g := e.generation.toNat)
      (by rw [State.exchanged_entry]; exact unsettled)
    obtain ⟨quiet, osc, -⟩ := h.checked_quiet checked
    have offered := h.taken_offered same checked
    generalize State.endEvent s (s.echoTaken l e arrival) = t at gist ⊢
    rw [offered] at gist
    generalize settled : (s.exchanged l).setEntry l _ = v at quiet osc gist
    have entry : v.entry l = { x with probe := none, missed := 0, trimGeneration := g, unsettled := false } := by
      rw [← settled, State.entry_setEntry_same, State.exchanged_entry]
    obtain ⟨f1, f2⟩ := State.offerRecord_kept quiet r
    rw [← gist, entry] at f1 f2
    refine ⟨f1, f2, fun empty fit => ?_⟩
    obtain ⟨taken, -⟩ := State.offerRecord_empty (r := r) quiet (by rw [entry]; exact empty)
    rw [taken (by rw [entry]; exact fit), entry] at gist
    rw [RackEntry.eq_of_gist gist]
    exact ⟨rfl, congrArg some osc, accepted 1 (by decide), rfl⟩
  · have checked := State.checkGeneration_foreign (s := s.exchanged l) (l := l) (g := e.generation.toNat)
      (x := y) (by rw [State.exchanged_entry]; exact settled) (by rw [State.exchanged_entry]; exact other)
      (by rw [State.exchanged_entry]; exact trim) foreign
    rw [h.taken_discarded same checked]
    exact s.exchanged_ended l
  · have checked := State.checkGeneration_inFlight (s := s.exchanged l) (l := l) (g := e.generation.toNat)
      (x := y) (by rw [State.exchanged_entry]; exact settled) (by rw [State.exchanged_entry]; exact other)
      (by rw [State.exchanged_entry]; exact trim) own
    have completed := exec_trimDone_gist h.up h.quiet trim own inTime run
    obtain ⟨quiet, osc, -⟩ := h.checked_quiet checked
    have before := (s.exchanged l).completeTrim_gist l y y.applyAt
    rw [State.exchanged_entry] at before
    have offered := h.taken_offered same checked
    generalize State.endEvent s (s.echoTaken l e arrival) = t at gist ⊢
    rw [offered] at gist
    generalize (s.exchanged l).completeTrim l y y.applyAt = v at quiet osc before gist
    have entry := RackEntry.eq_of_gist before
    obtain ⟨taken, left⟩ := State.offerRecord_empty (r := r) quiet (by rw [entry]; rfl)
    have after := RackEntry.eq_of_gist completed
    by_cases fit : fits
    · rw [taken (by rw [entry]; exact fit), entry] at gist
      rw [RackEntry.eq_of_gist gist, after]
      refine ⟨rfl, rfl, rfl, rfl, rfl, fun _ => ⟨rfl, congrArg some osc, accepted 1 (by decide), rfl⟩,
        fun unfit => absurd fit unfit⟩
    · rw [left (by rw [entry]; exact fit), before] at gist
      rw [RackEntry.eq_of_gist gist, after]
      exact ⟨rfl, rfl, rfl, rfl, rfl, fun fit' => absurd fit' fit, fun _ => ⟨rfl, rfl, rfl⟩⟩
  · have checked := State.checkGeneration_unknown (s := s.exchanged l) (l := l) (g := e.generation.toNat)
      (by rw [State.exchanged_entry]; exact settled) (by rw [State.exchanged_entry]; exact other)
      (by rw [State.exchanged_entry]; exact absent)
    obtain ⟨quiet, osc, -⟩ := h.checked_quiet checked
    have offered := h.taken_offered same checked
    have cru := ended.cru
    have posts := (s.exchanged l).unknownGeneration_posts l e.generation.toNat
    have entry := (s.exchanged l).unknownGeneration_entry l e.generation.toNat
    rw [State.exchanged_entry] at entry posts
    generalize State.endEvent s (s.echoTaken l e arrival) = t at gist cru ⊢
    rw [offered] at gist cru
    generalize (s.exchanged l).unknownGeneration l e.generation.toNat = v at quiet osc gist cru posts entry
    obtain ⟨taken, left⟩ := State.offerRecord_empty (r := r) quiet (by rw [entry]; rfl)
    have posted : s.cru.records? .trimLost = true →
        (s.cru.wants .a .trimLost || s.cru.wants .b .trimLost) = true → s.cru.list.length < 63 →
        ∃ c ∈ t.cru.list, c.kind = .trimLost ∧ c.scope = .link l ∧
          c.details = { oldState := some x.state.code, newState := some RackState.acquiring.code
                        count := some g } := by
      intro records wanted room
      obtain ⟨short, c, mem, kind, scope, details⟩ := posts records wanted room
      have kept := State.offerRecord_keeps (r := r) (by rw [entry]; rfl) (by rw [entry]; rfl)
        (by rw [entry]; rfl) short mem (by rw [kind]; exact nofun)
      refine ⟨c, ?_, kind, scope, details⟩
      rw [cru]
      exact Cru.mem_settle _ kept (by rw [kind]; exact nofun)
    by_cases fit : fits
    · rw [taken (by rw [entry]; exact fit), entry] at gist
      rw [RackEntry.eq_of_gist gist]
      exact ⟨rfl, rfl, rfl, rfl, rfl, rfl, fun _ => ⟨rfl, congrArg some osc, satAdd_eq_min _ _ _⟩,
        fun unfit => absurd fit unfit, posted⟩
    · rw [left (by rw [entry]; exact fit), State.gist, State.gist, entry] at gist
      rw [RackEntry.eq_of_gist gist]
      exact ⟨rfl, rfl, rfl, rfl, rfl, rfl, fun fit' => absurd fit' fit, fun _ => ⟨rfl, rfl⟩, posted⟩
  · have checked := State.checkGeneration_inForce (s := s.exchanged l) (l := l) (g := e.generation.toNat)
      (by rw [State.exchanged_entry]; exact settled) (by rw [State.exchanged_entry]; exact inForce)
    have taken := h.taken_offered same checked
    rw [State.offerRecord_negative negative] at taken
    rw [taken] at ended ⊢
    rw [ended.link l, ended.entry l, State.linkError_errorTimes, State.linkError_entry, State.exchanged_link,
      State.exchanged_entry, appendErrorTime_eq errors, newestErrors, List.length_append, List.length_singleton]
    exact ⟨rfl, rfl⟩
  · have checked := State.checkGeneration_inForce (s := s.exchanged l) (l := l) (g := e.generation.toNat)
      (by rw [State.exchanged_entry]; exact settled) (by rw [State.exchanged_entry]; exact inForce)
    obtain ⟨quiet, -, -⟩ := h.checked_quiet checked
    obtain ⟨small, large⟩ := State.offerRecord_alone (r := r) quiet
      (by rw [State.exchanged_entry]; exact unwrapped_wrapped last wraps) low
    have offered := h.taken_offered same checked
    generalize State.endEvent s (s.echoTaken l e arrival) = t at gist ⊢
    rw [offered] at gist
    rw [State.exchanged_entry] at small large
    by_cases fit : r.delta ≤ x.settings.maxDelay
    · have taken := gist.trans (small fit)
      rw [RackEntry.eq_of_gist taken]
      exact ⟨rfl, rfl, fun _ => ⟨rfl, rfl⟩, fun above => absurd fit (not_le.mpr above)⟩
    · have left := gist.trans (large (not_le.mp fit))
      rw [RackEntry.eq_of_gist left]
      exact ⟨rfl, rfl, fun fit' => absurd fit' fit, fun _ => rfl⟩

end Sys2Proof.Machine
end

section
/-!
PROOFS. A MARK (R68, R129, R132 to R134, R146, R149) and its dating (R136 to R141).
-/

namespace Sys2Proof.Machine

variable {s t u v : State} {l o : Link} {m : Mark} {c : Fin 4} {reason : VerdictResult} {routed : Bool}

/-! ### The class of a source (R129) -/

theorem SourceWindow.admits_iff (w : SourceWindow) (source : Nat) :
    w.admits source = true ↔ w.enable = true ∧ w.base ≤ source ∧ source ≤ w.limit := by
  simp [SourceWindow.admits, and_assoc]

theorem Sdu.classFor_eq_none_iff (d : Sdu) (source : Nat) : d.classFor source = none ↔
    ∀ w ∈ d.windows.toList, ¬ (w.enable = true ∧ w.base ≤ source ∧ source ≤ w.limit) := by
  simp only [Sdu.classFor, Option.map_eq_none_iff, List.find?_eq_none, SourceWindow.admits_iff]

/-- The lowest-numbered enabled window that holds a source gives its class. -/
theorem Sdu.classFor_lowest {d : Sdu} {source : Nat} {i : Fin 8}
    (holds : d.windows[i].admits source = true) (lower : ∀ j : Fin 8, j < i → ¬ d.windows[j].admits source = true) :
    d.classFor source = some d.windows[i].cls := by
  have found : d.windows.toList.find? (fun w => w.admits source) = some d.windows[i] := by
    rw [List.find?_eq_some_iff_getElem]
    refine ⟨holds, i.val, by simp, by simp, fun j below => ?_⟩
    have none := lower ⟨j, below.trans i.isLt⟩ below
    simpa using none
  rw [Sdu.classFor, found]
  rfl

/-! ### The four checks (R132) -/

theorem State.isRouted_iff (s : State) (l : Link) (m : Mark) : s.isRouted l m = true ↔
    (s.link l).rangeFirst ≤ m.rackIdentity.toNat ∧ m.rackIdentity.toNat ≤ (s.link l).rangeLast := by
  simp [State.isRouted]

section

variable (served : s.mgp.mode = .serving ∧ s.inService l = true)

theorem State.judgeMark_unserved (unserved : ¬ (s.mgp.mode = .serving ∧ s.inService l = true)) :
    s.judgeMark l m routed = .refused .notServed := by
  refine if_pos ?_
  cases mode : s.mgp.mode with
  | setup => exact .inl rfl
  | serving =>
    rw [mode] at unserved
    exact .inr (eq_false_of_ne_true fun service => unserved ⟨rfl, service⟩)

include served

theorem State.judgeMark_served : s.judgeMark l m routed = if routed = false then .refused .misrouted else
    match s.sdu.classFor m.sourceIdentity.toNat with
    | none => .refused .unknownSource
    | some c => if s.sdu.isFull then .refused .journalFull else .accepted c := by
  refine if_neg ?_
  rintro (setup | out)
  · exact absurd (setup.symm.trans served.1) nofun
  · exact absurd (out.symm.trans served.2) nofun

theorem State.judgeMark_unknown (unknown : s.sdu.classFor m.sourceIdentity.toNat = none) :
    s.judgeMark l m true = .refused .unknownSource := by
  rw [State.judgeMark_served served, unknown]
  rfl

theorem State.judgeMark_full (known : s.sdu.classFor m.sourceIdentity.toNat = some c)
    (full : 2048 ≤ s.sdu.journal.length) : s.judgeMark l m true = .refused .journalFull := by
  rw [State.judgeMark_served served, known]
  exact if_pos (decide_eq_true full)

theorem State.judgeMark_accepted (known : s.sdu.classFor m.sourceIdentity.toNat = some c)
    (room : s.sdu.journal.length < 2048) : s.judgeMark l m true = .accepted c := by
  have notFull : s.sdu.isFull = false := decide_eq_false (not_le.mpr room)
  rw [State.judgeMark_served served, known]
  exact if_neg (ne_true_of_eq_false notFull)

end

/-! ### A refused MARK (R133, R134, R149) -/

theorem State.refuseFull_sdu (s : State) (l : Link) : (s.refuseFull l).sdu = { s.sdu with
    journalFull := true
    fullRefusals := if s.sdu.journalFull then min 65535 (s.sdu.fullRefusals + 1) else 1 } := by
  rw [State.refuseFull, State.raise, State.raiseWith_sdu, ← satAdd_eq_min]
  rfl

theorem State.refuseMark_room (up : (s.link l).state = .up) (room : (s.link l).txQueue.length < 32)
    (reason : VerdictResult) :
    (s.refuseMark l m reason).link l = { s.link l with
      txQueue := (s.link l).txQueue ++ [.verdict reason m.markNumber.toNat none] } ∧
    (s.refuseMark l m reason).sdu = if reason = .journalFull then (s.refuseFull l).sdu else s.sdu := by
  have full (o : Link) : (s.refuseFull l).link o = s.link o := by
    rw [State.refuseFull, State.raise, State.raiseWith_link]
    rfl
  unfold State.refuseMark
  dsimp only
  split
  · rw [State.handFrame_room (by rw [full]; exact up) (by rw [full]; exact room), full]
    exact ⟨State.link_setLink_same _ _ _, rfl⟩
  · rw [State.handFrame_room up room]
    exact ⟨State.link_setLink_same _ _ _, rfl⟩

/-! ### An accepted MARK (R135, R142, R146) -/

/-- A trim test with room hands at most one frame. -/
theorem State.trimTest_link_room (up : (s.link l).state = .up) (room : (s.link l).txQueue.length < 32) :
    ∃ frames : List TxFrame, frames.length ≤ 1 ∧
      (s.trimTest l).link l = { s.link l with txQueue := (s.link l).txQueue ++ frames } := by
  cases built : s.trimToBuild l with
  | none =>
    rw [State.trimTest_none built]
    exact ⟨[], Nat.zero_le 1, by rw [List.append_nil]⟩
  | some x =>
    rw [State.trimTest_some built, State.handFrame_room (by simpa using up) (by simpa using room)]
    exact ⟨[x.frame], le_rfl, State.link_setLink_same _ _ _⟩

theorem State.chooseEstimate_room (up : (s.link l).state = .up) (room : (s.link l).txQueue.length < 32) (g : Nat) :
    ∃ frames : List TxFrame, frames.length ≤ 1 ∧
      (s.chooseEstimate l g).1.link l = { s.link l with txQueue := (s.link l).txQueue ++ frames } := by
  have still : ∃ frames : List TxFrame, frames.length ≤ 1 ∧
      s.link l = { s.link l with txQueue := (s.link l).txQueue ++ frames } :=
    ⟨[], Nat.zero_le 1, by rw [List.append_nil]⟩
  unfold State.chooseEstimate
  dsimp only
  split
  · exact still
  · split
    · exact still
    · split
      · exact still
      · split
        · next x _ =>
          exact State.trimTest_link_room (s := s.setEntry l ((s.entry l).completeTrim x x.applyAt)) up room
        · exact still

/-- The journal entry of an accepted MARK (R146). -/
def State.markEntry (s : State) (l : Link) (m : Mark) (c : Fin 4) (dating : Dating) : JournalEntry where
  sequence := s.sdu.nextSequence
  era := s.rtmEra
  link := l
  rackIdentity := m.rackIdentity.toNat
  sourceIdentity := m.sourceIdentity.toNat
  eventKind := m.eventKind.toNat
  markNumber := m.markNumber.toNat
  generation := m.generation.toNat
  cls := c
  dating := dating
  captureTime := m.captureTime.toNat

section

variable (s) (l) (c) (era : Nat) (d : Dating)

@[simp] theorem State.reportDating_link : (s.reportDating l c era d).link o = s.link o := by
  unfold State.reportDating
  repeat' split
  all_goals simp

@[simp] theorem State.reportDating_entry : (s.reportDating l c era d).entry o = s.entry o := by
  unfold State.reportDating
  repeat' split
  all_goals simp

@[simp] theorem State.reportDating_sdu : (s.reportDating l c era d).sdu = s.sdu := by
  unfold State.reportDating
  repeat' split
  all_goals simp

end

/-- The estimate a MARK is dated by, and its dating (R136 to R141). -/
def State.markDating (s : State) (l : Link) (m : Mark) (c : Fin 4) : Dating :=
  (s.chooseEstimate l m.generation.toNat).1.dateChoice l c (s.chooseEstimate l m.generation.toNat).2
    m.captureTime.toNat

theorem State.acceptMark_room (up : (s.link l).state = .up) (room : (s.link l).txQueue.length ≤ 30)
    (m : Mark) (c : Fin 4) :
    (∃ frames : List TxFrame, (s.acceptMark l m c).link l = { s.link l with
      txQueue := (s.link l).txQueue ++ frames ++
        [.verdict .accepted m.markNumber.toNat (some s.sdu.nextSequence)] }) ∧
    (s.acceptMark l m c).sdu = { s.sdu with
      journal := s.sdu.journal ++ [s.markEntry l m c (s.markDating l m c)]
      nextSequence := (s.sdu.nextSequence + 1) % 4294967296 } ∧
    (s.acceptMark l m c).entry l = (s.chooseEstimate l m.generation.toNat).1.entry l := by
  obtain ⟨frames, few, link⟩ := State.chooseEstimate_room up (by omega) m.generation.toNat
  have core := (OnlyLink.chooseEstimate (l := l) s m.generation.toNat).core
  unfold State.acceptMark State.markDating State.markEntry
  dsimp only
  generalize (s.chooseEstimate l m.generation.toNat).2 = choice
  generalize (s.chooseEstimate l m.generation.toNat).1 = v at link core
  rw [core.sdu, core.rtmEra]
  generalize v.dateChoice l c choice m.captureTime.toNat = dating
  rw [State.handFrame_room (by simpa [link] using up) (by simp [link]; omega)]
  refine ⟨⟨frames, ?_⟩, ?_, ?_⟩
  · rw [State.link_setLink_same, State.reportDating_link, State.setSdu_link, link]
  · rw [State.setLink_sdu, State.reportDating_sdu]
    rfl
  · rw [State.setLink_entry, State.reportDating_entry]
    rfl

/-! ### The event of a MARK -/

/-- A MARK delivered on an UP link (R63, R132). -/
def State.markTaken (s : State) (l : Link) (m : Mark) : State :=
  let v := s.setLink l { s.link l with checkRun := 0 }
  (v.routeMark l m).takeMark l m (v.isRouted l m)

theorem exec_markFrame (up : (s.link l).state = .up) (m : Mark) :
    exec (.markFrame l m) s = .next (State.endEvent s (s.markTaken l m)) := by
  have good : s.goodFrame l (fun t => (t.routeMark l m).takeMark l m (t.isRouted l m)) = s.markTaken l m :=
    if_pos (decide_eq_true up)
  exact congrArg (fun x => Host.Outcome.next (State.endEvent s x)) good

theorem OnlyMark.markTaken (s : State) (l : Link) (m : Mark) : OnlyMark l s (s.markTaken l m) := by
  have routed := OnlyLink.routeMark (l := l) (s.setLink l { s.link l with checkRun := 0 }) m
  exact OnlyMark.trans ((OnlyLink.setLink l s _).trans routed).mark (.takeMark _ m _)

theorem EndedAs.markTaken (quiet : NoIsolation s l) (m : Mark) :
    EndedAs (s.markTaken l m) (State.endEvent s (s.markTaken l m)) := by
  have acts : Acts linkLeave s (s.markTaken l m) :=
    (Acts.checkRunEnded s l).trans ((Acts.routeMark l _ m).trans (.takeMark l _ m _))
  refine .of_calm fun o => ?_
  by_cases same : o = l
  · rw [same]
    exact .inr (quiet.of_actions (acts.actions fun both => both.2)).calm
  · exact .inl ((OnlyMark.markTaken s l m).others o same).driving.symm

/-- The state a MARK is judged in (R68): a link error and MISROUTED_MARK where it is misrouted. -/
def State.markRouted (s : State) (l : Link) (m : Mark) : State :=
  (s.setLink l { s.link l with checkRun := 0 }).routeMark l m

theorem State.markTaken_eq (s : State) (l : Link) (m : Mark) :
    s.markTaken l m = (s.markRouted l m).takeMark l m (s.isRouted l m) := by
  have routed : (s.setLink l { s.link l with checkRun := 0 }).isRouted l m = s.isRouted l m := by
    simp [State.isRouted]
  rw [State.markTaken]
  dsimp only
  rw [routed]
  rfl

theorem State.markRouted_routed (routed : s.isRouted l m = true) :
    s.markRouted l m = s.setLink l { s.link l with checkRun := 0 } := by
  refine if_pos ?_
  simpa [State.isRouted] using routed

theorem State.markRouted_misrouted (misrouted : s.isRouted l m = false) : s.markRouted l m =
    ((s.setLink l { s.link l with checkRun := 0 }).linkError l).raise .misroutedMark (.link l) {} := by
  refine if_neg ?_
  simpa [State.isRouted] using misrouted

theorem State.markRouted_kept (s : State) (l : Link) (m : Mark) :
    ((s.markRouted l m).link l).state = (s.link l).state ∧
      ((s.markRouted l m).link l).txQueue = (s.link l).txQueue ∧ ((s.markRouted l m).link l).checkRun = 0 ∧
      (s.markRouted l m).entry l = s.entry l ∧ SameCore s (s.markRouted l m) := by
  have core : SameCore s (s.markRouted l m) :=
    (OnlyLink.setLink l s _).core.trans (OnlyLink.routeMark (l := l) _ m).core
  cases routed : s.isRouted l m with
  | true =>
    rw [State.markRouted_routed routed] at core ⊢
    exact ⟨by simp, by simp, by simp, by simp, core⟩
  | false =>
    rw [State.markRouted_misrouted routed] at core ⊢
    rw [State.raise, State.raiseWith_link, State.raiseWith_entry, State.linkError_link_same, State.linkError_entry]
    exact ⟨by simp [LinkRecord.withError], by simp [LinkRecord.withError], by simp [LinkRecord.withError],
      rfl, core⟩

/-- What every MARK leaves of its link's record: but for the queue, what the routing check left. -/
theorem State.takeMark_link (up : (s.link l).state = .up) (room : (s.link l).txQueue.length ≤ 30) :
    ∃ frames r sq, (s.takeMark l m routed).link l = { s.link l with
      txQueue := (s.link l).txQueue ++ frames ++ [.verdict r m.markNumber.toNat sq] } := by
  unfold State.takeMark
  split
  · next reason _ =>
    rw [(State.refuseMark_room up (by omega) reason).1]
    exact ⟨[], reason, none, by rw [List.append_nil]⟩
  · next c _ =>
    obtain ⟨⟨frames, link⟩, -⟩ := State.acceptMark_room up room m c
    exact ⟨frames, _, _, link⟩

/-- A refused MARK: its VERDICT, and the journal as it was, unless it was full. -/
theorem State.takeMark_refused (up : (s.link l).state = .up) (room : (s.link l).txQueue.length ≤ 30)
    (refused : s.judgeMark l m routed = .refused reason) :
    ((s.takeMark l m routed).link l).txQueue.getLast? = some (.verdict reason m.markNumber.toNat none) ∧
      (s.takeMark l m routed).sdu = if reason = .journalFull then (s.refuseFull l).sdu else s.sdu := by
  obtain ⟨link, sdu⟩ := State.refuseMark_room up (by omega) (m := m) reason
  rw [State.takeMark, refused]
  dsimp only
  rw [link, sdu]
  exact ⟨List.getLast?_concat, rfl⟩

theorem State.takeMark_accepted (accepted : s.judgeMark l m routed = .accepted c) :
    s.takeMark l m routed = s.acceptMark l m c := by
  rw [State.takeMark, accepted]

/-- Settles O45: the checks in order, each with its VERDICT, over the link the routing check left. -/
theorem marksAnswered : Obligations.MarksAnswered := by
  refine ⟨fun l m s up quiet room next => ?_, fun d source => ⟨d.classFor_eq_none_iff source, fun i holds lower => ?_⟩⟩
  · intro routed served cls verdict
    have ended := EndedAs.markTaken quiet m
    have only := (OnlyMark.markTaken s l m).endEvent
    obtain ⟨state, queue, run, entry, core⟩ := s.markRouted_kept l m
    have found := s.isRouted_iff l m
    have taken := s.markTaken_eq l m
    have served_iff : (s.markRouted l m).mgp.mode = .serving ∧ (s.markRouted l m).inService l = true ↔ served := by
      rw [core.mgp, State.inService, entry]
      rfl
    have errors : ((s.markRouted l m).link l).errorTimes =
        if s.isRouted l m then (s.link l).errorTimes else appendErrorTime (s.link l).errorTimes s.osc := by
      split
      · next routed => rw [State.markRouted_routed routed]; simp
      · next misrouted =>
        rw [State.markRouted_misrouted (eq_false_of_ne_true misrouted), State.raise, State.raiseWith_link,
          State.linkError_errorTimes]
        simp
    refine ⟨_, exec_markFrame up m, ?_⟩
    generalize State.endEvent s (s.markTaken l m) = t at ended only
    rw [taken] at ended
    have upRouted : ((s.markRouted l m).link l).state = .up := state.trans up
    have roomRouted : ((s.markRouted l m).link l).txQueue.length ≤ 30 := by rw [queue]; exact room
    obtain ⟨frames, r, sq, link⟩ := State.takeMark_link (m := m) (routed := s.isRouted l m) upRouted roomRouted
    have refused {reason : VerdictResult}
        (judged : (s.markRouted l m).judgeMark l m (s.isRouted l m) = .refused reason) :
        verdict t reason none ∧
          t.sdu = if reason = .journalFull then ((s.markRouted l m).refuseFull l).sdu else s.sdu := by
      obtain ⟨last, sdu⟩ := State.takeMark_refused upRouted roomRouted judged
      refine ⟨(congrArg (fun x => x.txQueue.getLast?) (ended.link l)).trans last, ended.core.sdu.trans ?_⟩
      rw [sdu, core.sdu]
    have known {x : Option (Fin 4)} (h : cls = x) :
        (s.markRouted l m).sdu.classFor m.sourceIdentity.toNat = x := by rw [core.sdu]; exact h
    have misroutedOf (h : ¬ routed) : s.isRouted l m = false := eq_false_of_ne_true fun yes => h (found.mp yes)
    have times : (t.link l).errorTimes = ((s.markRouted l m).link l).errorTimes := by rw [ended.link l, link]
    refine ⟨by rw [ended.link l, link]; exact run, only.others, fun routed => ?_, fun misrouted few => ?_,
      fun unserved => ?_, fun served misrouted => ?_, fun served routed unknown => ?_,
      fun c served routed holds full => ?_, fun c served routed holds short => ?_⟩
    · rw [times, errors, if_pos (found.mpr routed)]
    · rw [times, errors, if_neg (ne_true_of_eq_false (misroutedOf misrouted)), appendErrorTime_eq few,
        newestErrors, List.drop_append_of_le_length (by simp)]
      exact List.getLast?_concat
    · exact refused (State.judgeMark_unserved (mt served_iff.mp unserved))
    · refine refused ?_
      rw [State.judgeMark_served (served_iff.mpr served), misroutedOf misrouted]
      rfl
    · refine refused ?_
      rw [found.mpr routed]
      exact State.judgeMark_unknown (served_iff.mpr served) (known unknown)
    · have judged : (s.markRouted l m).judgeMark l m (s.isRouted l m) = .refused .journalFull := by
        rw [found.mpr routed]
        exact State.judgeMark_full (served_iff.mpr served) (known holds) (by rw [core.sdu]; exact full)
      obtain ⟨answered, sdu⟩ := refused judged
      refine ⟨answered, sdu.trans ((if_pos rfl).trans ?_)⟩
      rw [State.refuseFull_sdu, core.sdu]
    · have judged : (s.markRouted l m).judgeMark l m (s.isRouted l m) = .accepted c := by
        rw [found.mpr routed]
        exact State.judgeMark_accepted (served_iff.mpr served) (known holds) (by rw [core.sdu]; exact short)
      have accepted := State.takeMark_accepted judged
      obtain ⟨⟨frames, link⟩, sdu, -⟩ := State.acceptMark_room upRouted roomRouted m c
      rw [accepted] at ended
      rw [core.sdu] at link sdu
      refine ⟨?_, _, ended.core.sdu.trans sdu, ?_⟩
      · have answered := ended.link l
        rw [link] at answered
        exact (congrArg (fun x => x.txQueue.getLast?) answered).trans List.getLast?_concat
      · exact ⟨congrArg Sdu.nextSequence core.sdu, core.rtmEra, rfl, rfl, rfl, rfl, rfl, rfl, rfl, rfl⟩
  · exact Sdu.classFor_lowest ((SourceWindow.admits_iff _ _).mpr holds) fun j below admits =>
      lower j below ((SourceWindow.admits_iff _ _).mp admits)

end Sys2Proof.Machine
end

section
/-!
PROOFS. The dating of an accepted MARK (R136 to R141).
-/

namespace Sys2Proof.Machine

variable {s t u v : State} {l o : Link} {m : Mark} {c : Fin 4} {g : Nat} {x : TrimInFlight}

/-! ### The estimate chosen (R136, R137) -/

theorem RackEntry.namesPredecessor_none {e : RackEntry}
    (young : ¬ ∃ y, e.predecessor = some y ∧ y.generation = g) : e.namesPredecessor g = none := by
  unfold RackEntry.namesPredecessor
  split
  · next y held => exact if_neg fun named => young ⟨y, held, named⟩
  · rfl

theorem State.chooseEstimate_unsettled (unsettled : (s.entry l).unsettled = true) :
    s.chooseEstimate l g = (s, .undated .noEstimate) := if_pos unsettled

section

variable (settled : (s.entry l).unsettled = false)
include settled

theorem State.chooseEstimate_inForce (inForce : g = (s.entry l).trimGeneration) :
    s.chooseEstimate l g = (s, (s.entry l).currentChoice) := by
  rw [State.chooseEstimate, if_neg (ne_true_of_eq_false settled), if_pos inForce]

variable (other : g ≠ (s.entry l).trimGeneration)
include other

theorem State.chooseEstimate_predecessor {y : Estimate} (older : (s.entry l).predecessor = some y)
    (named : y.generation = g) : s.chooseEstimate l g = (s, .estimate y) := by
  have names : (s.entry l).namesPredecessor g = some y := by
    rw [RackEntry.namesPredecessor, older]
    exact if_pos named
  rw [State.chooseEstimate, if_neg (ne_true_of_eq_false settled), if_neg other, names]

section

variable (young : ¬ ∃ y, (s.entry l).predecessor = some y ∧ y.generation = g)
include young

/-- The trim in flight is completed by the MARK that names it (R137). -/
theorem State.chooseEstimate_inFlight (trim : (s.entry l).trim = some x) (named : x.generation = g) :
    s.chooseEstimate l g =
      (s.completeTrim l x x.applyAt, ((s.completeTrim l x x.applyAt).entry l).currentChoice) := by
  have names : (s.entry l).namesTrim g = some x := by
    rw [RackEntry.namesTrim, trim]
    exact if_pos named
  rw [State.chooseEstimate, if_neg (ne_true_of_eq_false settled), if_neg other,
    RackEntry.namesPredecessor_none young, names]

theorem State.chooseEstimate_stale (unnamed : ¬ ∃ y, (s.entry l).trim = some y ∧ y.generation = g) :
    s.chooseEstimate l g = (s, .undated .stale) := by
  have names : (s.entry l).namesTrim g = none := by
    unfold RackEntry.namesTrim
    split
    · next y held => exact if_neg fun named => unnamed ⟨y, held, named⟩
    · rfl
  rw [State.chooseEstimate, if_neg (ne_true_of_eq_false settled), if_neg other,
    RackEntry.namesPredecessor_none young, names]

end

end

/-- With room, the choice of an estimate posts nothing. -/
theorem State.chooseEstimate_cru (room : (s.link l).txQueue.length < 32) (g : Nat) :
    (s.chooseEstimate l g).1.cru = s.cru := by
  unfold State.chooseEstimate
  dsimp only
  split
  · rfl
  · split
    · rfl
    · split
      · rfl
      · split
        · next x _ =>
          obtain ⟨trim, r, completed, -⟩ := State.completeTrim_room room x x.applyAt
          dsimp only
          rw [completed]
          rfl
        · rfl

/-! ### Dating by an estimate (R138 to R141) -/

theorem State.uHall_of_core (core : SameCore s v) : v.uHall = s.uHall := by
  simp only [State.uHall, core.rdu, core.tsu, core.osc]

theorem State.uHall_failed (failed : s.rdu.tsState = .failed) : s.uHall = none := by
  rw [State.uHall, failed]

theorem Estimate.uncertainty_eq (y : Estimate) (capture rate u : Nat) : y.uncertainty capture rate u =
    min 4294967295 (y.uRack + (((capture : Int) - y.tau).natAbs * rate + 999999999) / 1000000000 + u) := by
  unfold Estimate.uncertainty
  dsimp only
  rw [satAdd_eq_min, divUp_natCast]
  rfl

/-- The tests of a GOOD date (R141). -/
theorem State.isGood_iff (s : State) (l : Link) (c : Fin 4) (u : Nat) : s.isGood l c u = true ↔
    (s.entry l).state = .tracking ∧ (s.entry l).degrade = false ∧ (s.entry l).isolate = false ∧
      s.rdu.tsState = .locked ∧ u ≤ s.sdu.classes[c].qualityLimit := by
  simp [State.isGood, and_assoc]

/-- What dating by an estimate reads of an entry. -/
def RackEntry.DatesAs (e e' : RackEntry) : Prop :=
  e'.state = e.state ∧ e'.degrade = e.degrade ∧ e'.isolate = e.isolate ∧ e'.settings = e.settings

/-- A capture time dated by a chosen estimate. -/
theorem State.dateBy_datedBy (core : SameCore s v) (same : (s.entry l).DatesAs (v.entry l)) (y : Estimate)
    (capture : Nat) : DatedBy s l c y capture (v.dateBy l c y capture) := by
  obtain ⟨state, degrade, isolate, settings⟩ := same
  have uHall := State.uHall_of_core core
  refine ⟨fun failed => ?_, fun u held => ?_⟩
  · rw [State.dateBy, uHall, State.uHall_failed failed]
  · rw [State.dateBy, uHall, held]
    refine ⟨fun far => if_pos far, fun near => ?_⟩
    have close : ¬ 64000000000 < (y.extrapolation capture).natAbs := not_lt.mpr near
    dsimp only
    rw [if_neg close, Estimate.uncertainty_eq, settings]
    generalize min 4294967295 _ = bound
    have good := v.isGood_iff l c bound
    rw [state, degrade, isolate, core.rdu, core.sdu] at good
    exact ⟨fun met => if_pos (good.mpr met), fun unmet => if_neg (mt good.mp unmet)⟩

theorem RackEntry.currentChoice_none {e : RackEntry} (absent : e.current = none) :
    e.currentChoice = .undated .noEstimate := by
  rw [RackEntry.currentChoice, absent]

theorem RackEntry.currentChoice_some {e : RackEntry} {y : Estimate} (current : e.current = some y) :
    e.currentChoice = .estimate y := by
  rw [RackEntry.currentChoice, current]

theorem State.markDating_undated {reason : UndatedReason}
    (chosen : s.chooseEstimate l m.generation.toNat = (v, .undated reason)) :
    s.markDating l m c = .undated reason := by
  rw [State.markDating, chosen]
  rfl

theorem State.markDating_estimate {y : Estimate}
    (chosen : s.chooseEstimate l m.generation.toNat = (v, .estimate y)) :
    s.markDating l m c = v.dateBy l c y m.captureTime.toNat := by
  rw [State.markDating, chosen]
  rfl

/-! ### The event of an accepted MARK -/

theorem State.reportDating_driving (s : State) (l o : Link) (c : Fin 4) (era : Nat) (d : Dating) :
    (s.reportDating l c era d).cru.driving o = s.cru.driving o := by
  unfold State.reportDating
  split
  · exact State.clearCond_driving_quiet rfl _ _ _
  · split
    · exact State.raiseWith_driving_quiet rfl _ _ _ _ _
    · rfl
  · rfl

/-- With room, an accepted MARK moves nothing that drives an action (R168). -/
theorem State.acceptMark_driving (up : (s.link l).state = .up) (room : (s.link l).txQueue.length ≤ 30)
    (m : Mark) (c : Fin 4) : (s.acceptMark l m c).cru.driving l = s.cru.driving l := by
  obtain ⟨frames, few, link⟩ := State.chooseEstimate_room up (by omega) m.generation.toNat
  have cru := State.chooseEstimate_cru (s := s) (l := l) (by omega) m.generation.toNat
  unfold State.acceptMark
  dsimp only
  generalize (s.chooseEstimate l m.generation.toNat).2 = choice
  generalize (s.chooseEstimate l m.generation.toNat).1 = v at link cru
  rw [State.handFrame_room (by simpa [link] using up) (by simp [link]; omega), State.setLink_cru,
    State.reportDating_driving, State.setSdu_cru, cru]

/-- The event of a MARK that is accepted: its entry in the journal, and its rack entry as the choice of an
estimate leaves it. -/
theorem State.markTaken_accepted (up : (s.link l).state = .up) (room : (s.link l).txQueue.length ≤ 30)
    (routed : s.isRouted l m = true) (opened : s.setLink l { s.link l with checkRun := 0 } = v)
    (accepted : v.judgeMark l m true = .accepted c) :
    (State.endEvent s (s.markTaken l m)).sdu.journal = s.sdu.journal ++ [v.markEntry l m c (v.markDating l m c)] ∧
      (State.endEvent s (s.markTaken l m)).entry l = (v.chooseEstimate l m.generation.toNat).1.entry l := by
  have taken : s.markTaken l m = v.acceptMark l m c := by
    rw [State.markTaken_eq, State.markRouted_routed routed, opened, routed, State.takeMark_accepted accepted]
  have upRouted : (v.link l).state = .up := by rw [← opened]; simpa using up
  have roomRouted : (v.link l).txQueue.length ≤ 30 := by rw [← opened]; simpa using room
  have only := OnlyMark.markTaken s l m
  have driving (o : Link) : s.cru.driving o = (s.markTaken l m).cru.driving o := by
    by_cases same : o = l
    · rw [same, taken, State.acceptMark_driving upRouted roomRouted, ← opened]
      rfl
    · exact (only.others o same).driving.symm
  obtain ⟨-, sdu, entry⟩ := State.acceptMark_room upRouted roomRouted m c
  rw [State.endEvent_quiet s _ driving, State.settleCru_sdu, State.settleCru_entry, taken, sdu, entry, ← opened]
  exact ⟨rfl, rfl⟩

/-- Settles O46: the choice of an estimate by generation, and the date it gives. -/
theorem marksDated : Obligations.MarksDated := by
  intro l m c s up quiet room serving service first last known short g older inFlight
  generalize opened : s.setLink l { s.link l with checkRun := 0 } = v
  have core : SameCore s v := by rw [← opened]; exact (OnlyLink.setLink l s _).core
  have entry : v.entry l = s.entry l := by rw [← opened]; simp
  have queue : (v.link l).txQueue = (s.link l).txQueue := by rw [← opened]; simp
  have accepted : v.judgeMark l m true = .accepted c :=
    State.judgeMark_accepted ⟨by rw [core.mgp]; exact serving, by rw [State.inService, entry]; exact service⟩
      (by rw [core.sdu]; exact known) (by rw [core.sdu]; exact short)
  obtain ⟨journal, after⟩ := State.markTaken_accepted up room ((s.isRouted_iff l m).mpr ⟨first, last⟩) opened
    accepted
  refine ⟨_, _, exec_markFrame up m, journal, fun unsettled => ?_, fun settled inForce absent => ?_,
    fun settled other young unnamed => ?_, fun y settled named => ?_,
    fun y u settled other young trim named inTime run => ?_⟩
  · exact State.markDating_undated (State.chooseEstimate_unsettled (by rw [entry]; exact unsettled))
  · have chosen := State.chooseEstimate_inForce (s := v) (l := l) (g := g) (by rw [entry]; exact settled)
      (by rw [entry]; exact inForce)
    rw [entry, RackEntry.currentChoice_none absent] at chosen
    exact State.markDating_undated chosen
  · exact State.markDating_undated (State.chooseEstimate_stale (by rw [entry]; exact settled)
      (by rw [entry]; exact other) (by rw [entry]; exact young) (by rw [entry]; exact unnamed))
  · have chosen : v.chooseEstimate l g = (v, .estimate y) := by
      obtain ⟨inForce, current⟩ | ⟨other, held, generation⟩ := named
      · rw [State.chooseEstimate_inForce (by rw [entry]; exact settled) (by rw [entry]; exact inForce), entry,
          RackEntry.currentChoice_some current]
      · exact State.chooseEstimate_predecessor (by rw [entry]; exact settled) (by rw [entry]; exact other)
          (by rw [entry]; exact held) generation
    rw [after, chosen, entry]
    refine ⟨rfl, ?_⟩
    dsimp only [State.markEntry]
    rw [State.markDating_estimate chosen]
    exact State.dateBy_datedBy core (by rw [entry]; exact ⟨rfl, rfl, rfl, rfl⟩) y _
  · have chosen := State.chooseEstimate_inFlight (s := v) (l := l) (g := g) (by rw [entry]; exact settled)
      (by rw [entry]; exact other) (by rw [entry]; exact young) (by rw [entry]; exact trim) named
    have own : m.generation.toNat = y.generation := named.symm
    have applied : (BitVec.ofNat 64 y.applyAt).toNat = y.applyAt := by
      rw [BitVec.toNat_ofNat]
      exact Nat.mod_eq_of_lt inTime
    have taken := State.takeTrimDone_match (s := v) (l := l) (x := y) (by rw [entry]; exact trim) y.applyAt
    have only := (OnlyLink.setLink l s { s.link l with checkRun := 0 }).trans
      (.takeTrimDone l _ y.generation y.applyAt)
    obtain ⟨next, r, completed, -⟩ := State.completeTrim_room (s := v) (l := l) (by rw [queue]; omega) y y.applyAt
    have coreAfter := core.trans (OnlyLink.completeTrim l v y y.applyAt).core
    rw [exec_trimDone m.generation _ up, Host.Outcome.next.injEq, applied, own] at run
    rw [opened, taken] at only run
    rw [State.endEvent_of_same only (by rw [completed, ← opened]; rfl)] at run
    have same : u.entry l = (v.completeTrim l y y.applyAt).entry l := by rw [← run, State.settleCru_entry]
    rw [after, chosen, same]
    dsimp only [State.markEntry]
    refine ⟨rfl, fun absent => ?_, fun z current => ?_⟩
    · rw [RackEntry.currentChoice_none absent] at chosen
      exact State.markDating_undated chosen
    · rw [RackEntry.currentChoice_some current] at chosen
      rw [State.markDating_estimate chosen]
      refine State.dateBy_datedBy coreAfter ?_ z _
      rw [completed, State.setLink_entry, State.entry_setEntry_same, entry]
      exact ⟨rfl, rfl, rfl, rfl⟩

end Sys2Proof.Machine
end
